-- ==== Sys2Proof/Word.lean ====
section
/-! DEFINITION. The words of the part's frames, and the plainest arithmetic of R1: ceil, clamp, a count that holds,
and the replacement of one element of a fixed table. -/

namespace Sys2Proof

/-- One character of a line (R155). -/
abbrev Byte := BitVec 8

/-- A data word of a master frame: two bytes, high byte first (R172). -/
abbrev Word := BitVec 16

/-- R1: "Ceil" of a quotient of whole numbers. -/
def ceilDiv (a b : Nat) : Nat := (a + b - 1) / b

/-- R1: a value "clamped to" the range from lo to hi. -/
def clampTo (lo hi x : Nat) : Nat := max lo (min hi x)

/-- A count that goes up by 1 and holds at its limit. -/
def bump (limit x : Nat) : Nat := if x < limit then x + 1 else x

/-- A table with the entry of one object changed. -/
def upd {α : Type} {n : Nat} (v : Vector α n) (i : Fin n) (f : α → α) : Vector α n :=
  v.set i.val (f v[i.val]) i.isLt

end Sys2Proof
end

