-- ==== Sys2Proof/Syntax.lean ====
section
/-! DEFINITION. The commands: one constructor for each row of spec/opcode_table.json. A station request carries what its
frame carries (R172): the port it arrived on, the index byte and the data words. A field reply carries the bytes of its
frame. An event of a timer names the object whose timer it is. -/

namespace Sys2Proof

/-- Zones 1 to 16; the zone numbered z is index z − 1. -/
abbrev ZoneId := Fin 16
/-- Fans 1 to 8; the fan numbered n is index n − 1. -/
abbrev FanId := Fin 8
/-- Gas heads 1 to 48; the head numbered h is index h − 1. -/
abbrev HeadId := Fin 48
/-- Plans 0 to 7. -/
abbrev PlanId := Fin 8
/-- Stored groups 1 to 6 (R174); group g is index g − 1. -/
abbrev GroupId := Fin 6

/-- The three station ports (R155, R165). -/
inductive Port where
  | building | alarm | override
  deriving DecidableEq, Repr

/-- Why a station frame is not valid (R156). -/
inductive FrameFault where
  /-- its first byte is not the request sync byte -/
  | badSync
  /-- its count field is above 32 -/
  | badCount
  /-- it stops short of its check word; the decoder holds it until the line has been quiet for 5 ms -/
  | incomplete
  /-- its check word is not correct -/
  | badCheck
  /-- its first character arrived before the previous response had been sent -/
  | beforeResponseEnd
  /-- its first character arrived before the start-up sequence was complete -/
  | duringStartUp
  deriving DecidableEq, Repr

/-- Why a field frame is discarded (R145, R173). -/
inductive FieldFault where
  /-- a check word or a length that is not correct -/
  | badCheck
  /-- the address of another device than the one the exchange was sent to -/
  | wrongAddress
  /-- a reply kind that R145 does not allow for the device -/
  | wrongKind
  /-- no exchange is in flight -/
  | noExchange
  deriving DecidableEq, Repr

/-- What a loss of power or the reset line found the configuration store doing (R175, R177). -/
inductive StoreCut where
  /-- no commit was cut off: every group is as its last commit left it -/
  | clean
  /-- the groups whose words no longer agree when the part starts -/
  | damaged (groups : List GroupId)
  /-- the defaults of an accepted FACTORY CLEAR were being written, and this group was being written -/
  | factoryClear (group : GroupId)
  deriving DecidableEq, Repr

/-- The commands, in the order of the table. -/
inductive Instr where
  | ping (p : Port) (index : Byte) (data : List Word)
  | read (p : Port) (object index : Byte) (data : List Word)
  | readNotices (p : Port) (index : Byte) (data : List Word)
  | ackNotices (p : Port) (index : Byte) (data : List Word)
  | setNoticeMask (p : Port) (index : Byte) (data : List Word)
  | endService (p : Port) (index : Byte) (data : List Word)
  | readAlarmList (p : Port) (index : Byte) (data : List Word)
  | ackAlarm (p : Port) (index : Byte) (data : List Word)
  | writeZone (p : Port) (index : Byte) (data : List Word)
  | writeHead (p : Port) (index : Byte) (data : List Word)
  | writeFan (p : Port) (index : Byte) (data : List Word)
  | writeNormalBudget (p : Port) (index : Byte) (data : List Word)
  | writePlan (p : Port) (index : Byte) (data : List Word)
  | selectBasePlan (p : Port) (index : Byte) (data : List Word)
  | setZoneClosure (p : Port) (index : Byte) (data : List Word)
  | setBoost (p : Port) (index : Byte) (data : List Word)
  | setFanService (p : Port) (index : Byte) (data : List Word)
  | reenrolFan (p : Port) (index : Byte) (data : List Word)
  | resetFan (p : Port) (index : Byte) (data : List Word)
  | clearCounts (p : Port) (index : Byte) (data : List Word)
  | factoryClear (p : Port) (index : Byte) (data : List Word)
  | fireAlarm (p : Port) (index : Byte) (data : List Word)
  | fireReset (p : Port) (index : Byte) (data : List Word)
  | supplyState (p : Port) (index : Byte) (data : List Word)
  | writePlanMap (p : Port) (index : Byte) (data : List Word)
  | writeStandbyBudget (p : Port) (index : Byte) (data : List Word)
  | setPlanKind (p : Port) (index : Byte) (data : List Word)
  | takeControl (p : Port) (index : Byte) (data : List Word)
  | giveControl (p : Port) (index : Byte) (data : List Word)
  | setZoneOverride (p : Port) (index : Byte) (data : List Word)
  | setFanBlock (p : Port) (index : Byte) (data : List Word)
  | selectPlan (p : Port) (index : Byte) (data : List Word)
  | returnToAutomatic (p : Port) (index : Byte) (data : List Word)
  | unknownRequest (p : Port) (code object index : Byte) (data : List Word)
  | requestFrameDiscarded (p : Port) (cause : FrameFault)
  | lineQuiet (p : Port)
  | headReply (address status : Byte) (co no2 : Word)
  | statusReply (address run speed fault : Byte)
  | abilityReply (address run speed fault mode minSpeed smokeClass : Byte)
  | extractReply (address position flag : Byte)
  | makeUpReply (address openSwitch closedSwitch flag : Byte)
  | fieldFrameDiscarded (cause : FieldFault)
  | replyTimeout
  | fallTimerExpiry (z : ZoneId)
  | boostExpiry (z : ZoneId)
  | purgeTimerExpiry
  | startLimitExpiry (n : FanId)
  | stopLimitExpiry (n : FanId)
  | restartHoldExpiry (n : FanId)
  | enrolHoldExpiry (n : FanId)
  | graceTimerExpiry
  | extractTravelTimerExpiry (z : ZoneId)
  | makeUpTravelTimerExpiry (z : ZoneId)
  | stageDownTimerExpiry
  | startUpWindowEnd
  | silenceTimerExpiry (p : Port)
  | holdOffExpiry (p : Port)
  | powerOn (cut : StoreCut)
  | resetLine (cut : StoreCut)
  | partTimeTick
  deriving DecidableEq, Repr

end Sys2Proof
end

