-- ==== Sys2Proof/WellFormed.lean ====
section
/-! DEFINITION. Which terms of Instr are commands of their row: the operands that a frame can carry (R156, R172) and that
the row of the table stands for (R143, R145, R158). -/

namespace Sys2Proof

/-- R165: the request codes of the catalogue. -/
def requestCodes : List Byte :=
  [0x01, 0x02, 0x03, 0x04, 0x05, 0x06, 0x07, 0x08, 0x10, 0x11, 0x12, 0x13, 0x14, 0x15, 0x16, 0x17, 0x18, 0x19, 0x1A,
   0x1B, 0x1C, 0x20, 0x21, 0x22, 0x23, 0x24, 0x25, 0x30, 0x31, 0x32, 0x33, 0x34, 0x35]

/-- R167: the object codes of READ. -/
def objectCodes : List Byte :=
  [0x01, 0x02, 0x03, 0x04, 0x05, 0x06, 0x07, 0x08, 0x09, 0x0A, 0x0B, 0x0C, 0x0D]

/-- R158: the code and object of a frame name a request (checks 1 and 3 pass). -/
def namesRequest (code object : Byte) : Bool :=
  requestCodes.contains code && (code != 0x02 || objectCodes.contains object)

/-- R156: a valid frame's count field is 32 or less. -/
def countFits (data : List Word) : Bool := decide (data.length ≤ 32)

/-- The operands are such as the row stands for. -/
def WellFormed : Instr → Bool
  | .ping _ _ d | .readNotices _ _ d | .ackNotices _ _ d | .setNoticeMask _ _ d | .endService _ _ d
  | .readAlarmList _ _ d | .ackAlarm _ _ d | .writeZone _ _ d | .writeHead _ _ d | .writeFan _ _ d
  | .writeNormalBudget _ _ d | .writePlan _ _ d | .selectBasePlan _ _ d | .setZoneClosure _ _ d | .setBoost _ _ d
  | .setFanService _ _ d | .reenrolFan _ _ d | .resetFan _ _ d | .clearCounts _ _ d | .factoryClear _ _ d
  | .fireAlarm _ _ d | .fireReset _ _ d | .supplyState _ _ d | .writePlanMap _ _ d | .writeStandbyBudget _ _ d
  | .setPlanKind _ _ d | .takeControl _ _ d | .giveControl _ _ d | .setZoneOverride _ _ d | .setFanBlock _ _ d
  | .selectPlan _ _ d | .returnToAutomatic _ _ d => countFits d
  | .read _ object _ d => objectCodes.contains object && countFits d
  | .unknownRequest _ code object _ d => !namesRequest code object && countFits d
  | .headReply a _ _ _ => decide (1 ≤ a.toNat ∧ a.toNat ≤ 48)
  | .statusReply a _ _ _ => decide (65 ≤ a.toNat ∧ a.toNat ≤ 72)
  | .abilityReply a _ _ _ _ _ _ => decide (65 ≤ a.toNat ∧ a.toNat ≤ 72)
  | .extractReply a _ _ => decide (97 ≤ a.toNat ∧ a.toNat ≤ 112)
  | .makeUpReply a _ _ _ => decide (113 ≤ a.toNat ∧ a.toNat ≤ 128)
  | .requestFrameDiscarded _ _ | .lineQuiet _ | .fieldFrameDiscarded _ | .replyTimeout
  | .fallTimerExpiry _ | .boostExpiry _ | .purgeTimerExpiry | .startLimitExpiry _ | .stopLimitExpiry _
  | .restartHoldExpiry _ | .enrolHoldExpiry _ | .graceTimerExpiry | .extractTravelTimerExpiry _
  | .makeUpTravelTimerExpiry _ | .stageDownTimerExpiry | .startUpWindowEnd | .silenceTimerExpiry _ | .holdOffExpiry _
  | .powerOn _ | .resetLine _ | .partTimeTick => true

end Sys2Proof
end

