-- ==== Sys2Proof/Config.lean ====
section
/-! DEFINITION. The fixed figures of the part that the chapters give, and the one figure of the model. The spec leaves
no result undefined after which the part goes on, so there is no free value here. -/

namespace Sys2Proof.Config

/-- R2: the value at which part time holds. -/
def lastTime : Nat := 4294967295
/-- R134: the greatest sequence, after which the counter continues at 1. -/
def lastSequence : Nat := 4294967295
/-- R15, R27, R95: the value at which the counts hold. -/
def lastCount : Nat := 65535
/-- R133: the value at which a raise count holds. -/
def lastRaise : Nat := 255
/-- R133: the entries the alarm list can hold. -/
def listSize : Nat := 32
/-- R139: the entries one READ ALARM LIST returns at most. -/
def pageSize : Nat := 6
/-- R20: the fall timer, in seconds. -/
def fallTime : Nat := 10
/-- R20: the points by which an expiry of the fall timer lowers the demand. -/
def fallStep : Nat := 5
/-- R80: the enrolment hold, in seconds. -/
def enrolHold : Nat := 10
/-- R90: the path-loss grace, in seconds. -/
def graceTime : Nat := 10
/-- R102: the travel limit of every make-up damper, in seconds. -/
def makeUpTravel : Nat := 60
/-- R98: the half width of the band in which an extract damper has arrived. -/
def band : Nat := 5
/-- R108: the least feedback that proves the path. -/
def provingFeedback : Nat := 20
/-- R116: the start-up window, in seconds. -/
def startUpWindow : Nat := 60
/-- R124: the stage-down hold, in seconds. -/
def stageDownTime : Nat := 60
/-- R148: the commands in a row after which the line carries a poll. -/
def commandsInRow : Nat := 4
/-- R150: the misses in a row at which a device is declared lost. -/
def missLimit : Nat := 3
/-- R78: the plain answers that show a fixed-speed starter. -/
def plainLimit : Nat := 3
/-- R159: the silence limit of a port, in seconds. -/
def silenceLimit : Port → Nat
  | .building => 120
  | .alarm => 30
  | .override => 30
/-- The model's bound on the passes of one chain (R131); no chain is that long (log 11). -/
def chainBound : Nat := 32

end Sys2Proof.Config
end

