-- ==== Sys2Proof/Machine/Records.lean ====
section
/-! DEFINITION. The records the ten blocks own (00_scope.md, Blocks), with the values of their fields by name. Each
structure's docstring names the rule that gives its fields. -/

namespace Sys2Proof.Machine

/-! ### Zone evaluator -/

/-- The two gases a head can measure. -/
inductive Gas where
  | co | no2
  deriving DecidableEq, Repr

/-- R5: a zone configuration record. -/
structure ZoneConfig where
  fitted : Bool := false
  qn : Nat := 600
  qs : Nat := 1500
  coStart : Nat := 50
  coFull : Nat := 150
  coAlarm : Nat := 200
  no2Start : Nat := 20
  no2Full : Nat := 50
  no2Alarm : Nat := 80
  floor : Nat := 0
  fallback : Nat := 50
  confirm : Nat := 3
  minPosition : Nat := 10
  travelLimit : Nat := 90
  deriving DecidableEq, Repr

/-- What the evaluator holds of one gas of one zone (R16 to R18, R24). -/
structure GasRow where
  /-- the zone gas value -/
  value : Option Nat := none
  ramp : Nat := 0
  /-- whether R18 gave the fallback -/
  fallback : Bool := false
  /-- the confirmation count -/
  count : Nat := 0
  /-- gas-high is active -/
  high : Bool := false
  deriving DecidableEq, Repr

/-- R22, R23: a boost that runs. -/
structure Boost where
  percent : Nat
  left : Nat
  deriving DecidableEq, Repr

/-- The evaluator's row of one zone (R5, R16 to R29). -/
structure Zone where
  config : ZoneConfig := {}
  co : GasRow := {}
  no2 : GasRow := {}
  target : Nat := 0
  demand : Nat := 0
  /-- the fall timer: stopped, or its seconds left -/
  fall : Option Nat := none
  boost : Option Boost := none
  highEvents : Nat := 0
  deriving DecidableEq, Repr

/-- R9: the gases a head carries. -/
inductive Carried where
  | co | no2 | both
  deriving DecidableEq, Repr

/-- R9: the stored fields of a head record. -/
structure HeadConfig where
  fitted : Bool
  zone : ZoneId
  carries : Carried
  deriving DecidableEq, Repr

/-- R9: the state of a head. -/
inductive HeadState where
  | unknown | valid | sensorFault | missing
  deriving DecidableEq, Repr

/-- R9: a head record. -/
structure Head where
  config : HeadConfig
  state : HeadState := .unknown
  co : Option Nat := none
  no2 : Option Nat := none
  misses : Nat := 0
  deriving DecidableEq, Repr

/-! ### Plan controller -/

/-- R56: the role of a zone. A plan's role is an Option: KEEP is none (R30). -/
inductive Role where
  | extract | isolate | makeUp | gas
  deriving DecidableEq, Repr

/-- R30: the kind of a plan bank. -/
inductive PlanKind where
  | normal | smoke
  deriving DecidableEq, Repr

/-- R30: a plan bank. -/
structure PlanBank where
  kind : PlanKind
  roles : Vector (Option Role) 16 := Vector.replicate 16 none
  cls : Nat := 1
  purge : Nat
  deriving DecidableEq, Repr

/-- R36: the incident level. -/
inductive Level where
  | none | fire | manual
  deriving DecidableEq, Repr

/-- R42: the cause record. -/
structure Cause where
  zone : ZoneId
  entered : Option PlanId
  time : Nat
  writtenAt : Level
  deriving DecidableEq, Repr

/-- R30, R31, R36: what the plan controller holds. -/
structure PlanControl where
  banks : Vector PlanBank 8
  map : Vector (Option PlanId) 16
  base : PlanId
  current : PlanId
  saved : PlanId
  level : Level
  /-- zone z is a member while bit z − 1 is set -/
  fireSet : BitVec 16
  cause : Option Cause
  purge : Option Nat
  deriving DecidableEq, Repr

/-! ### Role resolver -/

/-- R60: the override control state. -/
inductive Control where
  | notInControl | inControl
  deriving DecidableEq, Repr

/-- R56: the authority layers, highest first. -/
inductive Layer where
  | override | plan | building | default
  deriving DecidableEq, Repr

/-- R72: what the role resolver holds. A closure mark is true while the zone is closed. -/
structure Resolver where
  control : Control
  overrides : Vector (Option Role) 16
  closures : Vector Bool 16
  blocks : Vector Bool 8
  roles : Vector Role 16
  layers : Vector Layer 16
  smoke : Bool
  cls : Nat
  deriving DecidableEq, Repr

/-! ### Fan sequencer -/

/-- R73: service of a fan. -/
inductive Service where
  | inService | outOfService
  deriving DecidableEq, Repr

/-- R73: the stored fields of a fan record. -/
structure FanConfig where
  fitted : Bool := false
  flow : Nat := 400
  power : Nat := 550
  minSpeed : Nat := 25
  cls : Nat := 0
  startLimit : Nat := 30
  stopLimit : Nat := 60
  restartHold : Nat := 15
  service : Service := .inService
  deriving DecidableEq, Repr

/-- R74: the state of a fan. -/
inductive FanState where
  | absent | enrolling | enrolHold | ready | restartHold | starting | running | stopping | tripped | lost
  deriving DecidableEq, Repr

/-- R74, R77: the control mode of a drive. -/
inductive Mode where
  | variable | fixed
  deriving DecidableEq, Repr

/-- R74: the drive ability. -/
inductive Ability where
  | starter
  | drive (mode : Mode) (minSpeed cls : Nat)
  deriving DecidableEq, Repr

/-- R77: the run state of a drive. -/
inductive RunState where
  | stopped | accelerating | atSpeed | decelerating
  deriving DecidableEq, Repr

/-- R77: a drive report. -/
structure DriveReport where
  run : RunState
  speed : Nat
  fault : Nat
  deriving DecidableEq, Repr

/-- R73, R74: a fan record. The running timer is the timer of the state. -/
structure Fan where
  config : FanConfig := {}
  state : FanState := .absent
  ability : Option Ability := none
  plainAnswers : Nat := 0
  mode : Option Mode := none
  cls : Option Nat := none
  minSpeed : Option Nat := none
  speedCmd : Nat := 0
  smokeSent : Bool := false
  report : Option DriveReport := none
  startPending : Bool := false
  reenrolPending : Bool := false
  timer : Option Nat := none
  starts : Nat := 0
  trips : Nat := 0
  deriving DecidableEq, Repr

/-- R133: the detail of a FAN_FAULT entry. -/
inductive FanDetail where
  | startFail | stopFail | unexpectedStop | lost
  | fault (code : Nat)
  deriving DecidableEq, Repr

/-! ### Damper supervisor -/

/-- R97: the state of an extract damper. -/
inductive ExtractState where
  | settled | moving | fault | lost
  deriving DecidableEq, Repr

/-- R97: the volatile fields of an extract-damper record. -/
structure ExtractDamper where
  command : Nat := 0
  feedback : Option Nat := none
  fault : Bool := false
  state : ExtractState := .moving
  timer : Option Nat := none
  deriving DecidableEq, Repr

/-- R102: the two ends of a make-up damper. -/
inductive MakeUpCommand where
  | open_ | closed
  deriving DecidableEq, Repr

/-- R102: the state of a make-up damper. -/
inductive MakeUpState where
  | open_ | closed | opening | closing | fault | lost
  deriving DecidableEq, Repr

/-- R102: the volatile fields of a make-up-damper record. -/
structure MakeUpDamper where
  command : MakeUpCommand := .closed
  openSwitch : Option Bool := none
  closedSwitch : Option Bool := none
  fault : Bool := false
  state : MakeUpState := .closing
  timer : Option Nat := none
  deriving DecidableEq, Repr

/-- R109: the indication of a zone. -/
inductive Indication where
  | normal | fault | activeProven | activePending
  deriving DecidableEq, Repr

/-! ### Flow allocator -/

/-- R112: the supply state. -/
inductive Supply where
  | mains | standby
  deriving DecidableEq, Repr

/-- R111: the flags of an allocation record. -/
structure Flags where
  capped : Bool := false
  noFans : Bool := false
  startUp : Bool := false
  overBudget : Bool := false
  deriving DecidableEq, Repr

/-- R111: the entry of a fitted zone in the allocation record. -/
structure ZoneEntry where
  required : Nat := 0
  allotment : Nat := 0
  extract : Nat := 0
  makeUp : MakeUpCommand := .closed
  deriving DecidableEq, Repr

/-- R111: the allocation record. -/
structure AllocRecord where
  runSet : List FanId := []
  speed : Nat := 0
  power : Nat := 0
  required : Nat := 0
  delivered : Nat := 0
  flags : Flags := {}
  held : Bool := false
  smoke : Bool := false
  cls : Nat := 1
  zones : Vector (Option ZoneEntry) 16 := Vector.replicate 16 none
  deriving DecidableEq, Repr

/-- R111, R112: what the flow allocator holds. `due` says that a trigger of R113 has been raised and its pass has not
been taken; it is false between two commands. -/
structure Allocator where
  record : AllocRecord := {}
  supply : Supply := .mains
  normal : Nat
  standby : Nat
  stageDown : Option Nat := none
  window : Option Nat := some Config.startUpWindow
  due : Bool := false
  deriving DecidableEq, Repr

/-! ### Alarm list -/

/-- R133: kind and source of an entry, which together identify it. A damper's source address is 97 plus its index: the
extract damper of zone z at 96 + z, the make-up damper at 112 + z. -/
inductive AlarmKey where
  | fire (z : ZoneId)
  | gasHigh (g : Gas) (z : ZoneId)
  | headFault (h : HeadId)
  | fanFault (n : FanId)
  | damperFault (d : Fin 32)
  | linkLost (p : Port)
  | storeFault (g : GroupId)
  deriving DecidableEq, Repr

/-- R133: the state of an entry. -/
inductive EntryState where
  | active | cleared
  deriving DecidableEq, Repr

/-- R133: an alarm entry. -/
structure AlarmEntry where
  sequence : Nat
  key : AlarmKey
  detail : Option FanDetail
  state : EntryState
  raised : Nat
  cleared : Option Nat
  ackBy : Option Port
  count : Nat
  deriving DecidableEq, Repr

/-- A value for each of the three ports. -/
structure PerPort (α : Type) where
  building : α
  alarm : α
  override : α
  deriving DecidableEq, Repr

/-- R133, R134, R139: the alarm list, oldest entry first. -/
structure AlarmList where
  entries : List AlarmEntry := []
  counter : Nat := 1
  cursors : PerPort Nat := ⟨0, 0, 0⟩
  deriving DecidableEq, Repr

/-! ### Field line controller -/

/-- R143: the devices of the field line. -/
inductive Device where
  | head (h : HeadId)
  | drive (n : FanId)
  | extract (z : ZoneId)
  | makeUp (z : ZoneId)
  deriving DecidableEq, Repr

/-- R144: a command with its device and operands. Each device has only the commands it takes. -/
inductive Order where
  | run (n : FanId) (speed : Nat) (smoke : Bool)
  | stop (n : FanId)
  | offer (n : FanId)
  | set (z : ZoneId) (position : Nat)
  | openUp (z : ZoneId)
  | close (z : ZoneId)
  deriving DecidableEq, Repr

/-- R150, R151: the consecutive-miss count and the lost mark of a device. -/
structure Link where
  misses : Nat := 0
  lost : Bool := false
  deriving DecidableEq, Repr

/-- R149: the exchange in flight. With no order it is a POLL. It is disowned once its device has ceased to be fitted
(R153). -/
structure Exchange where
  device : Device
  order : Option Order
  disowned : Bool := false
  deriving DecidableEq, Repr

/-- R146 to R154: what the field line controller holds. The links stand in address order. -/
structure FieldLine where
  pollList : List Device := []
  position : Option Device := none
  lastPolled : Option Device := none
  queue : List Order := []
  row : Nat := 0
  links : Vector Link 88 := Vector.replicate 88 {}
  inFlight : Option Exchange := none
  deriving DecidableEq, Repr

/-! ### Station ports -/

/-- R159: the link state of a port. -/
inductive LinkState where
  | up | lost
  deriving DecidableEq, Repr

/-- R156: the decoder of a port. -/
inductive Decoder where
  /-- the line is quiet: the next byte begins a frame -/
  | waiting
  /-- a frame has stopped short and the gap that cuts it has not come yet (log 16) -/
  | assembling
  /-- after a frame, valid or not, until the line has been quiet for 5 ms -/
  | discarding
  deriving DecidableEq, Repr

/-- R172: the status of a response. -/
inductive Status where
  | done | doneClamped | refusedPort | refusedLevel | refusedState | refusedValue | guarded | unknown
  deriving DecidableEq, Repr

/-- R157, R172: a response, less its sync byte, count and check word. -/
structure Response where
  status : Status
  code : Byte
  index : Byte
  words : List Word
  deriving DecidableEq, Repr

/-- R159 to R164: what a station port holds. Notice n is bit n − 1 of the three sets of marks. -/
structure PortState where
  link : LinkState := .up
  /-- the silence timer: not running, or its seconds left -/
  silence : Option Nat
  decoder : Decoder := .waiting
  pending : BitVec 16 := 0
  seen : BitVec 16 := 0
  masked : BitVec 16 := 0
  holdOff : Bool := false
  /-- the attention line is asserted -/
  line : Bool := false
  /-- the response last sent since the reset -/
  response : Option Response := none
  deriving DecidableEq, Repr

/-! ### Configuration store -/

/-- R174: a stored group with its check word. -/
structure Sealed (α : Type) where
  contents : α
  check : Word
  deriving DecidableEq, Repr

/-- R174: the contents of group 4. -/
structure PlanGroup where
  banks : Vector PlanBank 8
  map : Vector (Option PlanId) 16
  deriving DecidableEq, Repr

/-- R174: the contents of group 5. -/
structure BudgetGroup where
  normal : Nat
  standby : Nat
  deriving DecidableEq, Repr

/-- R174: the contents of group 6. -/
structure BaseGroup where
  base : PlanId
  closures : Vector Bool 16
  deriving DecidableEq, Repr

/-- R174: the six stored groups. -/
structure Store where
  zones : Sealed (Vector ZoneConfig 16)
  heads : Sealed (Vector HeadConfig 48)
  fans : Sealed (Vector FanConfig 8)
  plans : Sealed PlanGroup
  budgets : Sealed BudgetGroup
  base : Sealed BaseGroup
  deriving DecidableEq, Repr

end Sys2Proof.Machine
end

