-- ==== Sys2Proof/Machine/Wire.lean ====
section
/-! DEFINITION. How values are carried in words and bytes (R172), and the check word (R173). -/

namespace Sys2Proof.Machine

/-! ### The check word -/

/-- One bit of the division by the generator x¹⁶ + x¹² + x⁵ + 1 (R173). -/
def crcBit (c : Word) : Word := if c.getLsbD 15 then (c <<< 1) ^^^ 0x1021#16 else c <<< 1

/-- A byte enters the register most significant bit first (R173). -/
def crcByte (c : Word) (b : Byte) : Word :=
  crcBit (crcBit (crcBit (crcBit (crcBit (crcBit (crcBit (crcBit (c ^^^ (b.zeroExtend 16 <<< 8)))))))))

/-- The register after the bytes. The test is always true; it makes the kernel evaluate the register byte by byte. -/
def crcBytes : List Byte → Word → Word
  | [], c => c
  | b :: bs, c => bif Nat.ble c.toNat 65535 then crcBytes bs (crcByte c b) else 0#16

/-- R173: the check word over the bytes of a frame or of a stored group. -/
def crc16 (bs : List Byte) : Word := crcBytes bs 0xffff#16

/-- R172: a data word is two bytes, high byte first. -/
def wordBytes (w : Word) : List Byte := [w.extractLsb' 8 8, w.extractLsb' 0 8]

/-- The bytes of a run of data words. -/
def bytesOf (ws : List Word) : List Byte := ws.flatMap wordBytes

/-- The data word of a high and a low byte. -/
def wordOf (hi lo : Byte) : Word := hi ++ lo

/-- The data words of a run of bytes; a last odd byte is left out. -/
def wordsOf : List Byte → List Word
  | hi :: lo :: bs => wordOf hi lo :: wordsOf bs
  | _ => []

/-! ### Numbers and options -/

/-- A number as its value. -/
def num (n : Nat) : Word := BitVec.ofNat 16 n

/-- A part time or a sequence, as two words, high word first. -/
def longNum (n : Nat) : List Word := [num (n / 65536), num (n % 65536)]

/-- The word of an absent optional field. -/
def absentWord : Word := 0xffff#16

/-- An optional field. -/
def optNum : Option Nat → Word
  | none => absentWord
  | some n => num n

/-- A timer: 0 while stopped, otherwise its seconds left. -/
def timerWord : Option Nat → Word
  | none => 0#16
  | some n => num n

/-- Yes, set, made, active, blocked and in force are 1, their opposites 0. -/
def flagWord (b : Bool) : Word := if b then 1#16 else 0#16

/-- An optional yes or no. -/
def optFlag : Option Bool → Word
  | none => absentWord
  | some b => flagWord b

/-- A zone by its number. -/
def zoneWord (z : ZoneId) : Word := num (z.val + 1)
/-- A fan by its number. -/
def fanWord (n : FanId) : Word := num (n.val + 1)
/-- A plan by its number, NONE as an absent field. -/
def planWord : Option PlanId → Word
  | none => absentWord
  | some p => num p.val

/-- A list of varying length: its length, then a fixed number of slots (R167). -/
def slots (size : Nat) (ws : List Word) : List Word :=
  num ws.length :: (ws ++ List.replicate (size - ws.length) absentWord)

/-! ### Named values, by their position in the list of their owning rule -/

def carriedWord : Carried → Word
  | .co => 0 | .no2 => 1 | .both => 2
def headStateWord : HeadState → Word
  | .unknown => 0 | .valid => 1 | .sensorFault => 2 | .missing => 3
def roleWord : Role → Word
  | .extract => 0 | .isolate => 1 | .makeUp => 2 | .gas => 3
/-- A plan's role of a zone: KEEP is 4. -/
def planRoleWord : Option Role → Word
  | none => 4 | some r => roleWord r
/-- A zone's override role, or absent. -/
def overrideWord : Option Role → Word
  | none => absentWord | some r => roleWord r
def layerWord : Layer → Word
  | .override => 0 | .plan => 1 | .building => 2 | .default => 3
def kindWord : PlanKind → Word
  | .normal => 0 | .smoke => 1
def levelWord : Level → Word
  | .none => 0 | .fire => 1 | .manual => 2
def controlWord : Control → Word
  | .notInControl => 0 | .inControl => 1
/-- A closure mark, closed or open in the order of R66. -/
def closureWord (closed : Bool) : Word := if closed then 0 else 1
def serviceWord : Service → Word
  | .inService => 0 | .outOfService => 1
def fanStateWord : FanState → Word
  | .absent => 0 | .enrolling => 1 | .enrolHold => 2 | .ready => 3 | .restartHold => 4 | .starting => 5
  | .running => 6 | .stopping => 7 | .tripped => 8 | .lost => 9
def modeWord : Mode → Word
  | .variable => 0 | .fixed => 1
/-- The four words of a drive ability. -/
def abilityWords : Option Ability → List Word
  | none => [absentWord, absentWord, absentWord, absentWord]
  | some .starter => [0, absentWord, absentWord, absentWord]
  | some (.drive m s c) => [1, modeWord m, num s, num c]
def runStateWord : RunState → Word
  | .stopped => 0 | .accelerating => 1 | .atSpeed => 2 | .decelerating => 3
/-- A drive report, or absent. -/
def reportWords : Option DriveReport → List Word
  | none => [absentWord, absentWord, absentWord]
  | some r => [runStateWord r.run, num r.speed, num r.fault]
def extractStateWord : ExtractState → Word
  | .settled => 0 | .moving => 1 | .fault => 2 | .lost => 3
def makeUpCommandWord : MakeUpCommand → Word
  | .open_ => 0 | .closed => 1
def makeUpStateWord : MakeUpState → Word
  | .open_ => 0 | .closed => 1 | .opening => 2 | .closing => 3 | .fault => 4 | .lost => 5
def indicationWord : Indication → Word
  | .normal => 0 | .fault => 1 | .activeProven => 2 | .activePending => 3
def supplyWord : Supply → Word
  | .mains => 0 | .standby => 1
def linkWord : LinkState → Word
  | .up => 0 | .lost => 1
def portWord : Port → Word
  | .building => 0 | .alarm => 1 | .override => 2
/-- A flag set: CAPPED, NO_FANS, STARTUP and OVER_BUDGET at bits 0 to 3. -/
def flagsWord (f : Flags) : Word :=
  (if f.capped then 1#16 else 0) ||| (if f.noFans then 2#16 else 0) ||| (if f.startUp then 4#16 else 0)
    ||| (if f.overBudget then 8#16 else 0)
def entryStateWord : EntryState → Word
  | .active => 0 | .cleared => 1
/-- The kind of an entry, by its position in R133. -/
def alarmKindWord : AlarmKey → Word
  | .fire _ => 0 | .gasHigh .co _ => 1 | .gasHigh .no2 _ => 2 | .headFault _ => 3 | .fanFault _ => 4
  | .damperFault _ => 5 | .linkLost _ => 6 | .storeFault _ => 7
/-- The source of an entry. -/
def alarmSourceWord : AlarmKey → Word
  | .fire z => zoneWord z | .gasHigh _ z => zoneWord z | .headFault h => num (h.val + 1) | .fanFault n => fanWord n
  | .damperFault d => num (97 + d.val) | .linkLost p => portWord p | .storeFault g => num (g.val + 1)
/-- The detail of an entry: a drive fault code, or 256 to 259. -/
def detailWord : Option FanDetail → Word
  | none => absentWord
  | some (.fault c) => num c
  | some .startFail => 256 | some .stopFail => 257 | some .unexpectedStop => 258 | some .lost => 259
/-- R172: the status byte of a response. -/
def statusByte : Status → Byte
  | .done => 0 | .doneClamped => 1 | .refusedPort => 2 | .refusedLevel => 3 | .refusedState => 4
  | .refusedValue => 5 | .guarded => 6 | .unknown => 7

/-! ### Stored groups: the image under the check word, and the defaults -/

/-- The fourteen fields of R5 in their order. -/
def zoneConfigWords (c : ZoneConfig) : List Word :=
  [flagWord c.fitted, num c.qn, num c.qs, num c.coStart, num c.coFull, num c.coAlarm, num c.no2Start, num c.no2Full,
   num c.no2Alarm, num c.floor, num c.fallback, num c.confirm, num c.minPosition, num c.travelLimit]

/-- The stored fields of R9 in their order. -/
def headConfigWords (c : HeadConfig) : List Word := [flagWord c.fitted, zoneWord c.zone, carriedWord c.carries]

/-- The nine stored fields of R73 in their order. -/
def fanConfigWords (c : FanConfig) : List Word :=
  [flagWord c.fitted, num c.flow, num c.power, num c.minSpeed, num c.cls, num c.startLimit, num c.stopLimit,
   num c.restartHold, serviceWord c.service]

/-- The fields of R30 in their order. -/
def planBankWords (b : PlanBank) : List Word :=
  kindWord b.kind :: (b.roles.toList.map planRoleWord ++ [num b.cls, num b.purge])

/-- The image of each group: its records in order, each as its words. DESIGN CHOICE (log 7). -/
def zonesImage (v : Vector ZoneConfig 16) : List Word := v.toList.flatMap zoneConfigWords
def headsImage (v : Vector HeadConfig 48) : List Word := v.toList.flatMap headConfigWords
def fansImage (v : Vector FanConfig 8) : List Word := v.toList.flatMap fanConfigWords
def plansImage (g : PlanGroup) : List Word := g.banks.toList.flatMap planBankWords ++ g.map.toList.map planWord
def budgetsImage (g : BudgetGroup) : List Word := [num g.normal, num g.standby]
def baseImage (g : BaseGroup) : List Word := num g.base.val :: g.closures.toList.map closureWord

/-- R174: contents stored with the check word computed over their image. -/
def sealWith {α : Type} (image : α → List Word) (c : α) : Sealed α := ⟨c, crc16 (bytesOf (image c))⟩

/-- R176: the computed check word agrees with the stored one. -/
def Sealed.intact {α : Type} (image : α → List Word) (g : Sealed α) : Bool := crc16 (bytesOf (image g.contents)) == g.check

/-- Contents whose stored check word does not agree (R175, R177). -/
def Sealed.spoiled {α : Type} (image : α → List Word) (g : Sealed α) : Sealed α :=
  ⟨g.contents, ~~~ crc16 (bytesOf (image g.contents))⟩

/-- R5: the defaults of group 1. -/
def defaultZones : Vector ZoneConfig 16 := Vector.replicate 16 {}

/-- R9: the default zone of head h is ceil(h / 3). -/
def defaultHead (h : HeadId) : HeadConfig := ⟨false, ⟨h.val / 3, by omega⟩, .both⟩

/-- R9: the defaults of group 2. -/
def defaultHeads : Vector HeadConfig 48 := Vector.ofFn defaultHead

/-- R73: the defaults of group 3. -/
def defaultFans : Vector FanConfig 8 := Vector.replicate 8 {}

/-- R30, R31: the defaults of group 4. -/
def defaultPlans : PlanGroup :=
  { banks := Vector.ofFn fun p =>
      if p.val = 0 then { kind := .normal, purge := 0 } else { kind := .smoke, purge := 600 }
    map := Vector.replicate 16 none }

/-- R112: the defaults of group 5. -/
def defaultBudgets : BudgetGroup := ⟨1000, 600⟩

/-- R36, R66: the defaults of group 6. -/
def defaultBase : BaseGroup := ⟨0, Vector.replicate 16 false⟩

/-- R177: the store with the defaults of all six groups. -/
def defaultStore : Store :=
  { zones := sealWith zonesImage defaultZones
    heads := sealWith headsImage defaultHeads
    fans := sealWith fansImage defaultFans
    plans := sealWith plansImage defaultPlans
    budgets := sealWith budgetsImage defaultBudgets
    base := sealWith baseImage defaultBase }

end Sys2Proof.Machine
end

