-- ==== Sys2Proof/Machine/State.lean ====
section
/-! DEFINITION. The state of the part, block by block, and its value right after reset (INVENTORY.md lists every field
with its rule and its reset value). -/

namespace Sys2Proof.Machine

/-- The state of the part. `pending` is the model's own: the commands that wait, first in, first out. -/
structure State where
  /-- R2 -/
  partTime : Nat
  /-- zone evaluator: the sixteen rows (R5, R16 to R29) -/
  zones : Vector Zone 16
  /-- zone evaluator: the forty-eight head records (R9) -/
  heads : Vector Head 48
  /-- plan controller (R30, R31, R36) -/
  plan : PlanControl
  /-- role resolver (R56 to R72) -/
  resolver : Resolver
  /-- fan sequencer: the eight fan records (R73, R74) -/
  fans : Vector Fan 8
  /-- fan sequencer: the duty list (R92) -/
  duty : List FanId
  /-- fan sequencer: the path-loss grace timer (R90) -/
  grace : Option Nat
  /-- damper supervisor: the extract dampers (R97) -/
  extract : Vector ExtractDamper 16
  /-- damper supervisor: the make-up dampers (R102) -/
  makeUp : Vector MakeUpDamper 16
  /-- damper supervisor: the path is proven (R108) -/
  pathProven : Bool
  /-- damper supervisor: the zone indications (R109) -/
  indications : Vector Indication 16
  /-- flow allocator (R111, R112) -/
  alloc : Allocator
  /-- alarm list (R133 to R142) -/
  alarms : AlarmList
  /-- field line controller (R143 to R154) -/
  line : FieldLine
  /-- station ports (R155 to R164) -/
  ports : PerPort PortState
  /-- configuration store (R174) -/
  store : Store
  /-- the commands that wait -/
  pending : List Instr
  deriving DecidableEq, Repr

/-- The faults of a step. The part has no fault that stops it (every failure is a status, a discarded frame or a state of
a device's record), so there is none: no command of the model raises a fault, which is safe and unsafe for nothing. -/
inductive Fault where
  deriving DecidableEq, Repr

/-- The refusals of a step. -/
inductive Refusal where
  /-- Raised by exec's arm of a command that has no meaning yet; safe: no claim about it can be proved. -/
  | notModelled (mnemonic : String)
  /-- Raised by UNKNOWN_REQUEST whose code and object do name a request (R158): the term stands for no command of its
  row, see WellFormed. Safe: nothing is claimed of it. -/
  | namesARequest
  deriving DecidableEq, Repr

/-- A port after a reset: link UP, the silence timer at its full limit, RESTARTED pending, the line asserted (R159, R161,
R164). No response has been sent since the reset: DESIGN CHOICE (log 2). -/
def resetPort (p : Port) : PortState := { silence := some (Config.silenceLimit p), pending := 1, line := true }

/-- The part right after reset, at the end of the start-up sequence (R178), with the defaults in the store: DESIGN CHOICE
(log 1). Nothing is fitted, so no device is polled or commanded and the first pass has no required flow. -/
def State.reset : State :=
  { partTime := 0
    zones := Vector.replicate 16 {}
    heads := defaultHeads.map fun c => { config := c }
    plan :=
      { banks := defaultPlans.banks, map := defaultPlans.map, base := 0, current := 0, saved := 0, level := .none,
        fireSet := 0, cause := none, purge := none }
    resolver :=
      { control := .notInControl, overrides := Vector.replicate 16 none, closures := Vector.replicate 16 false,
        blocks := Vector.replicate 8 false, roles := Vector.replicate 16 .gas, layers := Vector.replicate 16 .default,
        smoke := false, cls := 1 }
    fans := Vector.replicate 8 {}
    duty := []
    grace := none
    extract := Vector.replicate 16 {}
    makeUp := Vector.replicate 16 {}
    pathProven := false
    indications := Vector.replicate 16 .normal
    alloc := { normal := 1000, standby := 600 }
    alarms := {}
    line := {}
    ports := ⟨resetPort .building, resetPort .alarm, resetPort .override⟩
    store := defaultStore
    pending := [] }

end Sys2Proof.Machine
end

