-- ==== Sys2Proof/Machine/Flags.lean ====
section
/-! DEFINITION. The marks of the notices and the attention line they drive (R161 to R164), and the shortage flags of an
allocation record (R130). -/

namespace Sys2Proof.Machine

/-- R161: the sixteen notices. -/
inductive Notice where
  | restarted | incidentBegun | incidentEnded | planChanged | secondFire | gasHigh | gasCleared | deviceFault
  | pathLost | flowShort | linkLost | protectedWrite | overrideChanged | listFull | configChanged | storeFault
  deriving DecidableEq, Repr

/-- R161, R172: the number of a notice, less 1: its bit in a notice set. -/
def Notice.place : Notice → Nat
  | .restarted => 0 | .incidentBegun => 1 | .incidentEnded => 2 | .planChanged => 3 | .secondFire => 4 | .gasHigh => 5
  | .gasCleared => 6 | .deviceFault => 7 | .pathLost => 8 | .flowShort => 9 | .linkLost => 10 | .protectedWrite => 11
  | .overrideChanged => 12 | .listFull => 13 | .configChanged => 14 | .storeFault => 15

/-- R172: the notice set that holds one notice. -/
def Notice.mark (n : Notice) : Word := 1#16 <<< n.place

/-- R164: the line is asserted while a notice is pending and not masked and the hold-off timer is stopped. -/
def PortState.lineWanted (q : PortState) : Bool := q.pending &&& ~~~q.masked != 0 && !q.holdOff

/-- R164: the port forms its attention line. -/
def PortState.formLine (q : PortState) : PortState := { q with line := q.lineWanted }

/-- R161: a raise sets the pending mark and clears the seen mark, whatever they were. -/
def PortState.raise (n : Notice) (q : PortState) : PortState :=
  { q with pending := q.pending ||| n.mark, seen := q.seen &&& ~~~n.mark }.formLine

/-- R162: READ NOTICES sets the seen mark of each pending notice. -/
def PortState.see (q : PortState) : PortState := { q with seen := q.seen ||| q.pending }

/-- R163: ACK NOTICES clears both marks of each notice of the set that is pending and seen. -/
def PortState.acknowledge (set : Word) (q : PortState) : PortState :=
  { q with pending := q.pending &&& ~~~(set &&& q.pending &&& q.seen)
           seen := q.seen &&& ~~~(set &&& q.pending &&& q.seen) }.formLine

/-- R162: SET NOTICE MASK replaces the masked marks. -/
def PortState.mask (set : Word) (q : PortState) : PortState := { q with masked := set }.formLine

/-- R164: END SERVICE starts or restarts the hold-off timer. -/
def PortState.holdLine (q : PortState) : PortState := { q with holdOff := true }.formLine

/-- R164: the hold-off timer expires. -/
def PortState.endHold (q : PortState) : PortState := { q with holdOff := false }.formLine

/-- R166: the number of notices pending, masked or not. -/
def PortState.pendingCount (q : PortState) : Nat := ((List.range 16).filter fun i => q.pending.getLsbD i).length

/-- R130: the new flags hold CAPPED, NO_FANS or OVER_BUDGET where the old did not. -/
def Flags.newShortage (old new : Flags) : Bool :=
  (new.capped && !old.capped) || (new.noFans && !old.noFans) || (new.overBudget && !old.overBudget)

end Sys2Proof.Machine
end

