-- ==== Sys2Proof/Machine/Ops.lean ====
section
/-! DEFINITION. The named operations the blocks share: reading and changing one object of a table, raising notices, the
alarm list (R133 to R140), the commit of a stored group (R175), the command queue (R147) and the clearing of a device's
link. -/

namespace Sys2Proof.Machine

/-! ### One object of a table -/

def State.zone (s : State) (z : ZoneId) : Zone := s.zones[z.val]
def State.head (s : State) (h : HeadId) : Head := s.heads[h.val]
def State.fan (s : State) (n : FanId) : Fan := s.fans[n.val]
def State.extractOf (s : State) (z : ZoneId) : ExtractDamper := s.extract[z.val]
def State.makeUpOf (s : State) (z : ZoneId) : MakeUpDamper := s.makeUp[z.val]
def State.role (s : State) (z : ZoneId) : Role := s.resolver.roles[z.val]
def State.bank (s : State) (p : PlanId) : PlanBank := s.plan.banks[p.val]

def PerPort.get {α : Type} (v : PerPort α) : Port → α
  | .building => v.building
  | .alarm => v.alarm
  | .override => v.override

def PerPort.upd {α : Type} (v : PerPort α) (p : Port) (f : α → α) : PerPort α :=
  match p with
  | .building => { v with building := f v.building }
  | .alarm => { v with alarm := f v.alarm }
  | .override => { v with override := f v.override }

def PerPort.map {α β : Type} (f : α → β) (v : PerPort α) : PerPort β := ⟨f v.building, f v.alarm, f v.override⟩

def State.port (s : State) (p : Port) : PortState := s.ports.get p

def State.modZone (s : State) (z : ZoneId) (f : Zone → Zone) : State := { s with zones := upd s.zones z f }
def State.modHead (s : State) (h : HeadId) (f : Head → Head) : State := { s with heads := upd s.heads h f }
def State.modFan (s : State) (n : FanId) (f : Fan → Fan) : State := { s with fans := upd s.fans n f }
def State.modPort (s : State) (p : Port) (f : PortState → PortState) : State := { s with ports := s.ports.upd p f }

/-- A trigger of an allocation pass is raised (R113); the pass is taken once the event's blocks have finished. -/
def State.trigger (s : State) : State := { s with alloc := { s.alloc with due := true } }

/-- A trigger that is raised where a condition holds. -/
def State.triggerIf (s : State) (b : Bool) : State := if b then s.trigger else s

/-! ### Notices (R161) -/

/-- A notice is raised on all three ports. -/
def State.raiseAll (s : State) (n : Notice) : State := { s with ports := s.ports.map (PortState.raise n) }

/-- A notice is raised on the two ports other than the one named. -/
def State.raiseOthers (s : State) (n : Notice) (writer : Port) : State :=
  match writer with
  | .building => (s.modPort .alarm (PortState.raise n)).modPort .override (PortState.raise n)
  | .alarm => (s.modPort .building (PortState.raise n)).modPort .override (PortState.raise n)
  | .override => (s.modPort .building (PortState.raise n)).modPort .alarm (PortState.raise n)

/-! ### Alarm list (R133 to R140) -/

def AlarmKey.isFire : AlarmKey → Bool
  | .fire _ => true
  | _ => false

/-- The list holds an entry for the kind and source. -/
def AlarmList.has (a : AlarmList) (k : AlarmKey) : Bool := a.entries.any fun e => e.key == k

/-- R134: the counter's next value; after the last it continues at 1. -/
def nextSequence (n : Nat) : Nat := if n < Config.lastSequence then n + 1 else 1

/-- R134: values held by an entry of the list are passed over; 33 tries are enough for a list of 32. -/
def freeSequence (entries : List AlarmEntry) : Nat → Nat → Nat
  | 0, n => n
  | k + 1, n => if entries.any (fun e => e.sequence == n) then freeSequence entries k (nextSequence n) else n

/-- R134: the sequence the next raise gives. -/
def AlarmList.nextFree (a : AlarmList) : Nat := freeSequence a.entries (Config.listSize + 1) a.counter

/-- R134: after a raise has given its sequence, the counter moves to the next value no entry holds. -/
def AlarmList.advance (a : AlarmList) (given : Nat) : AlarmList :=
  { a with counter := freeSequence a.entries (Config.listSize + 1) (nextSequence given) }

/-- R140: a cursor above the position an entry leaves from goes down by 1. -/
def cursorAfterLeaving (p c : Nat) : Nat := if p < c then c - 1 else c

/-- R138, R140: the entry at a position leaves the list. -/
def AlarmList.leave (a : AlarmList) (p : Nat) : AlarmList :=
  { a with entries := a.entries.eraseIdx p, cursors := a.cursors.map (cursorAfterLeaving p) }

/-- R135: an entry that is raised again keeps its position. -/
def AlarmEntry.again (e : AlarmEntry) (seq : Nat) (detail : Option FanDetail) (t : Nat) : AlarmEntry :=
  { e with sequence := seq, detail := detail, state := .active, raised := t, cleared := none, ackBy := none,
           count := bump Config.lastRaise e.count }

/-- R135: an existing entry is raised in place. -/
def AlarmList.raiseInPlace (a : AlarmList) (k : AlarmKey) (detail : Option FanDetail) (t : Nat) : AlarmList :=
  AlarmList.advance { a with entries := a.entries.map fun e => if e.key = k then e.again a.nextFree detail t else e }
    a.nextFree

/-- R135: a new entry is appended at the tail. -/
def AlarmList.append (a : AlarmList) (k : AlarmKey) (detail : Option FanDetail) (t : Nat) : AlarmList :=
  AlarmList.advance { a with entries := a.entries ++ [⟨a.nextFree, k, detail, .active, t, none, none, 1⟩] } a.nextFree

/-- R137: the position of the non-FIRE entry nearest the head. -/
def AlarmList.oldestOther (a : AlarmList) : Nat := a.entries.findIdx fun e => !e.key.isFire

/-- R135, R137: the list after a raise. A FIRE raise into a full list evicts; every other raise into one is not entered. -/
def AlarmList.raise (a : AlarmList) (k : AlarmKey) (detail : Option FanDetail) (t : Nat) : AlarmList :=
  if a.has k then a.raiseInPlace k detail t
  else if a.entries.length < Config.listSize then a.append k detail t
  else if k.isFire && decide (a.oldestOther < a.entries.length) then (a.leave a.oldestOther).append k detail t
  else a

/-- R137: a raise that needs a new entry while the list is full raises LIST_FULL. -/
def AlarmList.full (a : AlarmList) (k : AlarmKey) : Bool := !a.has k && decide (Config.listSize ≤ a.entries.length)

/-- R136: an ACTIVE entry becomes CLEARED at a time. -/
def AlarmEntry.clear (e : AlarmEntry) (t : Nat) : AlarmEntry := { e with state := .cleared, cleared := some t }

/-- The list holds an ACTIVE entry for the kind and source. -/
def AlarmList.hasActive (a : AlarmList) (k : AlarmKey) : Bool :=
  a.entries.any fun e => e.key == k && e.state == .active

/-- R136, R138: the list after a clear. An ACTIVE entry becomes CLEARED, and leaves if it has been acknowledged. -/
def AlarmList.clear (a : AlarmList) (k : AlarmKey) (t : Nat) : AlarmList :=
  if a.entries.any (fun e => e.key == k && e.state == .active && e.ackBy.isSome) then
    a.leave (a.entries.findIdx fun e => e.key == k)
  else
    { a with entries := a.entries.map fun e => if e.key = k ∧ e.state = .active then e.clear t else e }

/-- R138: the entry with a sequence is acknowledged by a port; a CLEARED one leaves the list. -/
def AlarmList.acknowledge (a : AlarmList) (seq : Nat) (p : Port) : AlarmList :=
  if a.entries.any (fun e => e.sequence == seq && e.state == .cleared) then
    a.leave (a.entries.findIdx fun e => e.sequence == seq)
  else
    { a with entries := a.entries.map fun e => if e.sequence = seq then { e with ackBy := some p } else e }

/-- R135, R137: an alarm condition is raised. -/
def State.raiseAlarm (s : State) (k : AlarmKey) (detail : Option FanDetail) : State :=
  if s.alarms.full k then { s with alarms := s.alarms.raise k detail s.partTime }.raiseAll .listFull
  else { s with alarms := s.alarms.raise k detail s.partTime }

/-- R136: an alarm condition is cleared. -/
def State.clearAlarm (s : State) (k : AlarmKey) : State := { s with alarms := s.alarms.clear k s.partTime }

/-! ### Commit of an accepted write (R175, R176) -/

/-- R176: an accepted write to a group clears the group's STORE_FAULT entry. -/
def State.groupWritten (s : State) (g : GroupId) : State := s.clearAlarm (.storeFault g)

/-- R7: a zone configuration record is replaced and committed to group 1. -/
def State.commitZone (s : State) (z : ZoneId) (c : ZoneConfig) : State :=
  { s.modZone z (fun q => { q with config := c }) with
    store := { s.store with zones := sealWith zonesImage (upd s.store.zones.contents z fun _ => c) } }.groupWritten 0

/-- R10: a head configuration is replaced and committed to group 2. -/
def State.commitHead (s : State) (h : HeadId) (c : HeadConfig) : State :=
  { s.modHead h (fun q => { q with config := c }) with
    store := { s.store with heads := sealWith headsImage (upd s.store.heads.contents h fun _ => c) } }.groupWritten 1

/-- R75, R94: a fan configuration is replaced and committed to group 3. -/
def State.commitFan (s : State) (n : FanId) (c : FanConfig) : State :=
  { s.modFan n (fun q => { q with config := c }) with
    store := { s.store with fans := sealWith fansImage (upd s.store.fans.contents n fun _ => c) } }.groupWritten 2

/-- Group 4 with one bank replaced. -/
def PlanGroup.withBank (g : PlanGroup) (p : PlanId) (b : PlanBank) : PlanGroup :=
  { g with banks := upd g.banks p fun _ => b }

/-- Group 6 with one closure mark replaced. -/
def BaseGroup.withClosure (g : BaseGroup) (z : ZoneId) (closed : Bool) : BaseGroup :=
  { g with closures := upd g.closures z fun _ => closed }

/-- R33, R34: a plan bank is replaced and committed to group 4. -/
def State.commitBank (s : State) (p : PlanId) (b : PlanBank) : State :=
  { s with
    plan := { s.plan with banks := upd s.plan.banks p fun _ => b }
    store := { s.store with plans := sealWith plansImage (s.store.plans.contents.withBank p b) } }.groupWritten 3

/-- R35: the plan map is replaced and committed to group 4. -/
def State.commitMap (s : State) (m : Vector (Option PlanId) 16) : State :=
  { s with
    plan := { s.plan with map := m }
    store := { s.store with plans := sealWith plansImage { s.store.plans.contents with map := m } } }.groupWritten 3

/-- R115: the normal budget is replaced and committed to group 5. -/
def State.commitNormal (s : State) (b : Nat) : State :=
  { s with
    alloc := { s.alloc with normal := b }
    store := { s.store with budgets := sealWith budgetsImage { s.store.budgets.contents with normal := b } } }.groupWritten 4

/-- R115: the standby budget is replaced and committed to group 5. -/
def State.commitStandby (s : State) (b : Nat) : State :=
  { s with
    alloc := { s.alloc with standby := b }
    store := { s.store with budgets := sealWith budgetsImage { s.store.budgets.contents with standby := b } } }.groupWritten 4

/-- The base plan is replaced and group 6 is stored (R37, R52). -/
def State.storeBase (s : State) (p : PlanId) : State :=
  { s with
    plan := { s.plan with base := p }
    store := { s.store with base := sealWith baseImage { s.store.base.contents with base := p } } }

/-- R52: the base plan is replaced and committed to group 6. -/
def State.commitBase (s : State) (p : PlanId) : State := (s.storeBase p).groupWritten 5

/-- R66: a closure mark is replaced and committed to group 6. -/
def State.commitClosure (s : State) (z : ZoneId) (closed : Bool) : State :=
  { s with
    resolver := { s.resolver with closures := upd s.resolver.closures z fun _ => closed }
    store := { s.store with base := sealWith baseImage (s.store.base.contents.withClosure z closed) } }.groupWritten 5

/-! ### Devices and the command queue (R143, R147) -/

/-- R143: the address of a device. -/
def Device.address : Device → Nat
  | .head h => h.val + 1
  | .drive n => 65 + n.val
  | .extract z => 97 + z.val
  | .makeUp z => 113 + z.val

/-- The place of a device among the 88 devices in address order. -/
def Device.place : Device → Fin 88
  | .head h => ⟨h.val, by omega⟩
  | .drive n => ⟨48 + n.val, by omega⟩
  | .extract z => ⟨56 + z.val, by omega⟩
  | .makeUp z => ⟨72 + z.val, by omega⟩

/-- R143: the device of an address; addresses 0, 49 to 64, 73 to 96 and those above 128 belong to none. -/
def deviceAt (a : Nat) : Option Device :=
  if h : 1 ≤ a ∧ a ≤ 48 then some (.head ⟨a - 1, by omega⟩)
  else if h : 65 ≤ a ∧ a ≤ 72 then some (.drive ⟨a - 65, by omega⟩)
  else if h : 97 ≤ a ∧ a ≤ 112 then some (.extract ⟨a - 97, by omega⟩)
  else if h : 113 ≤ a ∧ a ≤ 128 then some (.makeUp ⟨a - 113, by omega⟩)
  else none

/-- The 88 devices in address order. -/
def allDevices : List Device :=
  (List.finRange 48).map .head ++ (List.finRange 8).map .drive ++ (List.finRange 16).map .extract
    ++ (List.finRange 16).map .makeUp

/-- R144: the device a command goes to. -/
def Order.device : Order → Device
  | .run n _ _ => .drive n
  | .stop n => .drive n
  | .offer n => .drive n
  | .set z _ => .extract z
  | .openUp z => .makeUp z
  | .close z => .makeUp z

/-- R143: a device is fitted while its head, fan or zone is. -/
def State.deviceFitted (s : State) : Device → Bool
  | .head h => (s.head h).config.fitted
  | .drive n => (s.fan n).config.fitted
  | .extract z => (s.zone z).config.fitted
  | .makeUp z => (s.zone z).config.fitted

def State.link (s : State) (d : Device) : Link := s.line.links[d.place.val]

def State.modLine (s : State) (f : FieldLine → FieldLine) : State := { s with line := f s.line }

def FieldLine.setLink (l : FieldLine) (d : Device) (k : Link) : FieldLine := { l with links := upd l.links d.place fun _ => k }

/-- R147: a command replaces the one queued for its device in its place, or is appended at the tail. -/
def enter (q : List Order) (o : Order) : List Order :=
  if q.any (fun x => x.device == o.device) then q.map fun x => if x.device = o.device then o else x else q ++ [o]

/-- R147: an owner queues a command. For a device that is not fitted or is lost it is not entered. -/
def State.enqueue (s : State) (o : Order) : State :=
  if s.deviceFitted o.device && !(s.link o.device).lost then s.modLine fun l => { l with queue := enter l.queue o } else s

/-- R151, R153: the command queued for a device is dropped and those after it close up. -/
def dropFor (d : Device) (q : List Order) : List Order := q.filter fun x => x.device != d

end Sys2Proof.Machine
end

