-- ==== Sys2Proof/Machine/FieldLine.lean ====
section
/-! DEFINITION. The field line controller: the poll list, the choice of the next exchange, the end of an exchange, and
devices that are fitted or unfitted (R146, R148 to R153). -/

namespace Sys2Proof.Machine

/-- R146: the poll list holds every fitted device once, in ascending address order. -/
def State.fittedDevices (s : State) : List Device := allDevices.filter s.deviceFitted

/-- R146: the first device of a list above the address of one, or the first of the list. -/
def firstAbove (l : List Device) : Option Device → Option Device
  | none => l.head?
  | some d =>
    match l.find? fun x => decide (d.address < x.address) with
    | some x => some x
    | none => l.head?

/-- R146: the poll list is rebuilt from the fitted flags, and the position is placed against the device last polled. -/
def State.rebuildPolls (s : State) : State :=
  s.modLine fun l => { l with pollList := s.fittedDevices, position := firstAbove s.fittedDevices l.lastPolled }

/-- R148: a command is taken out of the queue and sent. -/
def FieldLine.sendCommand (l : FieldLine) (o : Order) (rest : List Order) : FieldLine :=
  { l with queue := rest, row := l.row + 1, inFlight := some { device := o.device, order := some o } }

/-- R146, R148: a POLL is sent to the device at the poll position, and the position moves to the next device. -/
def FieldLine.sendPoll (l : FieldLine) (d : Device) : FieldLine :=
  { l with row := 0, lastPolled := some d, position := firstAbove l.pollList (some d), inFlight := some { device := d, order := none } }

/-- R148: the line is idle, or carries a poll. -/
def FieldLine.pollOrIdle (l : FieldLine) : FieldLine :=
  match l.pollList, l.position with
  | _ :: _, some d => l.sendPoll d
  | _, _ => l

/-- R148: the choice of the next exchange, while none is in flight. DESIGN CHOICE (log 23): a command held back (R80) waits in its
place in the queue, and the first command that is not held back is taken as the one at the head. -/
def FieldLine.choose (held : Order → Bool) (l : FieldLine) : FieldLine :=
  match l.inFlight with
  | some _ => l
  | none =>
    match l.queue.find? fun o => !held o with
    | some o => if l.row < Config.commandsInRow then l.sendCommand o (l.queue.erase o) else l.pollOrIdle
    | none => l.pollOrIdle

/-- R80: no OFFER is sent while the fan is in ENROL_HOLD. -/
def State.holdsBack (s : State) : Order → Bool
  | .offer n => (s.fan n).state == .enrolHold
  | .run _ _ _ | .stop _ | .set _ _ | .openUp _ | .close _ => false

/-- R148, taken at the end of a step: an idle line carries the next exchange. -/
def State.chooseExchange (s : State) : State := s.modLine (FieldLine.choose s.holdsBack)

/-- R149: the exchange in flight ends. -/
def State.endExchange (s : State) : State := s.modLine fun l => { l with inFlight := none }

/-- R149, R152: a valid reply sets the device's consecutive-miss count to 0 and removes its lost mark. -/
def State.deviceAnswered (s : State) (d : Device) : State := s.modLine fun l => l.setLink d {}

/-- R153: an exchange in flight with a device that ceases to be fitted is disowned. -/
def disown (d : Device) : Option Exchange → Option Exchange
  | some x => some (if x.device = d then { x with disowned := true } else x)
  | none => none

/-- R153: a device ceases to be fitted. The poll list is rebuilt apart. -/
def State.unfitDevice (s : State) (d : Device) : State :=
  s.modLine fun l => { l.setLink d {} with queue := dropFor d l.queue, inFlight := disown d l.inFlight }

/-- R153: a device becomes fitted, with a consecutive-miss count of 0 and no lost mark. The poll list is rebuilt apart. -/
def State.fitDevice (s : State) (d : Device) : State := s.modLine fun l => l.setLink d {}

/-- R151: a device is marked lost and its queued command is dropped. -/
def State.markLost (s : State) (d : Device) : State :=
  s.modLine fun l => { l.setLink d { misses := Config.missLimit, lost := true } with queue := dropFor d l.queue }

/-- R150 step 1: a miss is counted, and the count holds at 3. -/
def State.countMiss (s : State) (d : Device) : State :=
  s.modLine fun l => l.setLink d { s.link d with misses := bump Config.missLimit (s.link d).misses }

/-- R150 step 4: a command that timed out is re-queued at the tail unless a newer one for the device is queued. -/
def State.requeue (s : State) : Option Order → State
  | none => s
  | some o => if s.line.queue.any (fun x => x.device == o.device) then s else s.enqueue o

end Sys2Proof.Machine
end

