-- ==== Sys2Proof/Machine/Fans.lean ====
section
/-! DEFINITION. The fan sequencer (R73 to R96): the states of a fan, the commands to its drive, enrolment, trips and
losses, the path-loss grace, the taking of an allocation record and the duty list. -/

namespace Sys2Proof.Machine

/-! ### States and commands -/

/-- R91: the group READY, STARTING and RUNNING. -/
def FanState.inGroup : FanState → Bool
  | .ready | .starting | .running => true
  | _ => false

/-- R90: a fan that is STARTING or RUNNING. -/
def FanState.turning : FanState → Bool
  | .starting | .running => true
  | _ => false

/-- R91: the moves between states that are handed to the flow allocator as eligibility changes. -/
def eligibilityMove (smoke : Bool) (old new : FanState) : Bool :=
  (old.inGroup != new.inGroup) || (smoke && ((old == .restartHold) != (new == .restartHold)))

/-- R74, R91: a fan enters a state with the state's timer, and the move is handed on where R91 says so. -/
def State.enterState (s : State) (n : FanId) (st : FanState) (timer : Option Nat) : State :=
  (s.modFan n fun f => { f with state := st, timer := timer }).triggerIf
    (eligibilityMove s.resolver.smoke (s.fan n).state st)

/-- R82: the speed of a RUN: S for a VARIABLE fan and 100 for a FIXED one. -/
def Fan.runSpeed (f : Fan) (speed : Nat) : Nat := if f.mode = some .fixed then 100 else speed

/-- R82, R83: a RUN is queued with the speed and smoke flag of the latest allocation record (R74 records both). -/
def State.queueRun (s : State) (n : FanId) : State :=
  (s.modFan n fun f => { f with speedCmd := f.runSpeed s.alloc.record.speed, smokeSent := s.alloc.record.smoke }).enqueue
    (.run n ((s.fan n).runSpeed s.alloc.record.speed) s.alloc.record.smoke)

/-- R74: a STOP is queued, which sets the speed command to 0 and the smoke flag sent to no. -/
def State.queueStop (s : State) (n : FanId) : State :=
  (s.modFan n fun f => { f with speedCmd := 0, smokeSent := false }).enqueue (.stop n)

/-- R83: a fan enters STARTING. -/
def State.startFan (s : State) (n : FanId) : State :=
  ((s.modFan n fun f => { f with startPending := false, starts := bump Config.lastCount f.starts }).enterState n .starting
    (some (s.fan n).config.startLimit)).queueRun n

/-- R83: a READY fan with start pending starts at once while the path is proven. -/
def State.startIfAllowed (s : State) (n : FanId) : State :=
  if (s.fan n).startPending && s.pathProven then s.startFan n else s

/-- R83, R89: a fan enters READY, its ACTIVE FAN_FAULT entry is cleared, and it starts at once if R83 allows. -/
def State.enterReady (s : State) (n : FanId) : State :=
  ((s.enterState n .ready none).clearAlarm (.fanFault n)).startIfAllowed n

/-- R85: a STOP is queued and the fan enters STOPPING, whose stop limit starts. -/
def State.stopFan (s : State) (n : FanId) : State :=
  (s.queueStop n).enterState n .stopping (some (s.fan n).config.stopLimit)

/-- R80: a fan enters ENROL_HOLD for 10 s. An OFFER that is still queued for its drive stays in the queue (R147) and is held back
(`State.holdsBack`). -/
def State.enterEnrolHold (s : State) (n : FanId) : State := s.enterState n .enrolHold (some Config.enrolHold)

/-- R87: a fan enters TRIPPED with a detail. -/
def State.tripFan (s : State) (n : FanId) (detail : FanDetail) : State :=
  (((((s.modFan n fun f => { f with startPending := false, trips := bump Config.lastCount f.trips }).enterState n .tripped
    none).queueStop n).raiseAlarm (.fanFault n) (some detail))).raiseAll .deviceFault

/-- R89: a fan enters LOST; its ability, resolved fields and last report are kept. -/
def State.loseFan (s : State) (n : FanId) : State :=
  if (s.fan n).state = .absent ∨ (s.fan n).state = .lost then s
  else
    (((s.modFan n fun f =>
        { f with startPending := false, reenrolPending := false, plainAnswers := 0, speedCmd := 0,
                 smokeSent := false }).enterState n .lost none).raiseAlarm (.fanFault n) (some .lost)).raiseAll .deviceFault

/-! ### Enrolment -/

/-- R78: a fan enters ENROLLING and an OFFER is queued. -/
def State.enterEnrolling (s : State) (n : FanId) : State :=
  ((s.modFan n fun f => { f with ability := none, mode := none, cls := none, minSpeed := none, plainAnswers := 0 }).enterState
    n .enrolling none).enqueue (.offer n)

/-- R79: the resolved mode. -/
def Ability.resolvedMode : Ability → Mode
  | .starter => .fixed
  | .drive m _ _ => m

/-- R79: the resolved class. -/
def Ability.resolvedClass (c : FanConfig) : Ability → Nat
  | .starter => 0
  | .drive _ _ k => min c.cls k

/-- R79: the resolved minimum speed. -/
def Ability.resolvedMinSpeed (c : FanConfig) : Ability → Nat
  | .starter => 100
  | .drive .variable m _ => max c.minSpeed m
  | .drive .fixed _ _ => 100

/-- R79: the resolved fields are worked out from the drive ability and the stored fields. -/
def Fan.resolve (f : Fan) (a : Ability) : Fan :=
  { f with ability := some a, mode := some a.resolvedMode, cls := some (a.resolvedClass f.config),
           minSpeed := some (a.resolvedMinSpeed f.config) }

/-- R81: an enrolment completes with an ability, and the fan moves according to its last report. -/
def State.completeEnrolment (s : State) (n : FanId) (a : Ability) (r : DriveReport) : State :=
  let s1 := (s.modFan n fun f => f.resolve a).trigger
  if r.fault ≠ 0 then s1.tripFan n (.fault r.fault)
  else if r.run = .stopped then s1.enterReady n
  else s1.stopFan n

/-! ### Replies (R77 to R90) -/

/-- R77: the run state of a reply's byte. -/
def runStateOf (b : Byte) : Option RunState :=
  match b.toNat with
  | 0 => some .stopped
  | 1 => some .accelerating
  | 2 => some .atSpeed
  | 3 => some .decelerating
  | _ => none

/-- R77: the report a reply makes. A run state other than the four named is taken as the one last reported, with fault
code 255. -/
def Fan.reportFrom (f : Fan) (run speed fault : Byte) : DriveReport :=
  match runStateOf run with
  | some r => ⟨r, clampTo 0 100 speed.toNat, fault.toNat⟩
  | none => ⟨(f.report.map DriveReport.run).getD .stopped, clampTo 0 100 speed.toNat, 255⟩

/-- R77: the ability an ability reply declares. A control mode other than VARIABLE is FIXED. -/
def abilityFrom (mode minSpeed cls : Byte) : Ability :=
  .drive (if mode = 0 then .variable else .fixed) (clampTo 0 100 minSpeed.toNat) (clampTo 0 2 cls.toNat)

/-- R85, R86: a fan that has stopped rests, unless smoke service calls for it at once. -/
def State.restFan (s : State) (n : FanId) : State :=
  let s1 := s.enterState n .restartHold (some (s.fan n).config.restartHold)
  if s.resolver.smoke && ((s.fan n).startPending || s.alloc.record.runSet.contains n) then s1.enterReady n else s1

/-- R85: a STOPPING fan has reported STOPPED with fault code 0. -/
def State.fanStopped (s : State) (n : FanId) : State :=
  if (s.fan n).reenrolPending then (s.modFan n fun f => { f with reenrolPending := false }).enterEnrolHold n
  else if 0 < (s.fan n).config.restartHold then s.restFan n
  else s.enterReady n

/-- R86: a drive at rest that reports ACCELERATING or AT_SPEED is commanded off. -/
def State.commandOff (s : State) (n : FanId) (r : DriveReport) : State :=
  if r.run = .accelerating ∨ r.run = .atSpeed then s.queueStop n else s

/-- R78: a status reply to an OFFER counts toward fixed-speed detection. -/
def State.plainAnswer (s : State) (n : FanId) (r : DriveReport) : State :=
  let s1 := s.modFan n fun f => { f with plainAnswers := f.plainAnswers + 1 }
  if (s1.fan n).plainAnswers < Config.plainLimit then s1.enqueue (.offer n) else s1.completeEnrolment n .starter r

/-- R78: a reply taken in ENROLLING. -/
def State.enrollingReply (s : State) (n : FanId) (r : DriveReport) (kind : Option Order) (ability : Option Ability) : State :=
  match ability with
  | some a => s.completeEnrolment n a r
  | none => if kind = some (.offer n) then s.plainAnswer n r else s

/-- R84: a reply with fault code 0 taken in STARTING. -/
def State.startingReply (s : State) (n : FanId) (r : DriveReport) : State :=
  if r.run = .atSpeed then s.enterState n .running none else s

/-- R84: a reply with fault code 0 taken in RUNNING. -/
def State.runningReply (s : State) (n : FanId) (r : DriveReport) : State :=
  if r.run = .stopped then s.tripFan n .unexpectedStop else s

/-- R84 to R86: in these states the fault code is read first, and one other than 0 trips the fan. -/
def State.unlessFault (s : State) (n : FanId) (r : DriveReport) (next : State) : State :=
  if r.fault ≠ 0 then s.tripFan n (.fault r.fault) else next

/-- R77 to R90: the effect of a report on the fan's state; the report is already the last one. -/
def State.reportTaken (s : State) (n : FanId) (r : DriveReport) (kind : Option Order) (ability : Option Ability) : State :=
  match (s.fan n).state with
  | .absent => s
  | .enrolling => s.enrollingReply n r kind ability
  | .enrolHold => if r.fault ≠ 0 then s else s.commandOff n r
  | .ready => s.unlessFault n r (s.commandOff n r)
  | .restartHold => s.unlessFault n r (s.commandOff n r)
  | .starting => s.unlessFault n r (s.startingReply n r)
  | .running => s.unlessFault n r (s.runningReply n r)
  | .stopping => s.unlessFault n r (if r.run = .stopped then s.fanStopped n else s)
  | .tripped => s
  | .lost => s.enterEnrolling n

/-- R77: a drive's reply replaces the last report and then moves the fan. -/
def State.driveReply (s : State) (n : FanId) (run speed fault : Byte) (kind : Option Order) (ability : Option Ability) : State :=
  (s.modFan n fun f => { f with report := some (f.reportFrom run speed fault) }).reportTaken n
    ((s.fan n).reportFrom run speed fault) kind ability

/-! ### Smoke service, the path and the grace timer -/

/-- Every fan in turn, in fan order. -/
def State.eachFan (s : State) (f : State → FanId → State) : State := (List.finRange 8).foldl f s

/-- A fan is STARTING or RUNNING. -/
def State.anyTurning (s : State) : Bool := (List.finRange 8).any fun n => (s.fan n).state.turning

/-- R86, R90: smoke service begins. The grace timer is stopped and every restart hold is ended. -/
def State.smokeBegins (s : State) : State :=
  State.eachFan { s with grace := none } fun s n => if (s.fan n).state = .restartHold then s.enterReady n else s

/-- R90: smoke service ends. With the path not proven and a fan turning, the grace timer starts. -/
def State.smokeEnds (s : State) : State :=
  if !s.pathProven && s.anyTurning then { s with grace := some Config.graceTime } else s

/-- R83, R90: the path has become proven. The grace timer is stopped and every waiting fan starts. -/
def State.pathGained (s : State) : State :=
  State.eachFan { s with grace := none } fun s n => if (s.fan n).state = .ready then s.startIfAllowed n else s

/-- R90: the path has ceased to be proven. -/
def State.pathLost (s : State) : State :=
  if s.anyTurning then
    if s.resolver.smoke then s.raiseAll .pathLost else { s.raiseAll .pathLost with grace := some Config.graceTime }
  else s

/-- R90: the grace timer has expired. A turning fan is stopped with start pending, and its move is not handed on. -/
def State.graceStop (s : State) (n : FanId) : State :=
  if (s.fan n).state.turning then
    (s.queueStop n).modFan n fun f =>
      { f with state := .stopping, timer := some f.config.stopLimit, startPending := true }
  else s

/-! ### Taking an allocation record (R82, R93) -/

/-- R82: a fan that the record names, by its state. -/
def State.calledFor (s : State) (n : FanId) : State :=
  match (s.fan n).state with
  | .ready => (s.modFan n fun f => { f with startPending := true }).startIfAllowed n
  | .restartHold =>
    let s1 := s.modFan n fun f => { f with startPending := true }
    if s.alloc.record.smoke then s1.enterReady n else s1
  | .starting | .running =>
    if (s.fan n).runSpeed s.alloc.record.speed ≠ (s.fan n).speedCmd ∨ s.alloc.record.smoke ≠ (s.fan n).smokeSent then
      s.queueRun n
    else s
  | _ => s

/-- R82: a fan that the record does not name, by its state. -/
def State.notCalledFor (s : State) (n : FanId) : State :=
  match (s.fan n).state with
  | .ready | .restartHold | .stopping => s.modFan n fun f => { f with startPending := false }
  | .starting | .running => s.stopFan n
  | _ => s

/-- R82: one fan takes the record. -/
def State.fanTakes (s : State) (n : FanId) : State :=
  if s.alloc.record.runSet.contains n then s.calledFor n else s.notCalledFor n

/-- R93: the first fan of the duty list is moved to its end. -/
def turnOver : List FanId → List FanId
  | [] => []
  | n :: ns => ns ++ [n]

/-- R93: an empty run set after a non-empty one, outside smoke service, turns the duty list over. -/
def State.turnDuty (s : State) (old : AllocRecord) : State :=
  if s.alloc.record.runSet.isEmpty && !old.runSet.isEmpty && !s.alloc.record.smoke then { s with duty := turnOver s.duty } else s

/-- R82, R93: the sequencer takes the record that has replaced the old one. -/
def State.takeRunSet (s : State) (old : AllocRecord) : State := (s.eachFan State.fanTakes).turnDuty old

/-! ### Fitting and unfitting (R76) -/

/-- R76: a fan that becomes fitted enters ENROLLING and is appended to the duty list. -/
def State.fitFan (s : State) (n : FanId) : State :=
  let s1 := ((s.fitDevice (.drive n)).rebuildPolls).enterEnrolling n
  { s1 with duty := s1.duty ++ [n] }.trigger

/-- R76: a fan that ceases to be fitted enters ABSENT. -/
def State.unfitFan (s : State) (n : FanId) : State :=
  let s1 := ((s.modFan n fun f =>
    { f with startPending := false, reenrolPending := false, plainAnswers := 0, ability := none, mode := none, cls := none,
             minSpeed := none, report := none }).enterState n .absent none).clearAlarm (.fanFault n)
  (({ s1 with duty := s1.duty.filter (· != n) }.unfitDevice (.drive n)).rebuildPolls).trigger

end Sys2Proof.Machine
end

