-- ==== Sys2Proof/Machine/Dampers.lean ====
section
/-! DEFINITION. The damper supervisor (R97 to R110): the commands and replies of both kinds of damper, their fault
entries, the path-proven condition and the zone indications. -/

namespace Sys2Proof.Machine

/-! ### Indication (R109) -/

/-- R109: a make-up damper is at its commanded end. -/
def MakeUpDamper.arrived (m : MakeUpDamper) : Bool :=
  (m.command == .open_ && m.state == .open_) || (m.command == .closed && m.state == .closed)

/-- R109: the indication of a role and the two dampers; the first line that applies. -/
def indicationOf (r : Role) (d : ExtractDamper) (m : MakeUpDamper) : Indication :=
  if r = .gas then .normal
  else if d.state = .fault ∨ d.state = .lost ∨ m.state = .fault ∨ m.state = .lost then .fault
  else if d.state = .settled ∧ m.arrived then .activeProven
  else .activePending

/-- R109: the supervisor forms a zone's indication again. -/
def State.indicate (s : State) (z : ZoneId) : State :=
  { s with indications := upd s.indications z fun _ => indicationOf (s.role z) (s.extractOf z) (s.makeUpOf z) }

/-- An extract-damper record changes, and the zone's indication with it. -/
def State.modExtract (s : State) (z : ZoneId) (f : ExtractDamper → ExtractDamper) : State :=
  State.indicate { s with extract := upd s.extract z f } z

/-- A make-up-damper record changes, and the zone's indication with it. -/
def State.modMakeUp (s : State) (z : ZoneId) (f : MakeUpDamper → MakeUpDamper) : State :=
  State.indicate { s with makeUp := upd s.makeUp z f } z

/-! ### The path-proven condition (R108) -/

/-- R108: an extract damper of a fitted zone proves the path. -/
def State.proves (s : State) (z : ZoneId) : Bool :=
  (s.zone z).config.fitted && decide (0 < (s.extractOf z).command) && (s.extractOf z).state == .settled
    && decide (Config.provingFeedback ≤ (s.extractOf z).feedback.getD 0)

/-- R108: the condition as the dampers now stand. -/
def State.pathNow (s : State) : Bool := (List.finRange 16).any s.proves

/-- R108: the supervisor re-evaluates the condition. A change is handed to the fan sequencer (R83, R90) and triggers an
allocation pass (R113). -/
def State.reprove (s : State) : State :=
  if s.pathNow = s.pathProven then s
  else if s.pathNow then (State.pathGained { s with pathProven := true }).trigger
  else (State.pathLost { s with pathProven := false }).trigger

/-! ### Fault entries (R106) -/

/-- R106: the source of a DAMPER_FAULT entry of an extract damper, 97 to 112. -/
def extractKey (z : ZoneId) : AlarmKey := .damperFault ⟨z.val, by omega⟩

/-- R106: the source of a DAMPER_FAULT entry of a make-up damper, 113 to 128. -/
def makeUpKey (z : ZoneId) : AlarmKey := .damperFault ⟨16 + z.val, by omega⟩

/-- R106: DAMPER_FAULT is raised with DEVICE_FAULT. -/
def State.damperFault (s : State) (k : AlarmKey) : State := (s.raiseAlarm k none).raiseAll .deviceFault

/-! ### Extract dampers -/

/-- The travel timer of an extract damper, from the full travel limit of its zone (R97). -/
def State.travelTime (s : State) (z : ZoneId) : Option Nat := some (s.zone z).config.travelLimit

/-- A SET with the damper's recorded command is queued, and the damper travels with its full travel limit. -/
def State.driveExtract (s : State) (z : ZoneId) : State :=
  (s.modExtract z fun d => { d with state := .moving, timer := s.travelTime z }).enqueue (.set z (s.extractOf z).command)

/-- R98: an extract damper enters FAULT. -/
def State.faultExtract (s : State) (z : ZoneId) : State :=
  (s.modExtract z fun d => { d with state := .fault, timer := none }).damperFault (extractKey z)

/-- R98, R106: an extract damper enters SETTLED, which clears its entry. -/
def State.settleExtract (s : State) (z : ZoneId) : State :=
  (s.modExtract z fun d => { d with state := .settled, timer := none }).clearAlarm (extractKey z)

/-- R98: the feedback and the command differ by 5 points or less. -/
def ExtractDamper.inBand (d : ExtractDamper) : Bool :=
  decide (d.feedback.getD 0 ≤ d.command + Config.band ∧ d.command ≤ d.feedback.getD 0 + Config.band)

/-- R98, R101: the table of states and replies; the reply's fields are already in the record. -/
def State.judgeExtract (s : State) (z : ZoneId) : State :=
  let d := s.extractOf z
  match d.state with
  | .lost => s.driveExtract z
  | .moving => if d.fault then s.faultExtract z else if d.inBand then s.settleExtract z else s
  | .settled => if d.fault then s.faultExtract z else if d.inBand then s else s.driveExtract z
  | .fault => if d.fault then s else if d.inBand then s.settleExtract z else s

/-- R98: the feedback is clamped to 0 to 100 and stored with the fault flag. -/
def State.storeExtract (s : State) (z : ZoneId) (position flag : Byte) : State :=
  s.modExtract z fun d => { d with feedback := some (clampTo 0 100 position.toNat), fault := flag != 0 }

/-- R98, R101, R108: a reply of an extract damper. -/
def State.extractReplied (s : State) (z : ZoneId) (position flag : Byte) : State :=
  ((s.storeExtract z position flag).judgeExtract z).reprove

/-- R101: an extract damper is declared lost. -/
def State.loseExtract (s : State) (z : ZoneId) : State :=
  if (s.extractOf z).state = .lost then s
  else ((s.modExtract z fun d => { d with state := .lost, timer := none }).damperFault (extractKey z)).reprove

/-- R99: a new command for an extract damper. -/
def State.commandExtract (s : State) (z : ZoneId) (c : Nat) : State :=
  if (s.extractOf z).command = c then s
  else if (s.extractOf z).state = .lost then s.modExtract z fun d => { d with command := c }
  else (s.modExtract z fun d => { d with command := c }).driveExtract z

/-- R107, R97: an extract damper is started as at reset, with a SET of position 0. -/
def State.startExtract (s : State) (z : ZoneId) : State := (s.modExtract z fun _ => {}).driveExtract z

/-- R107: an extract damper ceases to be fitted; its command, last reply and state are kept. -/
def State.stopExtract (s : State) (z : ZoneId) : State :=
  (s.modExtract z fun d => { d with timer := none }).clearAlarm (extractKey z)

/-! ### Make-up dampers -/

/-- The command of a make-up damper as it is queued. -/
def makeUpOrder (z : ZoneId) : MakeUpCommand → Order
  | .open_ => .openUp z
  | .closed => .close z

/-- The state in which a make-up damper travels toward its command. -/
def MakeUpCommand.travelling : MakeUpCommand → MakeUpState
  | .open_ => .opening
  | .closed => .closing

/-- The state of a make-up damper at its commanded end. -/
def MakeUpCommand.end_ : MakeUpCommand → MakeUpState
  | .open_ => .open_
  | .closed => .closed

/-- An OPEN or CLOSE matching the recorded command is queued, and the damper travels with a fresh 60 s. -/
def State.driveMakeUp (s : State) (z : ZoneId) : State :=
  (s.modMakeUp z fun m => { m with state := m.command.travelling, timer := some Config.makeUpTravel }).enqueue
    (makeUpOrder z (s.makeUpOf z).command)

/-- R103 case 1, R104: a make-up damper enters FAULT. -/
def State.faultMakeUp (s : State) (z : ZoneId) : State :=
  (s.modMakeUp z fun m => { m with state := .fault, timer := none }).damperFault (makeUpKey z)

/-- R103 case 2: a make-up damper reaches its commanded end, which clears its entry. -/
def State.settleMakeUp (s : State) (z : ZoneId) : State :=
  (s.modMakeUp z fun m => { m with state := m.command.end_, timer := none }).clearAlarm (makeUpKey z)

/-- R103 case 1: the fault flag is yes, or both switches are made. -/
def MakeUpDamper.faulty (m : MakeUpDamper) : Bool := m.fault || (m.openSwitch == some true && m.closedSwitch == some true)

/-- R103 case 2: the switch of the commanded end is made and the other is not. -/
def MakeUpDamper.atEnd (m : MakeUpDamper) : Bool :=
  match m.command with
  | .open_ => m.openSwitch == some true && m.closedSwitch == some false
  | .closed => m.closedSwitch == some true && m.openSwitch == some false

/-- R103 cases 3 and 4: in any other combination a damper at its commanded end is sent back, and one that travels or is in
FAULT stays. -/
def State.straysMakeUp (s : State) (z : ZoneId) : State :=
  match (s.makeUpOf z).state with
  | .open_ | .closed => s.driveMakeUp z
  | .opening | .closing | .fault | .lost => s

/-- R103, R105: the cases in order; the reply's fields are already in the record. -/
def State.judgeMakeUp (s : State) (z : ZoneId) : State :=
  let m := s.makeUpOf z
  if m.state = .lost then s.driveMakeUp z
  else if m.faulty then if m.state = .fault then s else s.faultMakeUp z
  else if m.atEnd then s.settleMakeUp z
  else s.straysMakeUp z

/-- R103: the three fields of a reply are stored. -/
def State.storeMakeUp (s : State) (z : ZoneId) (openSwitch closedSwitch flag : Byte) : State :=
  s.modMakeUp z fun m =>
    { m with openSwitch := some (openSwitch != 0), closedSwitch := some (closedSwitch != 0), fault := flag != 0 }

/-- R103, R105: a reply of a make-up damper. -/
def State.makeUpReplied (s : State) (z : ZoneId) (openSwitch closedSwitch flag : Byte) : State :=
  (s.storeMakeUp z openSwitch closedSwitch flag).judgeMakeUp z

/-- R105: a make-up damper is declared lost. -/
def State.loseMakeUp (s : State) (z : ZoneId) : State :=
  if (s.makeUpOf z).state = .lost then s
  else (s.modMakeUp z fun m => { m with state := .lost, timer := none }).damperFault (makeUpKey z)

/-- R104: a new command for a make-up damper. -/
def State.commandMakeUp (s : State) (z : ZoneId) (c : MakeUpCommand) : State :=
  if (s.makeUpOf z).command = c then s
  else if (s.makeUpOf z).state = .lost then s.modMakeUp z fun m => { m with command := c }
  else (s.modMakeUp z fun m => { m with command := c }).driveMakeUp z

/-- R107, R102: a make-up damper is started as at reset, with a CLOSE. -/
def State.startMakeUp (s : State) (z : ZoneId) : State := (s.modMakeUp z fun _ => {}).driveMakeUp z

/-- R107: a make-up damper ceases to be fitted. -/
def State.stopMakeUp (s : State) (z : ZoneId) : State :=
  (s.modMakeUp z fun m => { m with timer := none }).clearAlarm (makeUpKey z)

/-! ### Taking the commands of a pass (R99, R104, R131) -/

/-- Every zone in turn, in zone order. -/
def State.eachZone (s : State) (f : State → ZoneId → State) : State := (List.finRange 16).foldl f s

/-- R99: the extract command of a fitted zone. -/
def State.extractTakes (s : State) (z : ZoneId) : State :=
  match s.alloc.record.zones[z.val] with
  | some e => s.commandExtract z e.extract
  | none => s

/-- R104: the make-up command of a fitted zone. -/
def State.makeUpTakes (s : State) (z : ZoneId) : State :=
  match s.alloc.record.zones[z.val] with
  | some e => s.commandMakeUp z e.makeUp
  | none => s

/-- R99, R104, R108: the supervisor takes the commands of one pass together, then re-evaluates the path. -/
def State.takeCommands (s : State) : State := ((s.eachZone State.extractTakes).eachZone State.makeUpTakes).reprove

/-! ### Fitting and unfitting a zone (R107, R153) -/

/-- Both dampers of a zone become fitted and are started as at reset. -/
def State.fitDampers (s : State) (z : ZoneId) : State :=
  ((((s.fitDevice (.extract z)).fitDevice (.makeUp z)).rebuildPolls).startExtract z).startMakeUp z

/-- Both dampers of a zone cease to be fitted. -/
def State.unfitDampers (s : State) (z : ZoneId) : State :=
  ((((s.stopExtract z).stopMakeUp z).unfitDevice (.extract z)).unfitDevice (.makeUp z)).rebuildPolls

end Sys2Proof.Machine
end

