-- ==== Sys2Proof/Machine/Roles.lean ====
section
/-! DEFINITION. The role resolver's shared operations: the effective roles (R56 to R58), smoke service and the required
class (R59), and the protection policy (R67). -/

namespace Sys2Proof.Machine

/-- R57: the effective role of a zone with its ruling layer, from the highest layer present. -/
def State.resolved (s : State) (z : ZoneId) : Role × Layer :=
  match s.resolver.overrides[z.val] with
  | some r => (r, .override)
  | none =>
    match (s.bank s.plan.current).roles[z.val] with
    | some r => (r, .plan)
    | none => if s.resolver.closures[z.val] then (.isolate, .building) else (.gas, .default)

/-- R57: the effective roles as the layers now stand. -/
def State.rolesNow (s : State) : Vector Role 16 := Vector.ofFn fun z => (s.resolved z).1

/-- R57: the ruling layers as the layers now stand. -/
def State.layersNow (s : State) : Vector Layer 16 := Vector.ofFn fun z => (s.resolved z).2

/-- R58: every zone takes its effective role and ruling layer; a change of any role triggers a pass. -/
def State.takeRoles (s : State) : State :=
  State.triggerIf { s with resolver := { s.resolver with roles := s.rolesNow, layers := s.layersNow } }
    (s.rolesNow != s.resolver.roles)

/-- R109: the indication of every zone is formed again. -/
def State.indicateAll (s : State) : State :=
  { s with indications := Vector.ofFn fun z => indicationOf (s.role z) (s.extractOf z) (s.makeUpOf z) }

/-- R59: smoke service is in force while a fitted zone has the effective role EXTRACT. -/
def State.smokeNow (s : State) : Bool :=
  (List.finRange 16).any fun z => (s.zone z).config.fitted && s.role z == .extract

/-- R59: the required class. -/
def State.classNow (s : State) : Nat :=
  match (s.bank s.plan.current).kind with
  | .smoke => (s.bank s.plan.current).cls
  | .normal => 1

/-- R59: the change of smoke service is handed to the fan sequencer (R86, R90). -/
def State.handSmoke (s : State) (old : Bool) : State :=
  if s.resolver.smoke && !old then s.smokeBegins
  else if old && !s.resolver.smoke then s.smokeEnds
  else s

/-- R59: smoke service and the required class are re-evaluated; a change of either triggers a pass. -/
def State.reviewSmoke (s : State) : State :=
  (State.triggerIf { s with resolver := { s.resolver with smoke := s.smokeNow, cls := s.classNow } }
    (s.smokeNow != s.resolver.smoke || s.classNow != s.resolver.cls)).handSmoke s.resolver.smoke

/-- R58, R59: the recomputation of the role resolver. -/
def State.recomputeRoles (s : State) : State := (s.takeRoles.indicateAll).reviewSmoke

/-- R67: the level is FIRE or MANUAL. -/
def State.incident (s : State) : Bool := s.plan.level != .none

end Sys2Proof.Machine
end

