-- ==== Sys2Proof/Machine/Plans.lean ====
section
/-! DEFINITION. The plan controller's shared operations: the current plan and the level with their notices (R39, R53), fire
alarms (R40 to R45), the fire reset and the return (R46 to R49), plan selection and the return to automatic (R50, R51). -/

namespace Sys2Proof.Machine

def State.modPlan (s : State) (f : PlanControl → PlanControl) : State := { s with plan := f s.plan }

/-- R36: a zone's mark in the fire set. -/
def fireMark (z : ZoneId) : BitVec 16 := 1#16 <<< z.val

/-- R36: a zone is a member of the fire set. -/
def State.burning (s : State) (z : ZoneId) : Bool := s.plan.fireSet.getLsbD z.val

/-- R53: PLAN_CHANGED is raised if the current plan has changed to a different plan number. -/
def State.notePlan (s : State) (old : PlanId) : State := if s.plan.current = old then s else s.raiseAll .planChanged

/-- R39: a fitted fan whose service is OUT exists. -/
def State.anyOut (s : State) : Bool :=
  (List.finRange 8).any fun n => (s.fan n).config.fitted && (s.fan n).config.service == .outOfService

/-- R39, R53: the level changes, with its notices; a change from or to NONE is an eligibility change of the fans whose
service is OUT. -/
def State.setLevel (s : State) (l : Level) : State :=
  let s1 := s.modPlan fun c => { c with level := l }
  let s2 := if s.plan.level = .none ∧ l ≠ .none then s1.raiseAll .incidentBegun else s1
  let s3 := if s.plan.level ≠ .none ∧ l = .none then s2.raiseAll .incidentEnded else s2
  s3.triggerIf (((s.plan.level == .none) != (l == .none)) && s.anyOut)

/-- R41: a changed current plan is handed to the role resolver. -/
def State.handPlan (s : State) (old : PlanId) : State := if s.plan.current = old then s else s.recomputeRoles

/-! ### Fire alarms (R40 to R45) -/

/-- R43: the plan controller's own changes when an alarm begins an incident. -/
def PlanControl.begin (c : PlanControl) (z : ZoneId) (t : Nat) : PlanControl :=
  { c with saved := c.current, current := (c.map[z.val]).getD c.current, cause := some ⟨z, c.map[z.val], t, .none⟩ }

/-- R42, R44: the cause record at a second alarm. `wasEmpty` says that the fire set was empty. -/
def secondCause (cause : Option Cause) (z : ZoneId) (t : Nat) (wasEmpty : Bool) : Cause :=
  match cause with
  | none => ⟨z, none, t, .manual⟩
  | some k => if wasEmpty then { k with zone := z, time := t } else k

/-- R44, R45: the plan controller's own changes at a second alarm. -/
def PlanControl.second (c : PlanControl) (z : ZoneId) (t : Nat) (wasEmpty : Bool) : PlanControl :=
  { c with purge := none, cause := some (secondCause c.cause z t wasEmpty) }

/-- R40: a zone joins the fire set with its FIRE entry raised. -/
def State.joinFire (s : State) (z : ZoneId) : State :=
  (s.modPlan fun c => { c with fireSet := c.fireSet ||| fireMark z }).raiseAlarm (.fire z) none

/-- R43: a fire alarm at level NONE begins an incident. -/
def State.beginIncident (s : State) (z : ZoneId) : State :=
  (((((s.joinFire z).modPlan fun c => c.begin z s.partTime).setLevel .fire).notePlan s.plan.current).handPlan s.plan.current)

/-- R44, R45: a second alarm. -/
def State.secondAlarm (s : State) (z : ZoneId) : State :=
  ((s.joinFire z).modPlan fun c => c.second z s.partTime (s.plan.fireSet == 0)).raiseAll .secondFire

/-- R40: the effect of an accepted FIRE ALARM. -/
def State.fireAlarmed (s : State) (z : ZoneId) : State :=
  if s.burning z then s
  else if s.plan.level = .none then s.beginIncident z
  else s.secondAlarm z

/-! ### Fire reset, purge and the return (R46 to R49) -/

/-- R46: the return. -/
def State.doReturn (s : State) : State :=
  ((((s.modPlan fun c => { c with current := c.saved, cause := none, purge := none }).setLevel .none).notePlan
    s.plan.current).handPlan s.plan.current)

/-- R47, R49: every zone leaves the fire set and its FIRE entry is cleared. -/
def State.emptyFires (s : State) : State :=
  ((List.finRange 16).foldl (fun q z => if s.burning z then q.clearAlarm (.fire z) else q) s).modPlan fun c =>
    { c with fireSet := 0 }

/-- R47: the purge timer starts, or the return is made at once. -/
def State.purgeOrReturn (s : State) : State :=
  if 0 < (s.bank s.plan.current).purge then
    s.modPlan fun c => { c with purge := some (s.bank s.plan.current).purge }
  else s.doReturn

/-- R47 to R49: the effect of FIRE RESET. -/
def State.fireReset (s : State) : State :=
  if s.plan.fireSet = 0 then s
  else
    match s.plan.level with
    | .none => s
    | .fire => s.emptyFires.purgeOrReturn
    | .manual => s.emptyFires

/-! ### Plan selection (R50, R51) -/

/-- R50: the effect of an accepted SELECT PLAN. -/
def State.selectPlan (s : State) (p : PlanId) : State :=
  ((((s.modPlan fun c =>
    { c with saved := if c.level = .none then c.current else c.saved, current := p, purge := none }).setLevel .manual).notePlan
      s.plan.current).handPlan s.plan.current)

/-- R51: the plan that RETURN TO AUTOMATIC puts in force while fires stand. -/
def PlanControl.automaticPlan (c : PlanControl) : PlanId :=
  match c.cause with
  | some k => (c.map[k.zone.val]).getD c.saved
  | none => c.saved

/-- R51: the return to automatic, less the recomputation of the roles (R58 makes one for each request). -/
def State.toAutomatic (s : State) : State :=
  if s.plan.fireSet = 0 then
    (((s.modPlan fun c => { c with current := c.saved, cause := none }).setLevel .none).notePlan s.plan.current)
  else
    (((s.modPlan fun c => { c with current := c.automaticPlan }).setLevel .fire).notePlan s.plan.current)

end Sys2Proof.Machine
end

