-- ==== Sys2Proof/Machine/Zones.lean ====
section
/-! DEFINITION. The zone evaluator: gas values, ramps, target and demand (R16 to R20), boosts (R22, R23), head replies and
losses (R11 to R14, R21) and gas-high (R24 to R26). -/

namespace Sys2Proof.Machine

/-! ### The values of one gas -/

def Zone.gas (q : Zone) : Gas → GasRow
  | .co => q.co
  | .no2 => q.no2

def Zone.modGas (q : Zone) (g : Gas) (f : GasRow → GasRow) : Zone :=
  match g with
  | .co => { q with co := f q.co }
  | .no2 => { q with no2 := f q.no2 }

/-- R9: the gas is one the head carries; BOTH counts for both. -/
def Carried.has : Carried → Gas → Bool
  | .co, .co => true
  | .no2, .no2 => true
  | .both, _ => true
  | _, _ => false

/-- The start, full and alarm values of a gas. -/
def ZoneConfig.start (c : ZoneConfig) : Gas → Nat
  | .co => c.coStart
  | .no2 => c.no2Start
def ZoneConfig.full (c : ZoneConfig) : Gas → Nat
  | .co => c.coFull
  | .no2 => c.no2Full
def ZoneConfig.alarm (c : ZoneConfig) : Gas → Nat
  | .co => c.coAlarm
  | .no2 => c.no2Alarm

/-- R24: the clear level of a gas. -/
def ZoneConfig.clearLevel (c : ZoneConfig) (g : Gas) : Nat := c.alarm g * 4 / 5

def Head.reading (h : Head) : Gas → Option Nat
  | .co => h.co
  | .no2 => h.no2

/-- A head that serves a zone, is fitted and carries a gas. -/
def Head.serves (h : Head) (z : ZoneId) (g : Gas) : Bool :=
  h.config.fitted && h.config.zone == z && h.config.carries.has g

/-- R16: the zone gas value. -/
def State.gasValue (s : State) (z : ZoneId) (g : Gas) : Option Nat :=
  (s.heads.toList.filterMap fun h => if h.serves z g && h.state == .valid then h.reading g else none).max?

/-- R18: a fitted head that carries the gas has failed. -/
def State.anyFailed (s : State) (z : ZoneId) (g : Gas) : Bool :=
  s.heads.toList.any fun h => h.serves z g && (h.state == .sensorFault || h.state == .missing)

/-- R17: the ramp of a gas whose value is present. -/
def rampOf (start full v : Nat) : Nat :=
  if v ≤ start then 0 else if full ≤ v then 100 else 100 * (v - start) / (full - start)

/-- R18: the fallback is in use for a gas. -/
def State.fallbackNow (s : State) (z : ZoneId) (g : Gas) : Bool := (s.gasValue z g).isNone && s.anyFailed z g

/-- R17, R18: the ramp of a gas. -/
def State.rampNow (s : State) (z : ZoneId) (g : Gas) : Nat :=
  match s.gasValue z g with
  | some v => rampOf ((s.zone z).config.start g) ((s.zone z).config.full g) v
  | none => if s.anyFailed z g then (s.zone z).config.fallback else 0

/-- R16 to R18: the values of both gases are recomputed. DESIGN CHOICE (log 22): of an unfitted zone too, whose gas values,
ramps and fallback flags go on following its heads; its target and its gas-high do not (R8). -/
def State.refreshGas (s : State) (z : ZoneId) : State :=
  s.modZone z fun q =>
    { q with co := { q.co with value := s.gasValue z .co, ramp := s.rampNow z .co, fallback := s.fallbackNow z .co }
             no2 := { q.no2 with value := s.gasValue z .no2, ramp := s.rampNow z .no2, fallback := s.fallbackNow z .no2 } }

/-! ### Target and demand (R19, R20) -/

/-- R19: the percent of a running boost. -/
def Zone.boostPercent (q : Zone) : Nat := (q.boost.map Boost.percent).getD 0

/-- R19: 100 while gas-high is active for either gas. -/
def Zone.highTerm (q : Zone) : Nat := if q.co.high || q.no2.high then 100 else 0

/-- R19: the target of a zone. -/
def Zone.targetNow (q : Zone) : Nat :=
  if q.config.fitted then
    max q.co.ramp (max q.no2.ramp (max q.config.floor (max q.boostPercent q.highTerm)))
  else q.config.floor

/-- R20: the demand follows a target that has been recomputed and differs. -/
def Zone.follow (q : Zone) (t : Nat) : Zone :=
  if t = q.target then q
  else if q.demand ≤ t then { q with target := t, demand := t, fall := none }
  else { q with target := t, fall := some (q.fall.getD Config.fallTime) }

/-- R19, R20: the target is recomputed and the demand follows; a change of the demand triggers a pass. -/
def State.retarget (s : State) (z : ZoneId) : State :=
  (s.modZone z fun q => q.follow q.targetNow).triggerIf
    (((s.zone z).follow (s.zone z).targetNow).demand != (s.zone z).demand)

/-- R16 to R20: gas values, ramps, target and demand of a zone. -/
def State.refreshZone (s : State) (z : ZoneId) : State := (s.refreshGas z).retarget z

/-- R20: the fall timer expires. -/
def Zone.stepDown (q : Zone) : Zone :=
  { q with demand := max q.target (q.demand - Config.fallStep)
           fall := if q.target < max q.target (q.demand - Config.fallStep) then some Config.fallTime else none }

/-- R20: the expiry of a running fall timer, and the pass that a changed demand triggers. -/
def State.fallExpired (s : State) (z : ZoneId) : State :=
  (s.modZone z Zone.stepDown).triggerIf ((s.zone z).stepDown.demand != (s.zone z).demand)

/-! ### Boosts (R22, R23) -/

/-- R23: a boost starts, is replaced, or ends, and the zone's target is recomputed; R16 recomputes no gas value then. -/
def State.setBoost (s : State) (z : ZoneId) (b : Option Boost) : State :=
  (s.modZone z fun q => { q with boost := b }).retarget z

/-- R23, R160: every running boost ends. -/
def State.endBoosts (s : State) : State :=
  s.eachZone fun s z => if (s.zone z).boost.isSome then s.setBoost z none else s

/-! ### Gas-high (R24 to R26) -/

/-- R25: gas-high becomes active. -/
def State.gasRises (s : State) (z : ZoneId) (g : Gas) : State :=
  ((s.modZone z fun q =>
    { q.modGas g (fun r => { r with high := true }) with highEvents := bump Config.lastCount q.highEvents }).raiseAlarm
      (.gasHigh g z) none).raiseAll .gasHigh

/-- R26, R8: gas-high becomes inactive. -/
def State.gasClears (s : State) (z : ZoneId) (g : Gas) : State :=
  ((s.modZone z fun q => q.modGas g fun r => { r with high := false }).clearAlarm (.gasHigh g z)).raiseAll .gasCleared

/-- R24, R25: a reading at or above the alarm level. -/
def State.highReading (s : State) (z : ZoneId) (g : Gas) : State :=
  let s1 := s.modZone z fun q => q.modGas g fun r => { r with count := bump 15 r.count }
  if (s1.zone z).config.confirm ≤ ((s1.zone z).gas g).count ∧ ((s1.zone z).gas g).high = false then s1.gasRises z g else s1

/-- R24, R26: a reading below the clear level. The zone gas value has been recomputed with the reading. -/
def State.lowReading (s : State) (z : ZoneId) (g : Gas) : State :=
  let s1 := s.modZone z fun q => q.modGas g fun r => { r with count := 0 }
  if ((s1.zone z).gas g).high = true ∧ ((s1.zone z).gas g).value.getD 0 < (s1.zone z).config.clearLevel g then
    s1.gasClears z g
  else s1

/-- R24: an OK reading of a gas is applied to the count of a fitted zone. -/
def State.countReading (s : State) (z : ZoneId) (g : Gas) (v : Option Nat) : State :=
  match v with
  | none => s
  | some x =>
    if (s.zone z).config.fitted = false then s
    else if (s.zone z).config.alarm g ≤ x then s.highReading z g
    else if x < (s.zone z).config.clearLevel g then s.lowReading z g
    else s

/-! ### Heads (R11 to R14, R21) -/

/-- R11: a head status; other than WARMUP and OK it is FAULT. -/
inductive HeadStatus where
  | warmUp | ok | fault
  deriving DecidableEq, Repr

/-- R11, R172: the status of a reply's byte. -/
def headStatusOf (b : Byte) : HeadStatus :=
  match b.toNat with
  | 0 => .warmUp
  | 1 => .ok
  | _ => .fault

/-- R14: HEAD_FAULT is raised with DEVICE_FAULT. -/
def State.headFault (s : State) (h : HeadId) : State := (s.raiseAlarm (.headFault h) none).raiseAll .deviceFault

/-- R11: the clamped reading of a gas the head carries. -/
def keptReading (c : Carried) (g : Gas) (limit : Nat) (raw : Word) : Option Nat :=
  if c.has g then some (clampTo 0 limit raw.toNat) else none

/-- R12: an OK reply. -/
def State.headOk (s : State) (h : HeadId) (co no2 : Word) : State :=
  (s.modHead h fun q =>
    { q with state := .valid, co := keptReading q.config.carries .co 1000 co,
             no2 := keptReading q.config.carries .no2 300 no2 }).clearAlarm (.headFault h)

/-- R12: a WARMUP reply. -/
def State.headWarms (s : State) (h : HeadId) : State :=
  s.modHead h fun q => { q with state := .unknown, co := none, no2 := none }

/-- R12: a FAULT reply. -/
def State.headFaults (s : State) (h : HeadId) : State :=
  let s1 := s.modHead h fun q => { q with state := .sensorFault, co := none, no2 := none }
  if (s.head h).state = .sensorFault then s1 else s1.headFault h

/-- R21 steps 1 to 5 for an OK reply. -/
def State.okReply (s : State) (h : HeadId) (co no2 : Word) : State :=
  let s1 := s.headOk h co no2
  let z := (s.head h).config.zone
  (((s1.refreshGas z).countReading z .co (s1.head h).co).countReading z .no2 (s1.head h).no2).retarget z

/-- R21: one head reply as a whole. -/
def State.headReplied (s : State) (h : HeadId) (status : Byte) (co no2 : Word) : State :=
  match headStatusOf status with
  | .ok => s.okReply h co no2
  | .warmUp => (s.headWarms h).refreshZone (s.head h).config.zone
  | .fault => (s.headFaults h).refreshZone (s.head h).config.zone

/-- R13: a head is declared lost. -/
def State.loseHead (s : State) (h : HeadId) : State :=
  let s1 := s.modHead h fun q => { q with state := .missing, co := none, no2 := none }
  (if (s.head h).state = .missing then s1 else s1.headFault h).refreshZone (s.head h).config.zone

/-! ### Unfitting a zone (R8) -/

/-- R8: gas-high of a gas is ended where it is active. -/
def State.endHigh (s : State) (z : ZoneId) (g : Gas) : State := if ((s.zone z).gas g).high then s.gasClears z g else s

/-- R8: what the evaluator ends when a zone ceases to be fitted. -/
def State.unfitZone (s : State) (z : ZoneId) : State :=
  (((s.modZone z fun q => { q with boost := none }).endHigh z .co).endHigh z .no2).modZone z fun q =>
    { q with co := { q.co with count := 0 }, no2 := { q.no2 with count := 0 } }

end Sys2Proof.Machine
end

