-- ==== Sys2Proof/Machine/Allocation.lean ====
section
/-! DEFINITION. The allocation pass (R111 to R130): required flow, eligibility, stage selection, the stage-down hold,
delivery, allotment, damper commands and flags. Nothing here changes the state; HandOver.lean takes the result. -/

namespace Sys2Proof.Machine

/-- R112: the budget in force. -/
def Allocator.budget (a : Allocator) : Nat :=
  match a.supply with
  | .mains => a.normal
  | .standby => a.standby

/-! ### Required flow (R117) -/

/-- R117: the required flow of a fitted zone. -/
def requiredFlow (q : Zone) : Role → Nat
  | .gas => ceilDiv (q.config.qn * q.demand) 100
  | .extract => q.config.qs
  | .isolate => 0
  | .makeUp => 0

/-- R117: the required flow of a zone; an unfitted zone asks for nothing. -/
def State.required (s : State) (z : ZoneId) : Nat :=
  if (s.zone z).config.fitted then requiredFlow (s.zone z) (s.role z) else 0

/-- The sum of a figure over the zones. -/
def sumZones (f : ZoneId → Nat) : Nat := ((List.finRange 16).map f).sum

/-- R117: the total required flow R. -/
def State.totalRequired (s : State) : Nat := sumZones s.required

/-! ### Eligibility (R118) -/

/-- R118: the state part of the eligibility test. -/
def FanState.countsIn (st : FanState) (smoke : Bool) : Bool := st.inGroup || (smoke && st == .restartHold)

/-- R116: the start-up window is open and smoke service is not in force. -/
def State.heldBack (s : State) : Bool := s.alloc.window.isSome && !s.resolver.smoke

/-- R118: a fan is eligible for a pass. -/
def State.eligible (s : State) (n : FanId) : Bool :=
  (s.fan n).config.fitted
    && (s.fan n).state.countsIn s.resolver.smoke
    && !s.resolver.blocks[n.val]
    && ((s.fan n).config.service == .inService || s.incident)
    && (!s.resolver.smoke || decide (s.resolver.cls ≤ (s.fan n).cls.getD 0))
    && !s.heldBack

/-- R118: the eligible fans in the order of the duty list. -/
def State.eligibleFans (s : State) : List FanId := s.duty.filter s.eligible

/-! ### The figures of a stage (R119) -/

/-- R119: cap, the sum of the rated flows. -/
def State.cap (s : State) (l : List FanId) : Nat := (l.map fun n => (s.fan n).config.flow).sum

/-- R119: Smin, the greatest resolved minimum speed. -/
def State.leastSpeed (s : State) (l : List FanId) : Nat := (l.map fun n => (s.fan n).minSpeed.getD 0).foldl max 0

/-- R119: the speed R asks of a stage, clamped to Smin to 100. -/
def State.speedFor (s : State) (l : List FanId) (r : Nat) : Nat := clampTo (s.leastSpeed l) 100 (ceilDiv (100 * r) (s.cap l))

/-- R119: the power of a stage at a speed, each fan's term rounded up on its own. -/
def State.powerAt (s : State) (l : List FanId) (speed : Nat) : Nat :=
  (l.map fun n => ceilDiv ((s.fan n).config.power * speed ^ 3) 1000000).sum

/-- A run set with its speed, and whether it is the one fan that R123 keeps above the budget. -/
structure Stage where
  fans : List FanId
  speed : Nat
  exceeds : Bool
  deriving DecidableEq, Repr

/-- R120: the empty run set. -/
def noStage : Stage := ⟨[], 0, false⟩

/-! ### Stage selection (R120 to R123) -/

/-- R121 step 1: k0, the fewest of the eligible fans whose capacity reaches R, or all of them. -/
def State.firstReach (s : State) (e : List FanId) (r : Nat) : Nat :=
  (((List.range e.length).map (· + 1)).find? fun k => decide (r ≤ s.cap (e.take k))).getD e.length

/-- The stages from k0 to K. -/
def stagesFrom (k0 k : Nat) : List Nat := (List.range (k + 1 - k0)).map (k0 + ·)

/-- R119: the power of the first k eligible fans at the speed R asks. -/
def State.stagePower (s : State) (e : List FanId) (r k : Nat) : Nat := s.powerAt (e.take k) (s.speedFor (e.take k) r)

/-- R121 steps 2 and 3: the first stage from k0 to K whose power is within the budget. -/
def State.firstWithin (s : State) (e : List FanId) (r b : Nat) : Option Nat :=
  (stagesFrom (s.firstReach e r) e.length).find? fun k => decide (s.stagePower e r k ≤ b)

/-- R122: of two stages, the one of less power; the earlier one, which has fewer fans, where they share it. -/
def State.lesser (s : State) (e : List FanId) (r a k : Nat) : Nat := if s.stagePower e r k < s.stagePower e r a then k else a

/-- R122: k*, the stage from k0 to K with the least power. -/
def State.leastPower (s : State) (e : List FanId) (r : Nat) : Nat :=
  (stagesFrom (s.firstReach e r) e.length).foldl (s.lesser e r) (s.firstReach e r)

/-- R122: the first speed, from the one R asks down to Smin, at which a stage is within the budget. -/
def State.lowered (s : State) (l : List FanId) (r b : Nat) : Option Nat :=
  ((List.range (s.speedFor l r - s.leastSpeed l + 1)).map (s.speedFor l r - ·)).find? fun x => decide (s.powerAt l x ≤ b)

/-- R122, R123: the speed of a stage of k fans is lowered; a stage that stays above the budget at Smin drops its last fan,
and one fan that stays above it is kept. -/
def State.lowerOrDrop (s : State) (e : List FanId) (r b : Nat) : Nat → Stage
  | 0 => noStage
  | k + 1 =>
    match s.lowered (e.take (k + 1)) r b with
    | some x => ⟨e.take (k + 1), x, false⟩
    | none => if k = 0 then ⟨e.take 1, s.leastSpeed (e.take 1), true⟩ else s.lowerOrDrop e r b k

/-- R120 to R123: the stage selection. -/
def State.selectStage (s : State) : Stage :=
  let e := s.eligibleFans
  let r := s.totalRequired
  let b := s.alloc.budget
  if r = 0 ∨ e = [] then noStage
  else
    match s.firstWithin e r b with
    | some k => ⟨e.take k, s.speedFor (e.take k) r, false⟩
    | none => s.lowerOrDrop e r b (s.leastPower e r)

/-! ### The stage-down hold (R124, R125) -/

/-- The fans of a run set in the order the duty list now gives them. -/
def State.inDutyOrder (s : State) (l : List FanId) : List FanId := s.duty.filter fun n => l.contains n

/-- R124: the previous run set is held. -/
def State.holds (s : State) (chosen : Stage) : Bool :=
  let prev := s.alloc.record.runSet
  !s.resolver.smoke && !prev.isEmpty && prev.all s.eligible && decide (chosen.fans.length < prev.length)
    && decide (s.powerAt prev (s.speedFor prev s.totalRequired) ≤ s.alloc.budget)

/-- R124: the stage of a held record. -/
def State.heldStage (s : State) : Stage :=
  ⟨s.inDutyOrder s.alloc.record.runSet, s.speedFor s.alloc.record.runSet s.totalRequired, false⟩

/-- R124, R125: the hold is applied, but not at the expiry of the stage-down timer. -/
def State.holdApplies (s : State) (atExpiry : Bool) : Bool := !atExpiry && s.holds s.selectStage

/-- The stage a pass takes. -/
def State.stage (s : State) (atExpiry : Bool) : Stage := if s.holdApplies atExpiry then s.heldStage else s.selectStage

/-! ### Delivery, allotment and damper commands (R126 to R129) -/

/-- R126: the delivered flow of a stage. -/
def State.delivered (s : State) (g : Stage) : Nat := (g.fans.map fun n => (s.fan n).config.flow * g.speed / 100).sum

/-- R127: the required flow of the fitted zones of one role. -/
def State.requiredOf (s : State) (r : Role) : Nat := sumZones fun z => if s.role z = r then s.required z else 0

/-- R127: a share of a flow among zones that together ask for a total. -/
def share (want flow total : Nat) : Nat := if total = 0 then 0 else if total ≤ flow then want else want * flow / total

/-- R127: the allotment of an EXTRACT zone. -/
def State.extractShare (s : State) (fd : Nat) (z : ZoneId) : Nat :=
  if s.role z = .extract then share (s.required z) fd (s.requiredOf .extract) else 0

/-- R127: the remainder after the EXTRACT zones. -/
def State.remainder (s : State) (fd : Nat) : Nat := fd - sumZones (s.extractShare fd)

/-- R127: the allotment of a zone. -/
def State.allotment (s : State) (fd : Nat) (z : ZoneId) : Nat :=
  match s.role z with
  | .extract => s.extractShare fd z
  | .gas => share (s.required z) (s.remainder fd) (s.requiredOf .gas)
  | .isolate => 0
  | .makeUp => 0

/-- R128: the extract command of a fitted zone. -/
def extractCommand (q : Zone) (allotted : Nat) (running : Bool) : Role → Nat
  | .extract => 100
  | .isolate => 0
  | .makeUp => 0
  | .gas => if running then min 100 (max (ceilDiv (100 * allotted) q.config.qn) q.config.minPosition) else 0

/-- R129: the make-up command of a fitted zone. -/
def makeUpCommand (extract : Nat) : Role → MakeUpCommand
  | .extract => .open_
  | .makeUp => .open_
  | .isolate => .closed
  | .gas => if 0 < extract then .open_ else .closed

/-- R111: the entry of a zone. -/
def State.entry (s : State) (g : Stage) (z : ZoneId) : Option ZoneEntry :=
  if (s.zone z).config.fitted then
    let a := s.allotment (s.delivered g) z
    let x := extractCommand (s.zone z) a (!g.fans.isEmpty) (s.role z)
    some ⟨s.required z, a, x, makeUpCommand x (s.role z)⟩
  else none

/-! ### The record (R111, R120, R126, R130) -/

/-- R120, R126, R123: the flags of a record. -/
def State.flagsOf (s : State) (g : Stage) : Flags :=
  { capped := !g.fans.isEmpty && decide (s.delivered g < s.totalRequired)
    noFans := decide (0 < s.totalRequired) && s.eligibleFans.isEmpty && !s.heldBack
    startUp := decide (0 < s.totalRequired) && s.eligibleFans.isEmpty && s.heldBack
    overBudget := g.exceeds }

/-- R111: the record of a pass. -/
def State.newRecord (s : State) (atExpiry : Bool) : AllocRecord :=
  let g := s.stage atExpiry
  { runSet := g.fans
    speed := g.speed
    power := s.powerAt g.fans g.speed
    required := s.totalRequired
    delivered := s.delivered g
    flags := s.flagsOf g
    held := s.holdApplies atExpiry
    smoke := s.resolver.smoke
    cls := s.resolver.cls
    zones := Vector.ofFn fun z => s.entry g z }

/-- R124, R125: the stage-down timer after a pass. -/
def State.newStageDown (s : State) (atExpiry : Bool) : Option Nat :=
  if s.holdApplies atExpiry then some (s.alloc.stageDown.getD Config.stageDownTime) else none

end Sys2Proof.Machine
end

