-- ==== Sys2Proof/Machine/HandOver.lean ====
section
/-! DEFINITION. A pass taken and handed on (R113, R130, R131), the chain of passes of one event, and the end of a step. -/

namespace Sys2Proof.Machine

/-- R130, R131: the record replaces the old one, the gathered triggers are spent, and FLOW_SHORT is raised if R130 calls
for it. -/
def State.putRecord (s : State) (r : AllocRecord) (stageDown : Option Nat) : State :=
  let s1 := { s with alloc := { s.alloc with record := r, stageDown := stageDown, due := false } }
  if s.alloc.record.flags.newShortage r.flags then s1.raiseAll .flowShort else s1

/-- R131: one pass, handed first to the damper supervisor and then to the fan sequencer. -/
def State.pass (s : State) (atExpiry : Bool) : State :=
  ((s.putRecord (s.newRecord atExpiry) (s.newStageDown atExpiry)).takeCommands).takeRunSet s.alloc.record

/-- R131: further passes while the last handover has raised a trigger. -/
def State.chain : Nat → State → State
  | 0, s => s
  | k + 1, s => if s.alloc.due then State.chain k (s.pass false) else s

/-- R113, R131: the passes of one event. -/
def State.settle (s : State) : State := s.chain Config.chainBound

/-- The end of a step: the passes of the event, then the choice of the next exchange (R148). -/
def State.finish (s : State) : State := s.settle.chooseExchange

/-- R125: the end of the step at the expiry of the stage-down timer, whose pass applies no hold. -/
def State.finishExpiry (s : State) : State := State.finish (s.pass true)

end Sys2Proof.Machine
end

