-- ==== Sys2Proof/Machine/Operands.lean ====
section
/-! DEFINITION. The operands of the requests, read from the index byte and the data words of a frame (R165, R172), with
the values each rule allows and the clamping of numeric fields (R6, R75). -/

namespace Sys2Proof.Machine

/-! ### Index and data words -/

/-- A zone 1 to 16. -/
def zoneOf (index : Byte) : Option ZoneId := if h : 1 ≤ index.toNat ∧ index.toNat ≤ 16 then some ⟨index.toNat - 1, by omega⟩ else none
/-- A head 1 to 48. -/
def headOf (index : Byte) : Option HeadId := if h : 1 ≤ index.toNat ∧ index.toNat ≤ 48 then some ⟨index.toNat - 1, by omega⟩ else none
/-- A fan 1 to 8. -/
def fanOf (index : Byte) : Option FanId := if h : 1 ≤ index.toNat ∧ index.toNat ≤ 8 then some ⟨index.toNat - 1, by omega⟩ else none
/-- A plan 0 to 7. -/
def planOf (index : Byte) : Option PlanId := if h : index.toNat ≤ 7 then some ⟨index.toNat, by omega⟩ else none

/-- The data word at a place. -/
def dataWord (data : List Word) (i : Nat) : Word := data.getD i 0
/-- The value of the data word at a place. -/
def dataNat (data : List Word) (i : Nat) : Nat := (dataWord data i).toNat
/-- R172: a part time or sequence, high word first. -/
def dataLong (data : List Word) (i : Nat) : Nat := dataNat data i * 65536 + dataNat data (i + 1)

/-! ### Named values -/

/-- Yes is 1 and no is 0. -/
def yesNoOf (w : Word) : Option Bool := if w = 0 then some false else if w = 1 then some true else none
def carriedOf (w : Word) : Option Carried := if w = 0 then some .co else if w = 1 then some .no2 else if w = 2 then some .both else none
/-- R9: the zone of a head. -/
def headZoneOf (w : Word) : Option ZoneId := if h : 1 ≤ w.toNat ∧ w.toNat ≤ 16 then some ⟨w.toNat - 1, by omega⟩ else none
/-- A role, or KEEP, or RELEASE in the place of KEEP. -/
def roleOf (w : Word) : Option (Option Role) :=
  if w = 0 then some (some .extract) else if w = 1 then some (some .isolate) else if w = 2 then some (some .makeUp)
  else if w = 3 then some (some .gas) else if w = 4 then some none else none
def kindOf (w : Word) : Option PlanKind := if w = 0 then some .normal else if w = 1 then some .smoke else none
def supplyOf (w : Word) : Option Supply := if w = 0 then some .mains else if w = 1 then some .standby else none
def serviceOf (w : Word) : Option Service := if w = 0 then some .inService else if w = 1 then some .outOfService else none
/-- CLOSE or OPEN (R66). -/
def closureOf (w : Word) : Option Bool := if w = 0 then some true else if w = 1 then some false else none
/-- BLOCK or RELEASE (R64). -/
def blockOf (w : Word) : Option Bool := if w = 0 then some true else if w = 1 then some false else none
/-- R35: a plan map entry. -/
def mapEntryOf (w : Word) : Option (Option PlanId) :=
  if h : w.toNat ≤ 7 then some (some ⟨w.toNat, by omega⟩) else if w = absentWord then some none else none

/-! ### Clamped records -/

/-- A field brought into its range. -/
def clampField (range : Nat × Nat) (w : Word) : Nat := clampTo range.1 range.2 w.toNat

/-- Numeric fields brought into their ranges, from the data word at a place onward. -/
def clampFields (ranges : List (Nat × Nat)) (data : List Word) (start : Nat) : List Nat :=
  List.zipWith clampField ranges (data.drop start)

/-- Some numeric field lies outside its range. -/
def anyClamped (ranges : List (Nat × Nat)) (data : List Word) (start : Nat) : Bool :=
  clampFields ranges data start != ((data.drop start).take ranges.length).map BitVec.toNat

/-- R5: the ranges of the thirteen numeric fields of a zone record, in their order. -/
def zoneRanges : List (Nat × Nat) :=
  [(10, 3000), (10, 3000), (0, 1000), (0, 1000), (0, 1000), (0, 300), (0, 300), (0, 300), (0, 100), (0, 100), (1, 15),
   (0, 30), (15, 240)]

/-- R6: the clamped record of a WRITE ZONE. -/
def zoneRecord (fitted : Bool) (data : List Word) : ZoneConfig :=
  let v := clampFields zoneRanges data 1
  { fitted := fitted, qn := v.getD 0 0, qs := v.getD 1 0, coStart := v.getD 2 0, coFull := v.getD 3 0, coAlarm := v.getD 4 0,
    no2Start := v.getD 5 0, no2Full := v.getD 6 0, no2Alarm := v.getD 7 0, floor := v.getD 8 0, fallback := v.getD 9 0,
    confirm := v.getD 10 0, minPosition := v.getD 11 0, travelLimit := v.getD 12 0 }

/-- R6: both conditions hold for both gases. -/
def ZoneConfig.consistent (c : ZoneConfig) : Bool :=
  decide (c.coStart < c.coFull) && decide (c.coFull ≤ c.coAlarm) && decide (c.no2Start < c.no2Full)
    && decide (c.no2Full ≤ c.no2Alarm)

/-- R73: the ranges of the seven numeric fields of a fan record that WRITE FAN carries, in their order. -/
def fanRanges : List (Nat × Nat) := [(10, 3000), (1, 2000), (10, 60), (0, 2), (5, 120), (10, 300), (0, 300)]

/-- R75: the clamped record of a WRITE FAN, with the service as it stands. -/
def fanRecord (fitted : Bool) (service : Service) (data : List Word) : FanConfig :=
  let v := clampFields fanRanges data 1
  { fitted := fitted, flow := v.getD 0 0, power := v.getD 1 0, minSpeed := v.getD 2 0, cls := v.getD 3 0,
    startLimit := v.getD 4 0, stopLimit := v.getD 5 0, restartHold := v.getD 6 0, service := service }

/-- R33: the ranges of the required class and the purge time. -/
def planRanges : List (Nat × Nat) := [(1, 2), (0, 3600)]

/-- The values a reading gives for every one of sixteen words from a place onward, if it gives one for each. -/
def sixteenFrom {α : Type} (read : Word → Option α) (data : List Word) (start : Nat) : Option (Vector (Option α) 16) :=
  if (List.finRange 16).all (fun i => (read (dataWord data (start + i.val))).isSome) then
    some (Vector.ofFn fun i => read (dataWord data (start + i.val)))
  else none

/-- R33: sixteen roles, each one of the five role names. -/
def rolesOf (data : List Word) : Option (Vector (Option Role) 16) :=
  (sixteenFrom roleOf data 0).map fun v => v.map fun r => r.getD none

/-- R35: sixteen map entries, each a plan number or NONE. -/
def mapOf (data : List Word) : Option (Vector (Option PlanId) 16) :=
  (sixteenFrom mapEntryOf data 0).map fun v => v.map fun r => r.getD none

/-- R30: a role a bank of a kind may hold. -/
def PlanKind.allows : PlanKind → Option Role → Bool
  | .smoke, _ => true
  | .normal, r => r == none || r == some .isolate

/-- R115: a budget is clamped to 1 to 60,000. -/
def budgetRange : Nat × Nat := (1, 60000)

/-- R22: the percent of a boost. -/
def boostPercentOf (data : List Word) : Nat := clampTo 0 100 (dataNat data 0)

/-- R22: the duration of a boost in minutes. -/
def boostMinutesOf (data : List Word) : Nat := clampTo 1 240 (dataNat data 1)

/-- R22: the boost that the operands give; a percent of 0 is a cancel. -/
def boostOf (data : List Word) : Option Boost :=
  if dataNat data 0 = 0 then none else some ⟨boostPercentOf data, 60 * boostMinutesOf data⟩

/-- R22: an operand of a boost is clamped; the duration is not examined for a cancel. -/
def boostClamped (data : List Word) : Bool :=
  dataNat data 0 != 0 && (boostPercentOf data != dataNat data 0 || boostMinutesOf data != dataNat data 1)

end Sys2Proof.Machine
end

