-- ==== Sys2Proof/Machine/Requests.lean ====
section
/-! DEFINITION. A station port takes a request frame (R156 to R160): the decoder, the link watch, the general checks and
the response. -/

namespace Sys2Proof.Machine

/-- R165: a row of the request catalogue. -/
structure CatalogueRow where
  code : Byte
  ports : List Port
  words : Nat
  deriving DecidableEq, Repr

def everyPort : List Port := [.building, .alarm, .override]

/-- R165: the catalogue. -/
def rowPing : CatalogueRow := ⟨0x01, everyPort, 0⟩
def rowRead : CatalogueRow := ⟨0x02, everyPort, 1⟩
def rowReadNotices : CatalogueRow := ⟨0x03, everyPort, 0⟩
def rowAckNotices : CatalogueRow := ⟨0x04, everyPort, 1⟩
def rowSetNoticeMask : CatalogueRow := ⟨0x05, everyPort, 1⟩
def rowEndService : CatalogueRow := ⟨0x06, everyPort, 0⟩
def rowReadAlarmList : CatalogueRow := ⟨0x07, everyPort, 0⟩
def rowAckAlarm : CatalogueRow := ⟨0x08, everyPort, 2⟩
def rowWriteZone : CatalogueRow := ⟨0x10, [.building], 14⟩
def rowWriteHead : CatalogueRow := ⟨0x11, [.building], 3⟩
def rowWriteFan : CatalogueRow := ⟨0x12, [.building], 8⟩
def rowWriteNormalBudget : CatalogueRow := ⟨0x13, [.building], 1⟩
def rowWritePlan : CatalogueRow := ⟨0x14, [.building, .alarm], 18⟩
def rowSelectBasePlan : CatalogueRow := ⟨0x15, [.building], 0⟩
def rowSetZoneClosure : CatalogueRow := ⟨0x16, [.building], 1⟩
def rowSetBoost : CatalogueRow := ⟨0x17, [.building], 2⟩
def rowSetFanService : CatalogueRow := ⟨0x18, [.building], 1⟩
def rowReenrolFan : CatalogueRow := ⟨0x19, [.building], 0⟩
def rowResetFan : CatalogueRow := ⟨0x1A, [.building, .override], 0⟩
def rowClearCounts : CatalogueRow := ⟨0x1B, [.building], 0⟩
def rowFactoryClear : CatalogueRow := ⟨0x1C, [.building], 0⟩
def rowFireAlarm : CatalogueRow := ⟨0x20, [.alarm], 0⟩
def rowFireReset : CatalogueRow := ⟨0x21, [.alarm], 0⟩
def rowSupplyState : CatalogueRow := ⟨0x22, [.alarm], 1⟩
def rowWritePlanMap : CatalogueRow := ⟨0x23, [.alarm], 16⟩
def rowWriteStandbyBudget : CatalogueRow := ⟨0x24, [.alarm], 1⟩
def rowSetPlanKind : CatalogueRow := ⟨0x25, [.alarm], 1⟩
def rowTakeControl : CatalogueRow := ⟨0x30, [.override], 0⟩
def rowGiveControl : CatalogueRow := ⟨0x31, [.override], 0⟩
def rowSetZoneOverride : CatalogueRow := ⟨0x32, [.override], 1⟩
def rowSetFanBlock : CatalogueRow := ⟨0x33, [.override], 1⟩
def rowSelectPlan : CatalogueRow := ⟨0x34, [.override], 0⟩
def rowReturnToAutomatic : CatalogueRow := ⟨0x35, [.override], 0⟩

/-- What the owner of a request answers: the state it leaves, the status and the data. -/
structure Answer where
  state : State
  status : Status
  words : List Word

/-- R4, R157: a refused request changes no state and is answered with no data. -/
def refuse (s : State) (st : Status) : Answer := ⟨s, st, []⟩

/-- R157: an accepted request, answered DONE with data. -/
def doneWith (s : State) (ws : List Word) : Answer := ⟨s, .done, ws⟩

/-- R157: an accepted request, answered DONE with no data. -/
def doneNow (s : State) : Answer := ⟨s, .done, []⟩

/-- An accepted write, answered DONE_CLAMPED if a field was clamped. -/
def doneIf (s : State) (clamped : Bool) : Answer := ⟨s, if clamped then .doneClamped else .done, []⟩

/-- R67: a refusal by the protection policy raises PROTECTED_WRITE on all three ports. -/
def refuseGuarded (s : State) : Answer := ⟨s.raiseAll .protectedWrite, .guarded, []⟩

/-- R156: a frame that is not taken; the decoder discards until the line is quiet. A request command that comes while the
decoder does not wait is such a frame (log 16). -/
def State.discardFrame (s : State) (p : Port) : State := s.modPort p fun q => { q with decoder := .discarding }

/-- R156, R159, R160: a valid request frame is taken. The decoder discards what follows until the line is quiet again; the
silence timer restarts, and a lost link comes UP with its LINK_LOST entry cleared. -/
def State.frameTaken (s : State) (p : Port) : State :=
  let s1 := s.modPort p fun q => { q with link := .up, silence := some (Config.silenceLimit p), decoder := .discarding }
  if (s.port p).link = .lost then s1.clearAlarm (.linkLost p) else s1

/-- R157, R172: the response is sent. -/
def respond (p : Port) (code index : Byte) (a : Answer) : State :=
  a.state.modPort p fun q => { q with response := some ⟨a.status, code, index, a.words⟩ }

/-- R158: the general checks of a request of the catalogue, then its owner's work. -/
def generalChecks (row : CatalogueRow) (p : Port) (data : List Word) (body : State → Answer) (s : State) : Answer :=
  if row.ports.contains p = false then refuse s .refusedPort
  else if data.length ≠ row.words then refuse s .refusedValue
  else body s

/-- R156: the decoder assembles a frame from the first byte after a quiet line; a frame whose count is above 32 is not
valid. -/
def State.takesFrame (s : State) (p : Port) (data : List Word) : Bool := (s.port p).decoder == .waiting && decide (data.length ≤ 32)

/-- R157: a request frame on a port, taken whole. -/
def serve (row : CatalogueRow) (p : Port) (index : Byte) (data : List Word) (body : State → Answer) (s : State) : State :=
  if s.takesFrame p data then respond p row.code index (generalChecks row p data body (s.frameTaken p))
  else s.discardFrame p

end Sys2Proof.Machine
end

