-- ==== Sys2Proof/Machine/Reading.lean ====
section
/-! DEFINITION. What the masters read: the records of the thirteen objects of READ (R167), the pages of the alarm list
(R139) and the fields of PING (R166), in data words (R172). -/

namespace Sys2Proof.Machine

/-! ### Records, by their rules -/

/-- R5, R71: zone configuration. -/
def zoneConfigRecord (s : State) (z : ZoneId) : List Word :=
  zoneConfigWords (s.zone z).config ++ [closureWord s.resolver.closures[z.val]]

/-- R28: percent and seconds left of a boost, or absent. -/
def boostWords : Option Boost → List Word
  | none => [absentWord, absentWord]
  | some b => [num b.percent, num b.left]

/-- R28: a zone's allotment as the allocation record holds it. -/
def allotmentWord (s : State) (z : ZoneId) : Word := optNum (s.alloc.record.zones[z.val].map ZoneEntry.allotment)

/-- R28, R71: zone status. -/
def zoneStatusRecord (s : State) (z : ZoneId) : List Word :=
  let q := s.zone z
  [optNum q.co.value, optNum q.no2.value, num q.co.ramp, num q.no2.ramp, flagWord q.co.fallback, flagWord q.no2.fallback,
   num q.target, num q.demand, timerWord q.fall] ++ boostWords q.boost ++
  [num q.co.count, num q.no2.count, flagWord q.co.high, flagWord q.no2.high, roleWord (s.role z),
   layerWord s.resolver.layers[z.val], overrideWord s.resolver.overrides[z.val], indicationWord s.indications[z.val],
   allotmentWord s z]

/-- R9, R28: head. -/
def headRecord (s : State) (h : HeadId) : List Word :=
  headConfigWords (s.head h).config ++
  [headStateWord (s.head h).state, optNum (s.head h).co, optNum (s.head h).no2, num (s.head h).misses]

/-- R96: fan configuration. -/
def fanConfigRecord (s : State) (n : FanId) : List Word := fanConfigWords (s.fan n).config

/-- R96: fan status. -/
def fanStatusRecord (s : State) (n : FanId) : List Word :=
  let f := s.fan n
  [fanStateWord f.state, timerWord f.timer, (f.mode.map modeWord).getD absentWord, optNum f.cls, optNum f.minSpeed]
    ++ abilityWords f.ability ++ [num f.speedCmd, flagWord f.smokeSent] ++ reportWords f.report ++
  [flagWord f.startPending, flagWord f.reenrolPending, flagWord s.resolver.blocks[n.val],
   flagWord (s.alloc.record.runSet.contains n)]

/-- R110: extract damper. -/
def extractRecord (s : State) (z : ZoneId) : List Word :=
  let d := s.extractOf z
  [flagWord (s.zone z).config.fitted, num (s.zone z).config.travelLimit, num d.command, optNum d.feedback, flagWord d.fault,
   extractStateWord d.state, timerWord d.timer]

/-- R110: make-up damper. -/
def makeUpRecord (s : State) (z : ZoneId) : List Word :=
  let m := s.makeUpOf z
  [flagWord (s.zone z).config.fitted, makeUpCommandWord m.command, optFlag m.openSwitch, optFlag m.closedSwitch,
   flagWord m.fault, makeUpStateWord m.state, timerWord m.timer]

/-- R55: plan. -/
def planRecord (s : State) (p : PlanId) : List Word := planBankWords (s.bank p)

/-- R55: plan map. -/
def planMapRecord (s : State) : List Word := s.plan.map.toList.map planWord

/-- R111: the entry of a zone, or absent. -/
def zoneEntryWords : Option ZoneEntry → List Word
  | none => [absentWord, absentWord, absentWord, absentWord]
  | some e => [num e.required, num e.allotment, num e.extract, makeUpCommandWord e.makeUp]

/-- R111, R132: allocation record. DESIGN CHOICE (log 8): a closed start-up window is carried as a stopped timer, 0. -/
def allocationRecord (s : State) : List Word :=
  let r := s.alloc.record
  slots 8 (r.runSet.map fanWord) ++
  [num r.speed, num r.power, num r.required, num r.delivered, flagsWord r.flags, flagWord r.held, flagWord r.smoke,
   num r.cls] ++ r.zones.toList.flatMap zoneEntryWords ++
  [supplyWord s.alloc.supply, num s.alloc.normal, num s.alloc.standby, num s.alloc.budget, timerWord s.alloc.stageDown,
   timerWord s.alloc.window, flagWord s.pathProven, timerWord s.grace]

/-- R55: the zones of the fire set in ascending order. -/
def fireZones (s : State) : List ZoneId := (List.finRange 16).filter fun z => s.burning z

/-- R42: the cause record, or absent. Its level is carried as an incident level (log 8). -/
def causeWords : Option Cause → List Word
  | none => [absentWord, absentWord, absentWord, absentWord, absentWord]
  | some c => [zoneWord c.zone, planWord c.entered] ++ longNum c.time ++ [levelWord c.writtenAt]

/-- R55: incident record. -/
def incidentRecord (s : State) : List Word :=
  [levelWord s.plan.level, num s.plan.current.val, num s.plan.saved.val, num s.plan.base.val]
    ++ slots 16 ((fireZones s).map zoneWord) ++ causeWords s.plan.cause ++ [timerWord s.plan.purge]

/-- R27, R95: counts. -/
def countsRecord (s : State) : List Word :=
  s.zones.toList.map (fun q => num q.highEvents) ++ s.fans.toList.flatMap fun f => [num f.starts, num f.trips]

/-- R92: duty list. -/
def dutyRecord (s : State) : List Word := slots 8 (s.duty.map fanWord)

/-! ### READ (R167) -/

/-- An object of READ: its index range, the words of a record, and the record at an index. -/
structure ReadObject where
  first : Nat
  last : Nat
  words : Nat
  record : State → Nat → List Word

/-- An object with one record for each zone. -/
def zoneObject (words : Nat) (f : State → ZoneId → List Word) : ReadObject :=
  ⟨1, 16, words, fun s i => if h : 1 ≤ i ∧ i ≤ 16 then f s ⟨i - 1, by omega⟩ else []⟩

/-- An object with one record for each fan. -/
def fanObject (words : Nat) (f : State → FanId → List Word) : ReadObject :=
  ⟨1, 8, words, fun s i => if h : 1 ≤ i ∧ i ≤ 8 then f s ⟨i - 1, by omega⟩ else []⟩

/-- An object of one record, at index 0. -/
def singleObject (words : Nat) (f : State → List Word) : ReadObject := ⟨0, 0, words, fun s _ => f s⟩

/-- R167: the objects, by their codes. -/
def readObject (object : Byte) : Option ReadObject :=
  match object.toNat with
  | 1 => some (zoneObject 15 zoneConfigRecord)
  | 2 => some (zoneObject 20 zoneStatusRecord)
  | 3 => some ⟨1, 48, 7, fun s i => if h : 1 ≤ i ∧ i ≤ 48 then headRecord s ⟨i - 1, by omega⟩ else []⟩
  | 4 => some (fanObject 9 fanConfigRecord)
  | 5 => some (fanObject 18 fanStatusRecord)
  | 6 => some (zoneObject 7 extractRecord)
  | 7 => some (zoneObject 7 makeUpRecord)
  | 8 => some ⟨0, 7, 19, fun s i => if h : i ≤ 7 then planRecord s ⟨i, by omega⟩ else []⟩
  | 9 => some (singleObject 16 planMapRecord)
  | 10 => some (singleObject 89 allocationRecord)
  | 11 => some (singleObject 27 incidentRecord)
  | 12 => some (singleObject 32 countsRecord)
  | 13 => some (singleObject 9 dutyRecord)
  | _ => none

/-- R167: n records from an index lie in the object's range and fit in a response. -/
def ReadObject.admits (o : ReadObject) (index n : Nat) : Bool :=
  decide (0 < n ∧ o.first ≤ index ∧ index ≤ o.last ∧ index + n ≤ o.last + 1 ∧ n * o.words ≤ 96)

/-- R167: the data of an accepted READ: n records in index order. -/
def ReadObject.answer (o : ReadObject) (s : State) (index n : Nat) : List Word :=
  (List.range n).flatMap fun k => o.record s (index + k)

/-! ### Alarm list pages and PING -/

/-- R133, R168, R172: an entry, its fields in order. DESIGN CHOICE (log 8): an absent cleared time is FFFFh in both of its
two words. -/
def entryWords (e : AlarmEntry) : List Word :=
  longNum e.sequence ++ [alarmKindWord e.key, alarmSourceWord e.key, detailWord e.detail, entryStateWord e.state]
    ++ longNum e.raised ++ (match e.cleared with | none => [absentWord, absentWord] | some t => longNum t)
    ++ [(e.ackBy.map portWord).getD absentWord, num e.count]

/-- R139: the entries a READ ALARM LIST returns. -/
def AlarmList.page (a : AlarmList) (p : Port) : List AlarmEntry := (a.entries.drop (a.cursors.get p)).take Config.pageSize

/-- R139: the port's cursor advances by the number of entries returned. -/
def AlarmList.turnPage (a : AlarmList) (p : Port) : AlarmList :=
  { a with cursors := a.cursors.upd p (· + (a.page p).length) }

/-- R139: the data of a READ ALARM LIST. -/
def pageWords (a : AlarmList) (p : Port) : List Word :=
  [num a.entries.length, num (a.cursors.get p)] ++ (a.page p).flatMap entryWords

/-- R140: a PING sets the port's cursor to 0. -/
def AlarmList.rewind (a : AlarmList) (p : Port) : AlarmList := { a with cursors := a.cursors.upd p fun _ => 0 }

/-- R166: the fields of PING in order. -/
def pingWords (s : State) (p : Port) : List Word :=
  longNum s.partTime ++
  [levelWord s.plan.level, num s.plan.current.val, num s.plan.saved.val, s.plan.fireSet, controlWord s.resolver.control,
   supplyWord s.alloc.supply, linkWord s.ports.building.link, linkWord s.ports.alarm.link, linkWord s.ports.override.link,
   num (s.port p).pendingCount]

end Sys2Proof.Machine
end

