-- ==== Sys2Proof/Machine/StartUp.lean ====
section
/-! DEFINITION. Resets and the start-up sequence (R176 to R178), and what a cut-off commit leaves in the store (R175,
R177). -/

namespace Sys2Proof.Machine

/-! ### What power or the reset line found the store doing (R175, R177) -/

/-- R175: the groups named fail their check at the next start-up. -/
def Store.spoil (t : Store) (gs : List GroupId) : Store :=
  { zones := if gs.contains 0 then t.zones.spoiled zonesImage else t.zones
    heads := if gs.contains 1 then t.heads.spoiled headsImage else t.heads
    fans := if gs.contains 2 then t.fans.spoiled fansImage else t.fans
    plans := if gs.contains 3 then t.plans.spoiled plansImage else t.plans
    budgets := if gs.contains 4 then t.budgets.spoiled budgetsImage else t.budgets
    base := if gs.contains 5 then t.base.spoiled baseImage else t.base }

/-- R177: the groups before one hold their defaults; the others are as they were. -/
def Store.clearedBefore (t : Store) (g : GroupId) : Store :=
  { zones := if 0 < g.val then defaultStore.zones else t.zones
    heads := if 1 < g.val then defaultStore.heads else t.heads
    fans := if 2 < g.val then defaultStore.fans else t.fans
    plans := if 3 < g.val then defaultStore.plans else t.plans
    budgets := if 4 < g.val then defaultStore.budgets else t.budgets
    base := t.base }

/-- R175, R177: the store as the part finds it when it starts. -/
def Store.after (t : Store) : StoreCut → Store
  | .clean => t
  | .damaged gs => t.spoil gs
  | .factoryClear g => (t.clearedBefore g).spoil [g]

/-! ### Step 1: the volatile reset values -/

/-- R178 step 1: every block takes its volatile reset values; the store is kept. The values loaded from the store stand at
their defaults until step 2. -/
def State.volatileReset (s : State) : State := { State.reset with store := s.store }

/-! ### Step 2: the store is checked and loaded (R176) -/

/-- R176: a group that fails its check raises its STORE_FAULT entry and notice. -/
def State.groupFailed (s : State) (g : GroupId) : State := (s.raiseAlarm (.storeFault g) none).raiseAll .storeFault

/-- R29: a zone row with its loaded configuration and its volatile reset values. -/
def State.putZones (s : State) (v : Vector ZoneConfig 16) : State := { s with zones := v.map fun c => { config := c } }

def State.putHeads (s : State) (v : Vector HeadConfig 48) : State := { s with heads := v.map fun c => { config := c } }

/-- R74: a fan is ENROLLING if fitted and ABSENT if not. R92: the duty list holds the fitted fans in ascending order. -/
def State.putFans (s : State) (v : Vector FanConfig 8) : State :=
  { s with
    fans := v.map fun c => { config := c, state := if c.fitted then .enrolling else .absent }
    duty := (List.finRange 8).filter fun n => v[n.val].fitted }

def State.putPlans (s : State) (g : PlanGroup) : State := s.modPlan fun c => { c with banks := g.banks, map := g.map }

def State.putBudgets (s : State) (g : BudgetGroup) : State :=
  { s with alloc := { s.alloc with normal := g.normal, standby := g.standby } }

def State.putBase (s : State) (g : BaseGroup) : State :=
  { s.modPlan (fun c => { c with base := g.base }) with resolver := { s.resolver with closures := g.closures } }

/-- R176: each group is loaded as it stands, or defaulted, stored again and reported. -/
def State.loadZones (s : State) : State :=
  if s.store.zones.intact zonesImage then s.putZones s.store.zones.contents
  else State.groupFailed ({ s with store := { s.store with zones := defaultStore.zones } }.putZones defaultZones) 0
def State.loadHeads (s : State) : State :=
  if s.store.heads.intact headsImage then s.putHeads s.store.heads.contents
  else State.groupFailed ({ s with store := { s.store with heads := defaultStore.heads } }.putHeads defaultHeads) 1
def State.loadFans (s : State) : State :=
  if s.store.fans.intact fansImage then s.putFans s.store.fans.contents
  else State.groupFailed ({ s with store := { s.store with fans := defaultStore.fans } }.putFans defaultFans) 2
def State.loadPlans (s : State) : State :=
  if s.store.plans.intact plansImage then s.putPlans s.store.plans.contents
  else State.groupFailed ({ s with store := { s.store with plans := defaultStore.plans } }.putPlans defaultPlans) 3
def State.loadBudgets (s : State) : State :=
  if s.store.budgets.intact budgetsImage then s.putBudgets s.store.budgets.contents
  else State.groupFailed ({ s with store := { s.store with budgets := defaultStore.budgets } }.putBudgets defaultBudgets) 4
def State.loadBase (s : State) : State :=
  if s.store.base.intact baseImage then s.putBase s.store.base.contents
  else State.groupFailed ({ s with store := { s.store with base := defaultStore.base } }.putBase defaultBase) 5

/-- R176, R178 step 2: groups 1 to 6 in turn. -/
def State.loadGroups (s : State) : State :=
  (((((s.loadZones).loadHeads).loadFans).loadPlans).loadBudgets).loadBase

/-! ### Steps 3 to 9 (R178) -/

/-- R37: the lowest-numbered bank of NORMAL kind. -/
def State.lowestNormal (s : State) : PlanId := ((List.finRange 8).find? fun p => (s.bank p).kind == .normal).getD 0

/-- R37: a base plan that names a SMOKE bank is corrected, group 6 is stored again and reported. -/
def State.correctBase (s : State) : State :=
  match (s.bank s.plan.base).kind with
  | .normal => s
  | .smoke => (s.storeBase s.lowestNormal).groupFailed 5

/-- R37: the current plan and the saved plan take the base plan. -/
def State.takeBase (s : State) : State := s.modPlan fun c => { c with current := c.base, saved := c.base }

/-- R29, R178 step 5: every zone's target and demand take the zone's floor. -/
def State.firstTargets (s : State) : State := s.eachZone State.refreshZone

/-- R178 step 7: the extract dampers are driven shut. -/
def State.startExtracts (s : State) : State :=
  s.eachZone fun s z => if (s.zone z).config.fitted then s.startExtract z else s

/-- R178 step 7: the make-up dampers are driven shut. -/
def State.startMakeUps (s : State) : State :=
  s.eachZone fun s z => if (s.zone z).config.fitted then s.startMakeUp z else s

/-- R178 step 7: each fitted drive is asked to enrol. -/
def State.startEnrolments (s : State) : State :=
  s.eachFan fun s n => if (s.fan n).config.fitted then s.enterEnrolling n else s

/-- R111: the record's entries before the first pass. -/
def State.firstEntries (s : State) : State :=
  { s with alloc := { s.alloc with record := { s.alloc.record with
      zones := Vector.ofFn fun z => if (s.zone z).config.fitted then some {} else none } } }

/-- R178 steps 3 to 7, on the loaded groups. Step 8, the start-up window, is already among the volatile values. -/
def State.startBlocks (s : State) : State :=
  ((((((((s.correctBase).takeBase).firstEntries).recomputeRoles).firstTargets).rebuildPolls).startExtracts).startMakeUps).startEnrolments

/-- R178: the part at the end of the start-up sequence; its one pass is taken, and the line begins. -/
def State.startedUp (s : State) : State := ((((s.volatileReset).loadGroups).startBlocks).trigger).finish

/-- R178: the start-up sequence. The model's queue of commands, which is outside the part, is kept. -/
def State.startUp (s : State) : State := { s.startedUp with pending := s.pending }

/-- R177: power-on and the reset line, with what they found the store doing. -/
def State.restart (s : State) (cut : StoreCut) : State := State.startUp { s with store := s.store.after cut }

/-- R177: FACTORY CLEAR stores the defaults of all six groups and then performs the reset. -/
def State.factoryReset (s : State) : State := State.startUp { s with store := defaultStore }

end Sys2Proof.Machine
end

