-- ==== Sys2Proof/Machine/ExecEvery.lean ====
section
/-! DEFINITION. The requests of every port (R166 to R168) and the frames that are not valid (R156, R158). -/

namespace Sys2Proof.Machine

/-- What a step answers in this model. -/
abbrev Result := Host.Outcome State Fault Refusal

/-- R166, R140: PING. -/
def pingBody (p : Port) (s : State) : Answer := doneWith { s with alarms := s.alarms.rewind p } (pingWords s p)

/-- PING (R166). -/
def execPing (p : Port) (index : Byte) (data : List Word) (s : State) : Result :=
  .next (serve rowPing p index data (pingBody p) s)

/-- R167: READ of a named object, once the general checks have passed. -/
def readBody (o : ReadObject) (index : Byte) (data : List Word) (s : State) : Answer :=
  if o.admits index.toNat (dataNat data 0) then doneWith s (o.answer s index.toNat (dataNat data 0))
  else refuse s .refusedValue

/-- R158 check 3 comes before the check of the count. -/
def readChecks (object index : Byte) (p : Port) (data : List Word) (s : State) : Answer :=
  match readObject object with
  | none => refuse s .unknown
  | some o => generalChecks rowRead p data (readBody o index data) s

/-- READ (R167). -/
def execRead (p : Port) (object index : Byte) (data : List Word) (s : State) : Result :=
  .next (if s.takesFrame p data then respond p rowRead.code index (readChecks object index p data (s.frameTaken p))
    else s.discardFrame p)

/-- R162: READ NOTICES. -/
def readNoticesBody (p : Port) (s : State) : Answer := doneWith (s.modPort p PortState.see) [(s.port p).pending]

/-- READ NOTICES (R162). -/
def execReadNotices (p : Port) (index : Byte) (data : List Word) (s : State) : Result :=
  .next (serve rowReadNotices p index data (readNoticesBody p) s)

/-- R163: ACK NOTICES. -/
def ackNoticesBody (p : Port) (data : List Word) (s : State) : Answer :=
  let s1 := s.modPort p (PortState.acknowledge (dataWord data 0))
  doneWith s1 [(s1.port p).pending]

/-- ACK NOTICES (R163). -/
def execAckNotices (p : Port) (index : Byte) (data : List Word) (s : State) : Result :=
  .next (serve rowAckNotices p index data (ackNoticesBody p data) s)

/-- R162: SET NOTICE MASK. -/
def setNoticeMaskBody (p : Port) (data : List Word) (s : State) : Answer :=
  doneNow (s.modPort p (PortState.mask (dataWord data 0)))

/-- SET NOTICE MASK (R162). -/
def execSetNoticeMask (p : Port) (index : Byte) (data : List Word) (s : State) : Result :=
  .next (serve rowSetNoticeMask p index data (setNoticeMaskBody p data) s)

/-- R164: END SERVICE. -/
def endServiceBody (p : Port) (s : State) : Answer := doneNow (s.modPort p PortState.holdLine)

/-- END SERVICE (R164). -/
def execEndService (p : Port) (index : Byte) (data : List Word) (s : State) : Result :=
  .next (serve rowEndService p index data (endServiceBody p) s)

/-- R139: READ ALARM LIST. -/
def readAlarmListBody (p : Port) (s : State) : Answer :=
  doneWith { s with alarms := s.alarms.turnPage p } (pageWords s.alarms p)

/-- READ ALARM LIST (R139). -/
def execReadAlarmList (p : Port) (index : Byte) (data : List Word) (s : State) : Result :=
  .next (serve rowReadAlarmList p index data (readAlarmListBody p) s)

/-- R138: ACK ALARM, its checks in order. -/
def ackAlarmBody (p : Port) (data : List Word) (s : State) : Answer :=
  match s.alarms.entries.find? fun e => e.sequence == dataLong data 0 with
  | none => refuse s .refusedValue
  | some e =>
    if e.key.isFire && p == .building then refuse s .refusedPort
    else if e.ackBy.isSome then doneNow s
    else doneNow { s with alarms := s.alarms.acknowledge (dataLong data 0) p }

/-- ACK ALARM (R138). -/
def execAckAlarm (p : Port) (index : Byte) (data : List Word) (s : State) : Result :=
  .next (serve rowAckAlarm p index data (ackAlarmBody p data) s)

/-- R165: the catalogue. -/
def catalogue : List CatalogueRow :=
  [rowPing, rowRead, rowReadNotices, rowAckNotices, rowSetNoticeMask, rowEndService, rowReadAlarmList, rowAckAlarm,
   rowWriteZone, rowWriteHead, rowWriteFan, rowWriteNormalBudget, rowWritePlan, rowSelectBasePlan, rowSetZoneClosure,
   rowSetBoost, rowSetFanService, rowReenrolFan, rowResetFan, rowClearCounts, rowFactoryClear, rowFireAlarm,
   rowFireReset, rowSupplyState, rowWritePlanMap, rowWriteStandbyBudget, rowSetPlanKind, rowTakeControl, rowGiveControl,
   rowSetZoneOverride, rowSetFanBlock, rowSelectPlan, rowReturnToAutomatic]

/-- R158 checks 1 and 3 pass: the code names a request, and a READ's object names an object. -/
def inCatalogue (code object : Byte) : Bool :=
  catalogue.any (fun r => r.code == code) && (code != rowRead.code || (readObject object).isSome)

/-- UNKNOWN_REQUEST (R158): refused with UNKNOWN; a valid frame all the same, so it is taken as one (R156, R159). -/
def execUnknownRequest (p : Port) (code object index : Byte) (data : List Word) (s : State) : Result :=
  if inCatalogue code object then .refused .namesARequest
  else if s.takesFrame p data then .next (respond p code index (refuse (s.frameTaken p) .unknown))
  else .next (s.discardFrame p)

/-- R156: the decoder after a frame that is not valid. An incomplete frame is held until the gap that cuts it short. -/
def decoderAfter (d : Decoder) : FrameFault → Decoder
  | .incomplete => if d = .waiting then .assembling else .discarding
  | .badSync | .badCount | .badCheck | .beforeResponseEnd | .duringStartUp => .discarding

/-- REQUEST_FRAME_DISCARDED (R156): no response, no restart of the silence timer, no report. -/
def execRequestFrameDiscarded (p : Port) (cause : FrameFault) (s : State) : Result :=
  .next (s.modPort p fun q => { q with decoder := decoderAfter q.decoder cause })

/-- LINE_QUIET (R156): the quiet ends a discard or cuts an incomplete frame short, and the decoder waits for a new frame. -/
def execLineQuiet (p : Port) (s : State) : Result := .next (s.modPort p fun q => { q with decoder := .waiting })

end Sys2Proof.Machine
end

