-- ==== Sys2Proof/Machine/ExecBuilding.lean ====
section
/-! DEFINITION. The requests of the building port (R169), WRITE PLAN of both its ports and RESET FAN of both its ports
among them. -/

namespace Sys2Proof.Machine

/-- R158, R67: the index is checked first, then protection, then the request's own checks. -/
def unlessGuarded (s : State) (body : Answer) : Answer := if s.incident then refuseGuarded s else body

/-- R7, R33: an accepted write of a port raises CONFIG_CHANGED on the other two. -/
def State.configChanged (s : State) (writer : Port) : State := s.raiseOthers .configChanged writer

/-! ### WRITE ZONE (R6 to R8, R68, R107) -/

/-- R68: every field of the clamped record other than the floor equals its stored value. -/
def floorOnly (old : ZoneConfig) (data : List Word) : Bool :=
  yesNoOf (dataWord data 0) == some old.fitted && { zoneRecord old.fitted data with floor := old.floor } == old

/-- R67, R68: the protection policy lets a WRITE ZONE through. -/
def zoneWriteAllowed (s : State) (z : ZoneId) (data : List Word) : Bool :=
  !s.incident || (s.role z == .gas && floorOnly (s.zone z).config data)

/-- R8, R107: the effects of a change of the fitted field on the evaluator, the dampers and the field line. -/
def State.refit (s : State) (z : ZoneId) (old new : Bool) : State :=
  if old && !new then (s.unfitZone z).unfitDampers z
  else if !old && new then s.fitDampers z
  else s

/-- R58, R108: a change of the fitted field has the path and the roles judged again. -/
def State.judgeFit (s : State) (changed : Bool) : State := if changed then (s.reprove).recomputeRoles else s

/-- R7: the effect of an accepted WRITE ZONE, less its passes. -/
def State.zoneWritten (s : State) (z : ZoneId) (c : ZoneConfig) : State :=
  let old := (s.zone z).config.fitted
  ((((((s.commitZone z c).configChanged .building).refit z old c.fitted).judgeFit (old != c.fitted)).refreshZone z).trigger)

/-- R6: the checks of WRITE ZONE in order. -/
def writeZoneBody (index : Byte) (data : List Word) (s : State) : Answer :=
  match zoneOf index with
  | none => refuse s .refusedValue
  | some z =>
    if zoneWriteAllowed s z data = false then refuseGuarded s
    else
      match yesNoOf (dataWord data 0) with
      | none => refuse s .refusedValue
      | some f =>
        if (zoneRecord f data).consistent then
          doneIf (s.zoneWritten z (zoneRecord f data)).finish (anyClamped zoneRanges data 1)
        else refuse s .refusedValue

/-- WRITE ZONE (R6). -/
def execWriteZone (p : Port) (index : Byte) (data : List Word) (s : State) : Result :=
  .next (serve rowWriteZone p index data (writeZoneBody index data) s)

/-! ### WRITE HEAD (R10) -/

/-- R10: the head record is reset. -/
def State.resetHead (s : State) (h : HeadId) : State :=
  ((s.modHead h fun q => { q with state := .unknown, co := none, no2 := none }).clearAlarm (.headFault h)).modLine fun l =>
    l.setLink (.head h) {}

/-- R146, R153: a change of a head's fitted field. -/
def State.refitHead (s : State) (h : HeadId) (old new : Bool) : State :=
  if old = new then s
  else if new then (s.fitDevice (.head h)).rebuildPolls
  else (s.unfitDevice (.head h)).rebuildPolls

/-- R10: the target of the zone served before and of the one served after. -/
def State.refreshZones (s : State) (old new : ZoneId) : State :=
  if old = new then s.refreshZone old else (s.refreshZone old).refreshZone new

/-- R10: the effect of an accepted WRITE HEAD, less its passes. -/
def State.headWritten (s : State) (h : HeadId) (c : HeadConfig) : State :=
  let old := (s.head h).config
  let s1 := (s.commitHead h c).configChanged .building
  if c = old then s1 else ((s1.resetHead h).refitHead h old.fitted c.fitted).refreshZones old.zone c.zone

/-- R10: the record that the data words give, if each has an allowed value. -/
def headRecordOf (data : List Word) : Option HeadConfig :=
  match yesNoOf (dataWord data 0), headZoneOf (dataWord data 1), carriedOf (dataWord data 2) with
  | some f, some z, some g => some ⟨f, z, g⟩
  | _, _, _ => none

/-- R10: the checks of WRITE HEAD in order. -/
def writeHeadBody (index : Byte) (data : List Word) (s : State) : Answer :=
  match headOf index with
  | none => refuse s .refusedValue
  | some h =>
    unlessGuarded s (match headRecordOf data with
      | none => refuse s .refusedValue
      | some c => doneNow (s.headWritten h c).finish)

/-- WRITE HEAD (R10). -/
def execWriteHead (p : Port) (index : Byte) (data : List Word) (s : State) : Result :=
  .next (serve rowWriteHead p index data (writeHeadBody index data) s)

/-! ### WRITE FAN (R75, R76) -/

/-- R75: the resolved class and minimum speed are worked out again from the stored ability. -/
def Fan.reresolve (f : Fan) : Fan :=
  match f.ability with
  | some a => { f with cls := some (a.resolvedClass f.config), minSpeed := some (a.resolvedMinSpeed f.config) }
  | none => f

/-- R75: a write that changes the minimum speed or the mechanical class. -/
def State.ratingsChanged (s : State) (n : FanId) (old new : FanConfig) : State :=
  if old.minSpeed ≠ new.minSpeed ∨ old.cls ≠ new.cls then s.modFan n Fan.reresolve else s

/-- R76: a change of the fitted field. -/
def State.refitFan (s : State) (n : FanId) (old new : Bool) : State :=
  if old = new then s else if new then s.fitFan n else s.unfitFan n

/-- R75: the effect of an accepted WRITE FAN, less its passes. -/
def State.fanWritten (s : State) (n : FanId) (c : FanConfig) : State :=
  let old := (s.fan n).config
  (((((s.commitFan n c).configChanged .building).ratingsChanged n old c).refitFan n old.fitted c.fitted).trigger)

/-- R75 step 4: a fan that is STARTING, RUNNING or STOPPING may not be unfitted. -/
def Fan.busy (f : Fan) : Bool := f.state == .starting || f.state == .running || f.state == .stopping

/-- R75: the checks of WRITE FAN in order. -/
def writeFanBody (index : Byte) (data : List Word) (s : State) : Answer :=
  match fanOf index with
  | none => refuse s .refusedValue
  | some n =>
    unlessGuarded s (match yesNoOf (dataWord data 0) with
      | none => refuse s .refusedValue
      | some f =>
        if (s.fan n).config.fitted && !f && (s.fan n).busy then refuse s .refusedState
        else doneIf (s.fanWritten n (fanRecord f (s.fan n).config.service data)).finish (anyClamped fanRanges data 1))

/-- WRITE FAN (R75). -/
def execWriteFan (p : Port) (index : Byte) (data : List Word) (s : State) : Result :=
  .next (serve rowWriteFan p index data (writeFanBody index data) s)

/-! ### WRITE NORMAL BUDGET (R115) -/

/-- R115: an accepted write of the normal budget. -/
def State.normalWritten (s : State) (b : Nat) : State :=
  ((s.commitNormal b).configChanged .building).triggerIf (b != s.alloc.normal)

def writeNormalBudgetBody (data : List Word) (s : State) : Answer :=
  unlessGuarded s (doneIf (s.normalWritten (clampField budgetRange (dataWord data 0))).finish (anyClamped [budgetRange] data 0))

/-- WRITE NORMAL BUDGET (R115). -/
def execWriteNormalBudget (p : Port) (index : Byte) (data : List Word) (s : State) : Result :=
  .next (serve rowWriteNormalBudget p index data (writeNormalBudgetBody data) s)

/-! ### WRITE PLAN (R32, R33) -/

/-- R33: the bank with its roles, class and purge time replaced. -/
def PlanBank.rewritten (b : PlanBank) (roles : Vector (Option Role) 16) (data : List Word) : PlanBank :=
  { b with roles := roles, cls := clampField (1, 2) (dataWord data 16), purge := clampField (0, 3600) (dataWord data 17) }

/-- R33: the effect of an accepted WRITE PLAN, less its passes. -/
def State.planWritten (s : State) (writer : Port) (k : PlanId) (b : PlanBank) : State :=
  let s1 := (s.commitBank k b).configChanged writer
  if k = s.plan.current then s1.recomputeRoles else s1

/-- R32 checks 4 and 6, R33. -/
def writePlanValues (p : Port) (k : PlanId) (data : List Word) (s : State) : Answer :=
  match rolesOf data with
  | none => refuse s .refusedValue
  | some roles =>
    if roles.toList.all (s.bank k).kind.allows then
      doneIf (s.planWritten p k ((s.bank k).rewritten roles data)).finish (anyClamped planRanges data 16)
    else refuse s .refusedValue

/-- R32: the checks of WRITE PLAN in order. -/
def writePlanBody (p : Port) (index : Byte) (data : List Word) (s : State) : Answer :=
  match planOf index with
  | none => refuse s .refusedValue
  | some k =>
    if p = .building ∧ (s.bank k).kind = .smoke then refuse s .refusedPort
    else if s.incident then if p = .building then refuseGuarded s else refuse s .refusedLevel
    else writePlanValues p k data s

/-- WRITE PLAN (R33). -/
def execWritePlan (p : Port) (index : Byte) (data : List Word) (s : State) : Result :=
  .next (serve rowWritePlan p index data (writePlanBody p index data) s)

/-! ### SELECT BASE PLAN (R52) -/

/-- R52: the effect of an accepted SELECT BASE PLAN, less its passes. -/
def State.baseSelected (s : State) (k : PlanId) : State :=
  let s1 := (s.commitBase k).configChanged .building
  if s.plan.level = .none then
    (((s1.modPlan fun c => { c with current := k, saved := k }).notePlan s.plan.current).handPlan s.plan.current)
  else s1.modPlan fun c => { c with saved := k }

def selectBasePlanBody (index : Byte) (s : State) : Answer :=
  match planOf index with
  | none => refuse s .refusedValue
  | some k => if (s.bank k).kind = .smoke then refuse s .refusedValue else doneNow (s.baseSelected k).finish

/-- SELECT BASE PLAN (R52). -/
def execSelectBasePlan (p : Port) (index : Byte) (data : List Word) (s : State) : Result :=
  .next (serve rowSelectBasePlan p index data (selectBasePlanBody index) s)

/-! ### SET ZONE CLOSURE (R66) -/

/-- R66: the effect of an accepted SET ZONE CLOSURE, less its passes. -/
def State.closureSet (s : State) (z : ZoneId) (closed : Bool) : State :=
  let s1 := (s.commitClosure z closed).configChanged .building
  if s.resolver.closures[z.val] = closed then s1 else s1.recomputeRoles

def setZoneClosureBody (index : Byte) (data : List Word) (s : State) : Answer :=
  match zoneOf index with
  | none => refuse s .refusedValue
  | some z =>
    unlessGuarded s (match closureOf (dataWord data 0) with
      | none => refuse s .refusedValue
      | some c => doneNow (s.closureSet z c).finish)

/-- SET ZONE CLOSURE (R66). -/
def execSetZoneClosure (p : Port) (index : Byte) (data : List Word) (s : State) : Result :=
  .next (serve rowSetZoneClosure p index data (setZoneClosureBody index data) s)

/-! ### SET BOOST (R22, R23, R69) -/

/-- R69: with zone 0 the boost reaches the fitted zones, in an incident those whose effective role is GAS. -/
def State.reachedByAll (s : State) (z : ZoneId) : Bool := (s.zone z).config.fitted && (!s.incident || s.role z == .gas)

/-- R23: the boost of every zone that zone 0 reaches. The reached zones are those of the state the request is taken in. -/
def State.boostAll (s : State) (b : Option Boost) : State :=
  s.eachZone fun q z => if s.reachedByAll z then q.setBoost z b else q

/-- R22, R69: the checks of SET BOOST in order. -/
def setBoostBody (index : Byte) (data : List Word) (s : State) : Answer :=
  if index = 0 then doneIf (s.boostAll (boostOf data)).finish (boostClamped data)
  else
    match zoneOf index with
    | none => refuse s .refusedValue
    | some z =>
      if (s.zone z).config.fitted = false then refuse s .refusedValue
      else if s.incident && s.role z != .gas then refuseGuarded s
      else doneIf (s.setBoost z (boostOf data)).finish (boostClamped data)

/-- SET BOOST (R23). -/
def execSetBoost (p : Port) (index : Byte) (data : List Word) (s : State) : Result :=
  .next (serve rowSetBoost p index data (setBoostBody index data) s)

/-! ### Fan service, re-enrolment and reset (R80, R88, R94) -/

/-- R94: the effect of an accepted SET FAN SERVICE, less its passes. -/
def State.serviceSet (s : State) (n : FanId) (v : Service) : State :=
  ((s.commitFan n { (s.fan n).config with service := v }).configChanged .building).triggerIf (v != (s.fan n).config.service)

def setFanServiceBody (index : Byte) (data : List Word) (s : State) : Answer :=
  match fanOf index with
  | none => refuse s .refusedValue
  | some n =>
    unlessGuarded s (match serviceOf (dataWord data 0) with
      | none => refuse s .refusedValue
      | some v => doneNow (s.serviceSet n v).finish)

/-- SET FAN SERVICE (R94). -/
def execSetFanService (p : Port) (index : Byte) (data : List Word) (s : State) : Result :=
  .next (serve rowSetFanService p index data (setFanServiceBody index data) s)

/-- R80: REENROL FAN, by the fan's state. -/
def reenrolByState (n : FanId) (s : State) : Answer :=
  match (s.fan n).state with
  | .ready | .restartHold =>
    doneNow ((s.modFan n fun f => { f with startPending := false }).enterEnrolHold n).finish
  | .starting | .running =>
    doneNow ((s.modFan n fun f => { f with startPending := false, reenrolPending := true }).stopFan n).finish
  | .absent | .enrolling | .enrolHold | .stopping | .tripped | .lost => refuse s .refusedState

def reenrolFanBody (index : Byte) (s : State) : Answer :=
  match fanOf index with
  | none => refuse s .refusedValue
  | some n => unlessGuarded s (reenrolByState n s)

/-- REENROL FAN (R80). -/
def execReenrolFan (p : Port) (index : Byte) (data : List Word) (s : State) : Result :=
  .next (serve rowReenrolFan p index data (reenrolFanBody index) s)

/-- R88: the effect of an accepted RESET FAN, less its passes. -/
def State.fanReset (s : State) (n : FanId) : State :=
  let s1 := s.clearAlarm (.fanFault n)
  if (s.fan n).reenrolPending then (s1.modFan n fun f => { f with reenrolPending := false }).enterEnrolHold n
  else s1.enterReady n

/-- R88 check 5: the last drive report carries a fault code. -/
def Fan.reportsFault (f : Fan) : Bool :=
  match f.report with
  | some r => r.fault != 0
  | none => false

/-- R88: the checks of RESET FAN in order. -/
def resetFanBody (p : Port) (index : Byte) (s : State) : Answer :=
  match fanOf index with
  | none => refuse s .refusedValue
  | some n =>
    if p = .building ∧ s.incident then refuseGuarded s
    else if p = .override ∧ s.resolver.control = .notInControl then refuse s .refusedState
    else if (s.fan n).state ≠ .tripped then refuse s .refusedState
    else if (s.fan n).reportsFault then refuse s .refusedState
    else doneNow (s.fanReset n).finish

/-- RESET FAN (R88). -/
def execResetFan (p : Port) (index : Byte) (data : List Word) (s : State) : Result :=
  .next (serve rowResetFan p index data (resetFanBody p index) s)

/-! ### CLEAR COUNTS and FACTORY CLEAR (R15, R177) -/

/-- R15: the counts that CLEAR COUNTS clears. -/
def State.countsCleared (s : State) : State :=
  { s with heads := s.heads.map fun h => { h with misses := 0 }
           zones := s.zones.map fun z => { z with highEvents := 0 }
           fans := s.fans.map fun f => { f with starts := 0, trips := 0 } }

def clearCountsBody (s : State) : Answer := unlessGuarded s (doneNow s.countsCleared)

/-- CLEAR COUNTS (R15). -/
def execClearCounts (p : Port) (index : Byte) (data : List Word) (s : State) : Result :=
  .next (serve rowClearCounts p index data clearCountsBody s)

/-- R177: accepted at level NONE. The response is sent before the reset; it is recorded in the state after it. -/
def factoryClearBody (s : State) : Answer := if s.incident then refuse s .refusedLevel else doneNow s.factoryReset

/-- FACTORY CLEAR (R177). -/
def execFactoryClear (p : Port) (index : Byte) (data : List Word) (s : State) : Result :=
  .next (serve rowFactoryClear p index data factoryClearBody s)

end Sys2Proof.Machine
end

