-- ==== Sys2Proof/Machine/ExecAlarm.lean ====
section
/-! DEFINITION. The requests of the alarm port (R170), but for WRITE PLAN, which stands with the building port's. -/

namespace Sys2Proof.Machine

/-! ### FIRE ALARM and FIRE RESET (R40 to R49) -/

/-- R40: a zone outside 1 to 16, or one that is not fitted, is refused. -/
def fireAlarmBody (index : Byte) (s : State) : Answer :=
  match zoneOf index with
  | none => refuse s .refusedValue
  | some z => if (s.zone z).config.fitted then doneNow (s.fireAlarmed z).finish else refuse s .refusedValue

/-- FIRE ALARM (R40). -/
def execFireAlarm (p : Port) (index : Byte) (data : List Word) (s : State) : Result :=
  .next (serve rowFireAlarm p index data (fireAlarmBody index) s)

/-- R47: accepted at every level. -/
def fireResetBody (s : State) : Answer := doneNow s.fireReset.finish

/-- FIRE RESET (R47). -/
def execFireReset (p : Port) (index : Byte) (data : List Word) (s : State) : Result :=
  .next (serve rowFireReset p index data fireResetBody s)

/-! ### SUPPLY STATE and WRITE STANDBY BUDGET (R114, R115) -/

/-- R114: the supply state is set; a change triggers a pass. -/
def State.supplySet (s : State) (v : Supply) : State :=
  State.triggerIf { s with alloc := { s.alloc with supply := v } } (v != s.alloc.supply)

def supplyStateBody (data : List Word) (s : State) : Answer :=
  match supplyOf (dataWord data 0) with
  | none => refuse s .refusedValue
  | some v => doneNow (s.supplySet v).finish

/-- SUPPLY STATE (R114). -/
def execSupplyState (p : Port) (index : Byte) (data : List Word) (s : State) : Result :=
  .next (serve rowSupplyState p index data (supplyStateBody data) s)

/-- R115: an accepted write of the standby budget. -/
def State.standbyWritten (s : State) (b : Nat) : State :=
  ((s.commitStandby b).configChanged .alarm).triggerIf (b != s.alloc.standby)

def writeStandbyBudgetBody (data : List Word) (s : State) : Answer :=
  doneIf (s.standbyWritten (clampField budgetRange (dataWord data 0))).finish (anyClamped [budgetRange] data 0)

/-- WRITE STANDBY BUDGET (R115). -/
def execWriteStandbyBudget (p : Port) (index : Byte) (data : List Word) (s : State) : Result :=
  .next (serve rowWriteStandbyBudget p index data (writeStandbyBudgetBody data) s)

/-! ### WRITE PLAN MAP and SET PLAN KIND (R32, R34, R35) -/

/-- R35: an entry is NONE or names a plan of SMOKE kind. -/
def State.mapEntryAllowed (s : State) : Option PlanId → Bool
  | none => true
  | some k => (s.bank k).kind == .smoke

/-- R35: the effect of an accepted WRITE PLAN MAP. -/
def State.mapWritten (s : State) (m : Vector (Option PlanId) 16) : State := (s.commitMap m).configChanged .alarm

/-- R32, R35: the checks of WRITE PLAN MAP in order. -/
def writePlanMapBody (data : List Word) (s : State) : Answer :=
  if s.incident then refuse s .refusedLevel
  else
    match mapOf data with
    | none => refuse s .refusedValue
    | some m => if m.toList.all s.mapEntryAllowed then doneNow (s.mapWritten m) else refuse s .refusedValue

/-- WRITE PLAN MAP (R35). -/
def execWritePlanMap (p : Port) (index : Byte) (data : List Word) (s : State) : Result :=
  .next (serve rowWritePlanMap p index data (writePlanMapBody data) s)

/-- R34: the roles of a bank do not allow a kind. -/
def PlanBank.forbids (b : PlanBank) (k : PlanKind) : Bool := !b.roles.toList.all k.allows

/-- R34: the plans in force, or the plan map, forbid a kind. -/
def State.kindHeld (s : State) (n : PlanId) : PlanKind → Bool
  | .normal => s.plan.map.toList.any fun e => e == some n
  | .smoke => n == s.plan.current || n == s.plan.saved

/-- R34: the effect of an accepted SET PLAN KIND. -/
def State.kindSet (s : State) (n : PlanId) (k : PlanKind) : State :=
  (s.commitBank n { s.bank n with kind := k }).configChanged .alarm

/-- R34: the checks of a kind. -/
def setPlanKindValue (n : PlanId) (k : PlanKind) (s : State) : Answer :=
  if (s.bank n).forbids k then refuse s .refusedValue
  else if s.kindHeld n k then refuse s .refusedState
  else doneNow (s.kindSet n k)

/-- R32, R34: the checks of SET PLAN KIND in order. -/
def setPlanKindBody (index : Byte) (data : List Word) (s : State) : Answer :=
  match planOf index with
  | none => refuse s .refusedValue
  | some n =>
    if s.incident then refuse s .refusedLevel
    else
      match kindOf (dataWord data 0) with
      | none => refuse s .refusedValue
      | some k => setPlanKindValue n k s

/-- SET PLAN KIND (R34). -/
def execSetPlanKind (p : Port) (index : Byte) (data : List Word) (s : State) : Result :=
  .next (serve rowSetPlanKind p index data (setPlanKindBody index data) s)

end Sys2Proof.Machine
end

