-- ==== Sys2Proof/Machine/ExecOverride.lean ====
section
/-! DEFINITION. The requests of the override port (R171), but for RESET FAN, which stands with the building port's. -/

namespace Sys2Proof.Machine

def State.modResolver (s : State) (f : Resolver → Resolver) : State := { s with resolver := f s.resolver }

/-- The panel has control (R60). -/
def State.controlled (s : State) : Bool := s.resolver.control == .inControl

/-! ### TAKE CONTROL and GIVE CONTROL (R61, R62) -/

/-- R61: the effect of TAKE CONTROL. -/
def State.takeControl (s : State) : State :=
  if s.controlled then s else (s.modResolver fun r => { r with control := .inControl }).raiseAll .overrideChanged

/-- TAKE CONTROL (R61). -/
def execTakeControl (p : Port) (index : Byte) (data : List Word) (s : State) : Result :=
  .next (serve rowTakeControl p index data (fun s => doneNow s.takeControl) s)

/-- R62 steps 1 and 2: every OVERRIDE layer and every block mark is removed; a block removed is an eligibility change. -/
def State.clearOverrides (s : State) : State :=
  (s.modResolver fun r => { r with overrides := Vector.replicate 16 none, blocks := Vector.replicate 8 false }).triggerIf
    (s.resolver.blocks.toList.any id)

/-- R62 step 3: at MANUAL the part returns to automatic. -/
def State.returnIfManual (s : State) : State := if s.plan.level = .manual then s.toAutomatic else s

/-- R62: the effect of GIVE CONTROL while IN_CONTROL. The roles are recomputed once, after all its changes (R58). -/
def State.giveControl (s : State) : State :=
  (((s.clearOverrides.returnIfManual).modResolver fun r => { r with control := .notInControl }).raiseAll
    .overrideChanged).recomputeRoles

def giveControlBody (s : State) : Answer := if s.controlled then doneNow s.giveControl.finish else doneNow s

/-- GIVE CONTROL (R62). -/
def execGiveControl (p : Port) (index : Byte) (data : List Word) (s : State) : Result :=
  .next (serve rowGiveControl p index data giveControlBody s)

/-! ### SET ZONE OVERRIDE and SET FAN BLOCK (R63, R64) -/

/-- R63: the OVERRIDE layer of a zone is set or removed. -/
def State.overrideSet (s : State) (z : ZoneId) (r : Option Role) : State :=
  if s.resolver.overrides[z.val] = r then s
  else
    ((s.modResolver fun q => { q with overrides := upd q.overrides z fun _ => r }).raiseAll .overrideChanged).recomputeRoles

/-- R63: the checks of SET ZONE OVERRIDE in order. RELEASE stands in the place of KEEP. -/
def setZoneOverrideBody (index : Byte) (data : List Word) (s : State) : Answer :=
  match zoneOf index with
  | none => refuse s .refusedValue
  | some z =>
    if s.controlled then
      match roleOf (dataWord data 0) with
      | none => refuse s .refusedValue
      | some r => doneNow (s.overrideSet z r).finish
    else refuse s .refusedState

/-- SET ZONE OVERRIDE (R63). -/
def execSetZoneOverride (p : Port) (index : Byte) (data : List Word) (s : State) : Result :=
  .next (serve rowSetZoneOverride p index data (setZoneOverrideBody index data) s)

/-- R64: the block mark of a fan is set or removed. -/
def State.blockSet (s : State) (n : FanId) (b : Bool) : State :=
  if s.resolver.blocks[n.val] = b then s
  else ((s.modResolver fun q => { q with blocks := upd q.blocks n fun _ => b }).raiseAll .overrideChanged).trigger

/-- R64: the checks of SET FAN BLOCK in order. -/
def setFanBlockBody (index : Byte) (data : List Word) (s : State) : Answer :=
  match fanOf index with
  | none => refuse s .refusedValue
  | some n =>
    if s.controlled then
      match blockOf (dataWord data 0) with
      | none => refuse s .refusedValue
      | some b => doneNow (s.blockSet n b).finish
    else refuse s .refusedState

/-- SET FAN BLOCK (R64). -/
def execSetFanBlock (p : Port) (index : Byte) (data : List Word) (s : State) : Result :=
  .next (serve rowSetFanBlock p index data (setFanBlockBody index data) s)

/-! ### SELECT PLAN and RETURN TO AUTOMATIC (R50, R51) -/

/-- R50: the checks of SELECT PLAN in order. -/
def selectPlanBody (index : Byte) (s : State) : Answer :=
  match planOf index with
  | none => refuse s .refusedValue
  | some k => if s.controlled then doneNow (s.selectPlan k).finish else refuse s .refusedState

/-- SELECT PLAN (R50). -/
def execSelectPlan (p : Port) (index : Byte) (data : List Word) (s : State) : Result :=
  .next (serve rowSelectPlan p index data (selectPlanBody index) s)

/-- R51: the checks of RETURN TO AUTOMATIC in order; a changed current plan is handed to the role resolver. -/
def returnToAutomaticBody (s : State) : Answer :=
  if s.controlled then
    if s.plan.level = .manual then doneNow (s.toAutomatic.handPlan s.plan.current).finish else refuse s .refusedLevel
  else refuse s .refusedState

/-- RETURN TO AUTOMATIC (R51). -/
def execReturnToAutomatic (p : Port) (index : Byte) (data : List Word) (s : State) : Result :=
  .next (serve rowReturnToAutomatic p index data returnToAutomaticBody s)

end Sys2Proof.Machine
end

