-- ==== Sys2Proof/Machine/ExecLine.lean ====
section
/-! DEFINITION. The events of the field line: replies, discarded frames and the reply timeout (R145, R149 to R153). -/

namespace Sys2Proof.Machine

/-! ### Replies (R145, R149, R152, R153) -/

/-- R145: the device is a head. -/
def Device.head? : Device → Option HeadId
  | .head h => some h
  | .drive _ | .extract _ | .makeUp _ => none

/-- R145: the device is a drive. -/
def Device.drive? : Device → Option FanId
  | .drive n => some n
  | .head _ | .extract _ | .makeUp _ => none

/-- R145: the device is an extract damper. -/
def Device.extract? : Device → Option ZoneId
  | .extract z => some z
  | .head _ | .drive _ | .makeUp _ => none

/-- R145: the device is a make-up damper. -/
def Device.makeUp? : Device → Option ZoneId
  | .makeUp z => some z
  | .head _ | .drive _ | .extract _ => none

/-- R149, R153: an exchange ends at a valid reply. The reply of a disowned exchange is not handed to the owner. -/
def State.exchangeAnswered (s : State) (x : Exchange) (owner : State → State) : State :=
  State.finish (if x.disowned then s.endExchange else owner (s.endExchange.deviceAnswered x.device))

/-- R145: the exchange in flight, with the device's object, if the address and the kind of a reply are its own. -/
def State.answers {α : Type} (s : State) (address : Byte) (kind : Device → Option α) : Option (Exchange × α) :=
  match s.line.inFlight with
  | none => none
  | some x =>
    if x.device.address = address.toNat then (kind x.device).map fun a => (x, a) else none

/-- R145, R149: a reply is handed to the owner with the exchange kind it answers, or is discarded. -/
def State.takeReply {α : Type} (s : State) (address : Byte) (kind : Device → Option α)
    (owner : α → Option Order → State → State) : State :=
  match s.answers address kind with
  | some (x, a) => s.exchangeAnswered x (owner a x.order)
  | none => s

/-- HEAD_REPLY (R11, R12, R21). -/
def execHeadReply (address status : Byte) (co no2 : Word) (s : State) : Result :=
  .next (s.takeReply address Device.head? fun h _ s => s.headReplied h status co no2)

/-- STATUS_REPLY (R77). -/
def execStatusReply (address run speed fault : Byte) (s : State) : Result :=
  .next (s.takeReply address Device.drive? fun n kind s => s.driveReply n run speed fault kind none)

/-- ABILITY_REPLY (R77, R78). -/
def execAbilityReply (address run speed fault mode minSpeed smokeClass : Byte) (s : State) : Result :=
  .next (s.takeReply address Device.drive? fun n kind s =>
    s.driveReply n run speed fault kind (some (abilityFrom mode minSpeed smokeClass)))

/-- EXTRACT_REPLY (R98). -/
def execExtractReply (address position flag : Byte) (s : State) : Result :=
  .next (s.takeReply address Device.extract? fun z _ s => s.extractReplied z position flag)

/-- MAKE_UP_REPLY (R103). -/
def execMakeUpReply (address openSwitch closedSwitch flag : Byte) (s : State) : Result :=
  .next (s.takeReply address Device.makeUp? fun z _ s => s.makeUpReplied z openSwitch closedSwitch flag)

/-- FIELD_FRAME_DISCARDED (R145): not counted, not reported and not handed to any block; an exchange goes on waiting. -/
def execFieldFrameDiscarded (_cause : FieldFault) (s : State) : Result := .next s

/-! ### The reply timeout (R150, R151, R153) -/

/-- R150 step 2, R15: the total-miss count of a head. -/
def State.countTotal (s : State) : Device → State
  | .head h => s.modHead h fun q => { q with misses := bump Config.lastCount q.misses }
  | .drive _ | .extract _ | .makeUp _ => s

/-- R151: the loss is handed to the device's owner. -/
def State.ownerLoses (s : State) : Device → State
  | .head h => s.loseHead h
  | .drive n => s.loseFan n
  | .extract z => s.loseExtract z
  | .makeUp z => s.loseMakeUp z

/-- R150: the miss that makes the count 3 of a device that is not lost declares the loss. -/
def Link.lostNow (k : Link) : Bool := decide (Config.missLimit ≤ k.misses) && !k.lost

/-- R150 steps 3 and 4, once the miss is counted. -/
def State.judgeMiss (s : State) (d : Device) (order : Option Order) : State :=
  if (s.link d).lostNow then (s.markLost d).ownerLoses d else s.requeue order

/-- R150, R153: the exchange ends as a miss; a disowned one counts none. -/
def State.missed (s : State) (x : Exchange) : State :=
  if x.disowned then s.endExchange
  else (((s.endExchange).countMiss x.device).countTotal x.device).judgeMiss x.device x.order

/-- REPLY_TIMEOUT (R150). With no exchange in flight there is none to time out. -/
def execReplyTimeout (s : State) : Result :=
  match s.line.inFlight with
  | some x => .next (s.missed x).finish
  | none => .next s

end Sys2Proof.Machine
end

