-- ==== Sys2Proof/Machine/ExecTimers.lean ====
section
/-! DEFINITION. The expiries of the timers, the end of the start-up window, the resets and the tick of part time. An expiry
whose timer does not run does not happen and changes nothing (log 10). -/

namespace Sys2Proof.Machine

/-! ### Zone evaluator and plan controller -/

/-- FALL_TIMER_EXPIRY (R20). -/
def execFallTimerExpiry (z : ZoneId) (s : State) : Result :=
  .next (if (s.zone z).fall.isSome then (s.fallExpired z).finish else s)

/-- BOOST_EXPIRY (R23). -/
def execBoostExpiry (z : ZoneId) (s : State) : Result :=
  .next (if (s.zone z).boost.isSome then (s.setBoost z none).finish else s)

/-- PURGE_TIMER_EXPIRY (R48): the return of R46. -/
def execPurgeTimerExpiry (s : State) : Result := .next (if s.plan.purge.isSome then s.doReturn.finish else s)

/-! ### Fan sequencer -/

/-- The timer of a fan's state runs, and the state is the one named (R74). -/
def Fan.timing (f : Fan) (st : FanState) : Bool := f.state == st && f.timer.isSome

/-- START_LIMIT_EXPIRY (R84). -/
def execStartLimitExpiry (n : FanId) (s : State) : Result :=
  .next (if (s.fan n).timing .starting then (s.tripFan n .startFail).finish else s)

/-- STOP_LIMIT_EXPIRY (R85). -/
def execStopLimitExpiry (n : FanId) (s : State) : Result :=
  .next (if (s.fan n).timing .stopping then (s.tripFan n .stopFail).finish else s)

/-- RESTART_HOLD_EXPIRY (R86). -/
def execRestartHoldExpiry (n : FanId) (s : State) : Result :=
  .next (if (s.fan n).timing .restartHold then (s.enterReady n).finish else s)

/-- ENROL_HOLD_EXPIRY (R80). -/
def execEnrolHoldExpiry (n : FanId) (s : State) : Result :=
  .next (if (s.fan n).timing .enrolHold then (s.enterEnrolling n).finish else s)

/-- R90: the expiry of the grace timer. -/
def State.graceExpired (s : State) : State := State.eachFan { s with grace := none } State.graceStop

/-- GRACE_TIMER_EXPIRY (R90). -/
def execGraceTimerExpiry (s : State) : Result := .next (if s.grace.isSome then s.graceExpired.finish else s)

/-! ### Damper supervisor -/

/-- R100: the travel timer of an extract damper runs. -/
def ExtractDamper.timing (d : ExtractDamper) : Bool := d.state == .moving && d.timer.isSome

/-- R102: the travel timer of a make-up damper runs. -/
def MakeUpDamper.timing (m : MakeUpDamper) : Bool := (m.state == .opening || m.state == .closing) && m.timer.isSome

/-- EXTRACT_TRAVEL_TIMER_EXPIRY (R100). -/
def execExtractTravelTimerExpiry (z : ZoneId) (s : State) : Result :=
  .next (if (s.extractOf z).timing then ((s.faultExtract z).reprove).finish else s)

/-- MAKE_UP_TRAVEL_TIMER_EXPIRY (R104). -/
def execMakeUpTravelTimerExpiry (z : ZoneId) (s : State) : Result :=
  .next (if (s.makeUpOf z).timing then (s.faultMakeUp z).finish else s)

/-! ### Flow allocator -/

/-- STAGE_DOWN_TIMER_EXPIRY (R125): the pass of the expiry applies no hold. -/
def execStageDownTimerExpiry (s : State) : Result := .next (if s.alloc.stageDown.isSome then s.finishExpiry else s)

/-- R116: the start-up window becomes closed. -/
def State.closeWindow (s : State) : State := State.trigger { s with alloc := { s.alloc with window := none } }

/-- START_UP_WINDOW_END (R116). -/
def execStartUpWindowEnd (s : State) : Result := .next (if s.alloc.window.isSome then s.closeWindow.finish else s)

/-! ### Station ports -/

/-- R160: the effect of a loss on the other blocks. -/
def State.portLost (s : State) : Port → State
  | .building => s.endBoosts
  | .alarm | .override => s

/-- R159: the silence timer of a port has expired. -/
def State.linkGone (s : State) (p : Port) : State :=
  ((((s.modPort p fun q => { q with link := .lost, silence := none }).raiseAlarm (.linkLost p) none).raiseAll
    .linkLost)).portLost p

/-- SILENCE_TIMER_EXPIRY (R159). -/
def execSilenceTimerExpiry (p : Port) (s : State) : Result :=
  .next (if (s.port p).silence.isSome then (s.linkGone p).finish else s)

/-- HOLD_OFF_EXPIRY (R164). -/
def execHoldOffExpiry (p : Port) (s : State) : Result :=
  .next (if (s.port p).holdOff then s.modPort p PortState.endHold else s)

/-! ### Resets (R177) -/

/-- POWER_ON (R177). -/
def execPowerOn (cut : StoreCut) (s : State) : Result := .next (s.restart cut)

/-- RESET_LINE (R177): the same effect as power-on. -/
def execResetLine (cut : StoreCut) (s : State) : Result := .next (s.restart cut)

/-! ### Part time (R2) -/

/-- A running timer one second later; it stays at 1 until its expiry is taken (log 6). -/
def lessOne : Option Nat → Option Nat
  | some n => some (if 1 < n then n - 1 else n)
  | none => none

def Boost.second (b : Boost) : Boost := { b with left := if 1 < b.left then b.left - 1 else b.left }

def Zone.second (q : Zone) : Zone := { q with fall := lessOne q.fall, boost := q.boost.map Boost.second }

def Allocator.second (a : Allocator) : Allocator := { a with stageDown := lessOne a.stageDown, window := lessOne a.window }

def PortState.second (q : PortState) : PortState := { q with silence := lessOne q.silence }

/-- R2: one second passes; the seconds left of every running timer go down. -/
def State.second (s : State) : State :=
  { s with
    partTime := bump Config.lastTime s.partTime
    zones := s.zones.map Zone.second
    plan := { s.plan with purge := lessOne s.plan.purge }
    fans := s.fans.map fun f => { f with timer := lessOne f.timer }
    grace := lessOne s.grace
    extract := s.extract.map fun d => { d with timer := lessOne d.timer }
    makeUp := s.makeUp.map fun m => { m with timer := lessOne m.timer }
    alloc := s.alloc.second
    ports := s.ports.map PortState.second }

/-- PART_TIME_TICK (R2). -/
def execPartTimeTick (s : State) : Result := .next s.second

end Sys2Proof.Machine
end

