-- ==== Sys2Proof/Machine/Frames.lean ====
section
/-! DEFINITION. The frames of R172 and R173 in bytes: a request as the master sends it and the command it becomes, the
response, an exchange as the part sends it, and a field reply with the command it becomes. The step takes commands, not
bytes; these functions say which bytes each command stands for. -/

namespace Sys2Proof.Machine

/-- R173: bytes closed with their check word, high byte first. -/
def closed (bs : List Byte) : List Byte := bs ++ wordBytes (crc16 bs)

/-! ### Requests and responses -/

def requestSync : Byte := 0xA5
def responseSync : Byte := 0x5A

/-- R172: a request frame. -/
def requestFrame (code object index : Byte) (data : List Word) : List Byte :=
  closed (requestSync :: code :: object :: index :: BitVec.ofNat 8 data.length :: bytesOf data)

/-- R172: a response frame. -/
def responseFrame (r : Response) : List Byte :=
  closed (responseSync :: statusByte r.status :: r.code :: r.index :: BitVec.ofNat 8 r.words.length :: bytesOf r.words)

/-- R165: the request that a code names, with the operands of its frame; a code that names none is an unknown request. -/
def requestOf (p : Port) (code object index : Byte) (data : List Word) : Instr :=
  match code.toNat with
  | 0x01 => .ping p index data
  | 0x02 => if objectCodes.contains object then .read p object index data else .unknownRequest p code object index data
  | 0x03 => .readNotices p index data
  | 0x04 => .ackNotices p index data
  | 0x05 => .setNoticeMask p index data
  | 0x06 => .endService p index data
  | 0x07 => .readAlarmList p index data
  | 0x08 => .ackAlarm p index data
  | 0x10 => .writeZone p index data
  | 0x11 => .writeHead p index data
  | 0x12 => .writeFan p index data
  | 0x13 => .writeNormalBudget p index data
  | 0x14 => .writePlan p index data
  | 0x15 => .selectBasePlan p index data
  | 0x16 => .setZoneClosure p index data
  | 0x17 => .setBoost p index data
  | 0x18 => .setFanService p index data
  | 0x19 => .reenrolFan p index data
  | 0x1A => .resetFan p index data
  | 0x1B => .clearCounts p index data
  | 0x1C => .factoryClear p index data
  | 0x20 => .fireAlarm p index data
  | 0x21 => .fireReset p index data
  | 0x22 => .supplyState p index data
  | 0x23 => .writePlanMap p index data
  | 0x24 => .writeStandbyBudget p index data
  | 0x25 => .setPlanKind p index data
  | 0x30 => .takeControl p index data
  | 0x31 => .giveControl p index data
  | 0x32 => .setZoneOverride p index data
  | 0x33 => .setFanBlock p index data
  | 0x34 => .selectPlan p index data
  | 0x35 => .returnToAutomatic p index data
  | _ => .unknownRequest p code object index data

/-- R156, R172: the command that the bytes of one frame become on a port. Bytes after the check word are discarded, and the
decoder goes on discarding after the frame has been taken (State.frameTaken). -/
def requestCommand (p : Port) : List Byte → Instr
  | sync :: code :: object :: index :: count :: rest =>
    if sync ≠ requestSync then .requestFrameDiscarded p .badSync
    else if 32 < count.toNat then .requestFrameDiscarded p .badCount
    else if rest.length < 2 * count.toNat + 2 then .requestFrameDiscarded p .incomplete
    else if wordsOf ((rest.drop (2 * count.toNat)).take 2)
        = [crc16 (sync :: code :: object :: index :: count :: rest.take (2 * count.toNat))] then
      requestOf p code object index (wordsOf (rest.take (2 * count.toNat)))
    else .requestFrameDiscarded p .badCheck
  | sync :: _ => .requestFrameDiscarded p (if sync = requestSync then .incomplete else .badSync)
  | [] => .requestFrameDiscarded p .incomplete

/-- R165, R172: the port and the bytes of a request; a request other than READ carries object 0. -/
def requestBytes : Instr → Option (Port × List Byte)
  | .ping p index data => some (p, requestFrame 0x01 0 index data)
  | .read p object index data => some (p, requestFrame 0x02 object index data)
  | .readNotices p index data => some (p, requestFrame 0x03 0 index data)
  | .ackNotices p index data => some (p, requestFrame 0x04 0 index data)
  | .setNoticeMask p index data => some (p, requestFrame 0x05 0 index data)
  | .endService p index data => some (p, requestFrame 0x06 0 index data)
  | .readAlarmList p index data => some (p, requestFrame 0x07 0 index data)
  | .ackAlarm p index data => some (p, requestFrame 0x08 0 index data)
  | .writeZone p index data => some (p, requestFrame 0x10 0 index data)
  | .writeHead p index data => some (p, requestFrame 0x11 0 index data)
  | .writeFan p index data => some (p, requestFrame 0x12 0 index data)
  | .writeNormalBudget p index data => some (p, requestFrame 0x13 0 index data)
  | .writePlan p index data => some (p, requestFrame 0x14 0 index data)
  | .selectBasePlan p index data => some (p, requestFrame 0x15 0 index data)
  | .setZoneClosure p index data => some (p, requestFrame 0x16 0 index data)
  | .setBoost p index data => some (p, requestFrame 0x17 0 index data)
  | .setFanService p index data => some (p, requestFrame 0x18 0 index data)
  | .reenrolFan p index data => some (p, requestFrame 0x19 0 index data)
  | .resetFan p index data => some (p, requestFrame 0x1A 0 index data)
  | .clearCounts p index data => some (p, requestFrame 0x1B 0 index data)
  | .factoryClear p index data => some (p, requestFrame 0x1C 0 index data)
  | .fireAlarm p index data => some (p, requestFrame 0x20 0 index data)
  | .fireReset p index data => some (p, requestFrame 0x21 0 index data)
  | .supplyState p index data => some (p, requestFrame 0x22 0 index data)
  | .writePlanMap p index data => some (p, requestFrame 0x23 0 index data)
  | .writeStandbyBudget p index data => some (p, requestFrame 0x24 0 index data)
  | .setPlanKind p index data => some (p, requestFrame 0x25 0 index data)
  | .takeControl p index data => some (p, requestFrame 0x30 0 index data)
  | .giveControl p index data => some (p, requestFrame 0x31 0 index data)
  | .setZoneOverride p index data => some (p, requestFrame 0x32 0 index data)
  | .setFanBlock p index data => some (p, requestFrame 0x33 0 index data)
  | .selectPlan p index data => some (p, requestFrame 0x34 0 index data)
  | .returnToAutomatic p index data => some (p, requestFrame 0x35 0 index data)
  | .unknownRequest p code object index data => some (p, requestFrame code object index data)
  | .requestFrameDiscarded _ _ | .lineQuiet _ | .headReply _ _ _ _ | .statusReply _ _ _ _ | .abilityReply _ _ _ _ _ _ _
  | .extractReply _ _ _ | .makeUpReply _ _ _ _ | .fieldFrameDiscarded _ | .replyTimeout | .fallTimerExpiry _
  | .boostExpiry _ | .purgeTimerExpiry | .startLimitExpiry _ | .stopLimitExpiry _ | .restartHoldExpiry _
  | .enrolHoldExpiry _ | .graceTimerExpiry | .extractTravelTimerExpiry _ | .makeUpTravelTimerExpiry _
  | .stageDownTimerExpiry | .startUpWindowEnd | .silenceTimerExpiry _ | .holdOffExpiry _ | .powerOn _ | .resetLine _
  | .partTimeTick => none

/-! ### The field line -/

/-- R172: a field frame: address, kind, length, operands or fields, and the check word. -/
def fieldFrame (address kind : Byte) (fields : List Byte) : List Byte :=
  closed (address :: kind :: BitVec.ofNat 8 fields.length :: fields)

/-- R144, R172: the exchange kind and the operands of a frame the part sends. -/
def orderBytes : Option Order → Byte × List Byte
  | none => (0x00, [])
  | some (.run _ speed smoke) => (0x01, [BitVec.ofNat 8 speed, if smoke then 1 else 0])
  | some (.stop _) => (0x02, [])
  | some (.offer _) => (0x03, [])
  | some (.set _ position) => (0x04, [BitVec.ofNat 8 position])
  | some (.openUp _) => (0x05, [])
  | some (.close _) => (0x06, [])

/-- R144, R172: the frame of an exchange as the part sends it. -/
def exchangeFrame (x : Exchange) : List Byte :=
  fieldFrame (BitVec.ofNat 8 x.device.address) (orderBytes x.order).1 (orderBytes x.order).2

/-- R172: the bytes of a field reply. -/
def replyBytes : Instr → Option (List Byte)
  | .headReply a status co no2 => some (fieldFrame a 0x80 (status :: (wordBytes co ++ wordBytes no2)))
  | .statusReply a run speed fault => some (fieldFrame a 0x81 [run, speed, fault])
  | .abilityReply a run speed fault mode minSpeed cls => some (fieldFrame a 0x82 [run, speed, fault, mode, minSpeed, cls])
  | .extractReply a position flag => some (fieldFrame a 0x83 [position, flag])
  | .makeUpReply a openSwitch closedSwitch flag => some (fieldFrame a 0x84 [openSwitch, closedSwitch, flag])
  | _ => none

/-- R145, R172: a reply whose kind and length agree; a length that its kind does not take is a wrong check word (R173),
and a kind that the address does not allow is discarded. -/
def replyOf (address kind : Byte) (fields : List Byte) : Instr :=
  match kind.toNat, fields with
  | 0x80, [status, c1, c0, n1, n0] => .headReply address status (wordOf c1 c0) (wordOf n1 n0)
  | 0x81, [run, speed, fault] => .statusReply address run speed fault
  | 0x82, [run, speed, fault, mode, minSpeed, cls] => .abilityReply address run speed fault mode minSpeed cls
  | 0x83, [position, flag] => .extractReply address position flag
  | 0x84, [openSwitch, closedSwitch, flag] => .makeUpReply address openSwitch closedSwitch flag
  | 0x80, _ | 0x81, _ | 0x82, _ | 0x83, _ | 0x84, _ => .fieldFrameDiscarded .badCheck
  | _, _ => .fieldFrameDiscarded .wrongKind

/-- R145: a reply that no device of its address can send is discarded. -/
def allowedReply (i : Instr) : Instr := if WellFormed i then i else .fieldFrameDiscarded .wrongKind

/-- R145, R172, R173: the command that the bytes of one frame from a device become. -/
def replyCommand : List Byte → Instr
  | address :: kind :: length :: rest =>
    if rest.length = length.toNat + 2
        ∧ wordsOf (rest.drop length.toNat) = [crc16 (address :: kind :: length :: rest.take length.toNat)] then
      allowedReply (replyOf address kind (rest.take length.toNat))
    else .fieldFrameDiscarded .badCheck
  | _ => .fieldFrameDiscarded .badCheck

end Sys2Proof.Machine
end

