-- ==== Sys2Proof/Machine/Dispatch.lean ====
section
/-! DEFINITION. One arm per command, each a direct call of its meaning. -/

namespace Sys2Proof.Machine

def exec (i : Instr) (s : State) : Host.Outcome State Fault Refusal :=
  match i with
  | .ping p index data => Sys2Proof.Machine.execPing p index data s
  | .read p object index data => Sys2Proof.Machine.execRead p object index data s
  | .readNotices p index data => Sys2Proof.Machine.execReadNotices p index data s
  | .ackNotices p index data => Sys2Proof.Machine.execAckNotices p index data s
  | .setNoticeMask p index data => Sys2Proof.Machine.execSetNoticeMask p index data s
  | .endService p index data => Sys2Proof.Machine.execEndService p index data s
  | .readAlarmList p index data => Sys2Proof.Machine.execReadAlarmList p index data s
  | .ackAlarm p index data => Sys2Proof.Machine.execAckAlarm p index data s
  | .writeZone p index data => Sys2Proof.Machine.execWriteZone p index data s
  | .writeHead p index data => Sys2Proof.Machine.execWriteHead p index data s
  | .writeFan p index data => Sys2Proof.Machine.execWriteFan p index data s
  | .writeNormalBudget p index data => Sys2Proof.Machine.execWriteNormalBudget p index data s
  | .writePlan p index data => Sys2Proof.Machine.execWritePlan p index data s
  | .selectBasePlan p index data => Sys2Proof.Machine.execSelectBasePlan p index data s
  | .setZoneClosure p index data => Sys2Proof.Machine.execSetZoneClosure p index data s
  | .setBoost p index data => Sys2Proof.Machine.execSetBoost p index data s
  | .setFanService p index data => Sys2Proof.Machine.execSetFanService p index data s
  | .reenrolFan p index data => Sys2Proof.Machine.execReenrolFan p index data s
  | .resetFan p index data => Sys2Proof.Machine.execResetFan p index data s
  | .clearCounts p index data => Sys2Proof.Machine.execClearCounts p index data s
  | .factoryClear p index data => Sys2Proof.Machine.execFactoryClear p index data s
  | .fireAlarm p index data => Sys2Proof.Machine.execFireAlarm p index data s
  | .fireReset p index data => Sys2Proof.Machine.execFireReset p index data s
  | .supplyState p index data => Sys2Proof.Machine.execSupplyState p index data s
  | .writePlanMap p index data => Sys2Proof.Machine.execWritePlanMap p index data s
  | .writeStandbyBudget p index data => Sys2Proof.Machine.execWriteStandbyBudget p index data s
  | .setPlanKind p index data => Sys2Proof.Machine.execSetPlanKind p index data s
  | .takeControl p index data => Sys2Proof.Machine.execTakeControl p index data s
  | .giveControl p index data => Sys2Proof.Machine.execGiveControl p index data s
  | .setZoneOverride p index data => Sys2Proof.Machine.execSetZoneOverride p index data s
  | .setFanBlock p index data => Sys2Proof.Machine.execSetFanBlock p index data s
  | .selectPlan p index data => Sys2Proof.Machine.execSelectPlan p index data s
  | .returnToAutomatic p index data => Sys2Proof.Machine.execReturnToAutomatic p index data s
  | .unknownRequest p code object index data => Sys2Proof.Machine.execUnknownRequest p code object index data s
  | .requestFrameDiscarded p cause => Sys2Proof.Machine.execRequestFrameDiscarded p cause s
  | .lineQuiet p => Sys2Proof.Machine.execLineQuiet p s
  | .headReply address status co no2 => Sys2Proof.Machine.execHeadReply address status co no2 s
  | .statusReply address run speed fault => Sys2Proof.Machine.execStatusReply address run speed fault s
  | .abilityReply address run speed fault mode minSpeed smokeClass => Sys2Proof.Machine.execAbilityReply address run speed fault mode minSpeed smokeClass s
  | .extractReply address position flag => Sys2Proof.Machine.execExtractReply address position flag s
  | .makeUpReply address openSwitch closedSwitch flag => Sys2Proof.Machine.execMakeUpReply address openSwitch closedSwitch flag s
  | .fieldFrameDiscarded cause => Sys2Proof.Machine.execFieldFrameDiscarded cause s
  | .replyTimeout => Sys2Proof.Machine.execReplyTimeout s
  | .fallTimerExpiry z => Sys2Proof.Machine.execFallTimerExpiry z s
  | .boostExpiry z => Sys2Proof.Machine.execBoostExpiry z s
  | .purgeTimerExpiry => Sys2Proof.Machine.execPurgeTimerExpiry s
  | .startLimitExpiry n => Sys2Proof.Machine.execStartLimitExpiry n s
  | .stopLimitExpiry n => Sys2Proof.Machine.execStopLimitExpiry n s
  | .restartHoldExpiry n => Sys2Proof.Machine.execRestartHoldExpiry n s
  | .enrolHoldExpiry n => Sys2Proof.Machine.execEnrolHoldExpiry n s
  | .graceTimerExpiry => Sys2Proof.Machine.execGraceTimerExpiry s
  | .extractTravelTimerExpiry z => Sys2Proof.Machine.execExtractTravelTimerExpiry z s
  | .makeUpTravelTimerExpiry z => Sys2Proof.Machine.execMakeUpTravelTimerExpiry z s
  | .stageDownTimerExpiry => Sys2Proof.Machine.execStageDownTimerExpiry s
  | .startUpWindowEnd => Sys2Proof.Machine.execStartUpWindowEnd s
  | .silenceTimerExpiry p => Sys2Proof.Machine.execSilenceTimerExpiry p s
  | .holdOffExpiry p => Sys2Proof.Machine.execHoldOffExpiry p s
  | .powerOn cut => Sys2Proof.Machine.execPowerOn cut s
  | .resetLine cut => Sys2Proof.Machine.execResetLine cut s
  | .partTimeTick => Sys2Proof.Machine.execPartTimeTick s

end Sys2Proof.Machine
end

