-- ==== Sys2Proof/Safety.lean ====
section
/-! DEFINITION. What a safe run keeps: the state that no allocation pass changes, and the invariants of the blocks that the
chapters state as laws. -/

namespace Sys2Proof.Machine

/-! ### What no pass changes -/

/-- What a port keeps while notices are raised. -/
structure PortLasting where
  link : LinkState
  silence : Option Nat
  decoder : Decoder
  masked : BitVec 16
  holdOff : Bool
  response : Option Response
  deriving DecidableEq, Repr

/-- The state that a pass, its handover and the choice of an exchange leave as it stood. -/
structure Lasting where
  partTime : Nat
  zones : Vector Zone 16
  heads : Vector Head 48
  plan : PlanControl
  resolver : Resolver
  fanConfigs : Vector FanConfig 8
  supply : Supply
  normal : Nat
  standby : Nat
  window : Option Nat
  ports : PerPort PortLasting
  store : Store
  pending : List Instr
  deriving DecidableEq, Repr

def PortState.lasting (q : PortState) : PortLasting := ⟨q.link, q.silence, q.decoder, q.masked, q.holdOff, q.response⟩

def State.lasting (s : State) : Lasting :=
  { partTime := s.partTime, zones := s.zones, heads := s.heads, plan := s.plan, resolver := s.resolver,
    fanConfigs := s.fans.map Fan.config, supply := s.alloc.supply, normal := s.alloc.normal, standby := s.alloc.standby,
    window := s.alloc.window, ports := s.ports.map PortState.lasting, store := s.store, pending := s.pending }

/-! ### What a command leaves -/

/-- R157: the lasting state once a port has answered a request: that of the state that has taken the frame, with the
response. -/
def State.answered (s : State) (p : Port) (r : Response) : Lasting :=
  { (s.frameTaken p).lasting with
    ports := (s.frameTaken p).lasting.ports.upd p fun q => { q with response := some r } }

/-- R113, R148, R157: the state at the end of a request, from the one its owners left: the passes and the exchange choice are
done, and then the response is sent. -/
def State.sends (u : State) (p : Port) (r : Response) : State := u.finish.modPort p fun q => { q with response := some r }

/-- R161: a notice is pending on a port and not seen there since it was raised. -/
def State.noticed (s : State) (n : Notice) (p : Port) : Prop :=
  (s.port p).pending.getLsbD n.place = true ∧ (s.port p).seen.getLsbD n.place = false

/-- R161: a notice is pending on all three ports and not seen. -/
def State.noticedByAll (s : State) (n : Notice) : Prop := ∀ p, s.noticed n p

/-- Neither the alarm list nor any port differs from s to u. -/
def State.Quiet (s u : State) : Prop := u.alarms = s.alarms ∧ u.ports = s.ports

/-- R135, R137, R161: from s to u one raise with DEVICE_FAULT reaches the alarm list and the ports, and nothing else does.
AlarmListStaysSound says what the raise does, AcknowledgementAndHoldOff what the notice does. -/
def State.Faults (s u : State) (k : AlarmKey) (d : Option FanDetail) : Prop :=
  u.alarms = (s.raiseAlarm k d).alarms ∧ u.ports = ((s.raiseAlarm k d).raiseAll .deviceFault).ports

/-- R136: from s to u one clear reaches the alarm list, and nothing else reaches it or a port. -/
def State.Clears (s u : State) (k : AlarmKey) : Prop := u.alarms = (s.clearAlarm k).alarms ∧ u.ports = s.ports

/-- From s to u the alarm entries of every kind and source but those of ks stay, in their order, and so do the marks of every
notice but those of ns, on every port. -/
structure State.KeepsRest (s u : State) (ks : List AlarmKey) (ns : List Notice) : Prop where
  entries : (u.alarms.entries.filter fun e => e.key ∉ ks) = s.alarms.entries.filter fun e => e.key ∉ ks
  marks : ∀ p (n : Notice), n ∉ ns → (u.port p).pending.getLsbD n.place = (s.port p).pending.getLsbD n.place ∧
    (u.port p).seen.getLsbD n.place = (s.port p).seen.getLsbD n.place

/-- The kinds and sources of the entries of the fan sequencer. -/
def fanFaults : List AlarmKey := (List.finRange 8).map .fanFault

/-- What the fan sequencer, the damper supervisor and the allocator hold beside the fan records and Lasting. -/
structure Plant where
  duty : List FanId
  grace : Option Nat
  extract : Vector ExtractDamper 16
  makeUp : Vector MakeUpDamper 16
  pathProven : Bool
  indications : Vector Indication 16
  record : AllocRecord
  stageDown : Option Nat
  deriving DecidableEq, Repr

def State.plant (s : State) : Plant :=
  { duty := s.duty, grace := s.grace, extract := s.extract, makeUp := s.makeUp, pathProven := s.pathProven,
    indications := s.indications, record := s.alloc.record, stageDown := s.alloc.stageDown }

/-- u differs from s in one fan's record, the exchange with devices, the alarm list, notices and a trigger alone. -/
structure State.OnlyFan (s u : State) (n : FanId) : Prop where
  lasting : u.lasting = s.lasting
  plant : u.plant = s.plant
  others : ∀ m, m ≠ n → u.fan m = s.fan m
  links : ∀ d, d ≠ .drive n → u.link d = s.link d

/-- u differs from s in one zone's extract damper and its indication, the exchange with devices, the alarm list and
notices alone. -/
structure State.OnlyExtract (s u : State) (z : ZoneId) : Prop where
  lasting : u.lasting = s.lasting
  plant : { u.plant with extract := s.extract, indications := s.indications } = s.plant
  fans : u.fans = s.fans
  alloc : u.alloc = s.alloc
  others : ∀ w, w ≠ z → u.extractOf w = s.extractOf w
  indications : ∀ w : ZoneId, w ≠ z → u.indications[w.val] = s.indications[w.val]
  links : ∀ d, d ≠ .extract z → u.link d = s.link d

/-- u differs from s in one zone's make-up damper and its indication, the exchange with devices, the alarm list and
notices alone. -/
structure State.OnlyMakeUp (s u : State) (z : ZoneId) : Prop where
  lasting : u.lasting = s.lasting
  plant : { u.plant with makeUp := s.makeUp, indications := s.indications } = s.plant
  fans : u.fans = s.fans
  alloc : u.alloc = s.alloc
  others : ∀ w, w ≠ z → u.makeUpOf w = s.makeUpOf w
  indications : ∀ w : ZoneId, w ≠ z → u.indications[w.val] = s.indications[w.val]
  links : ∀ d, d ≠ .makeUp z → u.link d = s.link d

/-- R9: a head is fitted in a zone and carries a gas. -/
def State.Senses (s : State) (h : HeadId) (z : ZoneId) (g : Gas) : Prop :=
  let k := (s.head h).config
  k.fitted = true ∧ k.zone = z ∧ (k.carries = .both ∨ k.carries = (match g with | .co => .co | .no2 => .no2))

/-- R9: the last reading of a gas. -/
def State.lastReading (s : State) (h : HeadId) (g : Gas) : Option Nat :=
  match g with
  | .co => (s.head h).co
  | .no2 => (s.head h).no2

/-- R17, R18: the ramp that the value and the fallback flag of a row make by a zone's record. -/
def ZoneConfig.rampBy (c : ZoneConfig) (g : Gas) (r : GasRow) : Nat :=
  let (start, full) := match g with
    | .co => (c.coStart, c.coFull)
    | .no2 => (c.no2Start, c.no2Full)
  match r.value with
  | some v => if v ≤ start then 0 else if full ≤ v then 100 else 100 * (v - start) / (full - start)
  | none => if r.fallback = true then c.fallback else 0

/-- R16 to R18: what a zone's row holds of one gas is what the zone's heads and its record give. -/
structure State.GasSound (s : State) (z : ZoneId) (g : Gas) (r : GasRow) : Prop where
  /-- R16: the greatest last reading among the fitted VALID heads that carry the gas -/
  value : match r.value with
    | some v => (∃ h, s.Senses h z g ∧ (s.head h).state = .valid ∧ s.lastReading h g = some v) ∧
        ∀ h, s.Senses h z g → (s.head h).state = .valid → (s.lastReading h g).getD 0 ≤ v
    | none => ∀ h, s.Senses h z g → (s.head h).state = .valid → s.lastReading h g = none
  /-- R18: the fallback is in use -/
  fallback : r.fallback = true ↔ r.value = none ∧
    ∃ h, s.Senses h z g ∧ ((s.head h).state = .sensorFault ∨ (s.head h).state = .missing)
  ramp : r.ramp = (s.zone z).config.rampBy g r

/-- R19: the greatest of the five terms of a fitted zone's target, and the floor of one that is not fitted. -/
def Zone.greatestTerm (q : Zone) : Nat :=
  if q.config.fitted = true then
    max q.co.ramp (max q.no2.ramp (max q.config.floor (max (match q.boost with | some b => b.percent | none => 0)
      (if q.co.high = true ∨ q.no2.high = true then 100 else 0))))
  else q.config.floor

/-- R19, R20: r is the row q once its target has been recomputed and its demand has followed; all else of the row stays. -/
structure Zone.Follows (q r : Zone) : Prop where
  row : r = { q with target := r.target, demand := r.demand, fall := r.fall }
  target : r.target = q.greatestTerm
  demand :
    if r.target = q.target then r.demand = q.demand ∧ r.fall = q.fall
    else if q.demand ≤ r.target then r.demand = r.target ∧ r.fall = none
    else r.demand = q.demand ∧ r.fall = some (q.fall.getD 10)

/-- R16 to R20: the row of a zone is q with its gas values, ramps and fallback flags worked out again from the heads, its target
recomputed and its demand following; all else of the row stays. -/
structure State.WorkedOut (s : State) (z : ZoneId) (q : Zone) : Prop where
  gas : ∀ g, s.GasSound z g ((s.zone z).gas g)
  follows : let r := s.zone z
    Zone.Follows { q with
      co := { q.co with value := r.co.value, ramp := r.co.ramp, fallback := r.co.fallback }
      no2 := { q.no2 with value := r.no2.value, ramp := r.no2.ramp, fallback := r.no2.fallback } } r

/-- R57, R59: what the resolver r holds beside what a recomputation of the roles works out, with v's outcome of one. -/
def Resolver.reworked (r v : Resolver) : Resolver :=
  { r with roles := v.roles, layers := v.layers, smoke := v.smoke, cls := v.cls }

/-- R87: the record of a fan that has entered TRIPPED. -/
def Fan.tripped (f : Fan) : Fan :=
  { f with state := .tripped, timer := none, startPending := false, trips := if f.trips < 65535 then f.trips + 1 else f.trips,
           speedCmd := 0, smokeSent := false }

/-- R83: the record of a fan that has entered READY, and STARTING at once where start pending is set and the path is
proven; a RUN carries the record's speed, or 100 to a FIXED fan, and its smoke flag. -/
def Fan.readied (f : Fan) (pathProven : Bool) (r : AllocRecord) : Fan :=
  if f.startPending = true ∧ pathProven = true then
    { f with state := .starting, timer := some f.config.startLimit, startPending := false,
             starts := if f.starts < 65535 then f.starts + 1 else f.starts,
             speedCmd := if f.mode = some .fixed then 100 else r.speed, smokeSent := r.smoke }
  else { f with state := .ready, timer := none }

/-- R85: the record of a fan that has entered STOPPING. -/
def Fan.stopped (f : Fan) : Fan :=
  { f with state := .stopping, timer := some f.config.stopLimit, speedCmd := 0, smokeSent := false }

/-- R78: the record of a fan that has entered ENROLLING. -/
def Fan.enrols (f : Fan) : Fan :=
  { f with state := .enrolling, timer := none, ability := none, mode := none, cls := none, minSpeed := none,
           plainAnswers := 0 }

/-- R77: the report that the bytes of a reply make. -/
def Fan.reported (f : Fan) (run speed fault : Byte) : DriveReport :=
  { run := if run = 0 then .stopped else if run = 1 then .accelerating else if run = 2 then .atSpeed
      else if run = 3 then .decelerating else (f.report.map DriveReport.run).getD .stopped
    speed := min 100 speed.toNat
    fault := if run.toNat ≤ 3 then fault.toNat else 255 }

/-! ### Alarm list (R133, R134, R140) -/

/-- R133: what one entry always is. -/
structure AlarmEntry.Sound (e : AlarmEntry) : Prop where
  /-- the cleared time is present while the state is CLEARED -/
  cleared : e.state = .cleared ↔ e.cleared.isSome = true
  /-- R138: an entry that is CLEARED and acknowledged has left -/
  waits : ¬(e.state = .cleared ∧ e.ackBy.isSome = true)
  count : 1 ≤ e.count ∧ e.count ≤ Config.lastRaise
  sequence : 1 ≤ e.sequence ∧ e.sequence ≤ Config.lastSequence

/-- R133, R134, R140: the laws of the list. -/
structure AlarmList.Sound (a : AlarmList) : Prop where
  entries : ∀ e ∈ a.entries, e.Sound
  length : a.entries.length ≤ Config.listSize
  keys : a.entries.Pairwise fun e f => e.key ≠ f.key
  sequences : a.entries.Pairwise fun e f => e.sequence ≠ f.sequence
  counter : 1 ≤ a.counter ∧ a.counter ≤ Config.lastSequence
  free : ∀ e ∈ a.entries, e.sequence ≠ a.counter
  cursors : ∀ p, a.cursors.get p ≤ a.entries.length

/-! ### Moves of a fan with their entries (R83, R87, R89) -/

/-- R83, R89, R91: from s to u the fan n, with the record q, has entered READY, and STARTING at once where R83 has it. No
FAN_FAULT entry of the fan is ACTIVE, the eligibility change is handed on, and the RUN of a start is queued for a drive that
takes commands. -/
structure State.Readied (s u : State) (n : FanId) (q : Fan) : Prop where
  fan : u.fan n = q.readied s.pathProven s.alloc.record
  entry : s.alarms.Sound → u.alarms.hasActive (.fanFault n) = false
  due : u.alloc.due = true
  run : q.config.fitted = true → (u.link (.drive n)).lost = false → q.startPending = true → s.pathProven = true →
    .run n (if q.mode = some .fixed then 100 else s.alloc.record.speed) s.alloc.record.smoke ∈ u.line.queue

/-- R39: a fitted fan whose service is OUT exists. -/
def State.AnyOut (s : State) : Prop := ∃ n, (s.fan n).config.fitted = true ∧ (s.fan n).config.service = .outOfService

/-- A fan is STARTING or RUNNING. -/
def State.AnyTurning (s : State) : Prop := ∃ n, (s.fan n).state = .starting ∨ (s.fan n).state = .running

/-- R58, R59, R86, R90: what a request that can move the roles does from s to u, before its passes, to the allocator, the fans
and the grace timer. A pass is triggered by a changed effective role, smoke service or required class, or by what else the
request changes (`other`). -/
structure State.RolesHanded (s u : State) (other : Prop) : Prop where
  due : u.alloc.due = true ↔ s.alloc.due = true ∨ other ∨ u.resolver.roles ≠ s.resolver.roles ∨
    u.resolver.smoke ≠ s.resolver.smoke ∨ u.resolver.cls ≠ s.resolver.cls
  alloc : { u.alloc with due := s.alloc.due } = s.alloc
  plant : { u.plant with grace := s.grace, indications := s.indications } = s.plant
  links : ∀ d, u.link d = s.link d
  /-- R86, R90: smoke service begins -/
  begins : s.resolver.smoke = false → u.resolver.smoke = true → u.grace = none ∧
    ∀ n, if (s.fan n).state = .restartHold then s.Readied u n (s.fan n) else u.fan n = s.fan n
  /-- R90: smoke service ends -/
  ends : s.resolver.smoke = true → u.resolver.smoke = false → u.fans = s.fans ∧ u.line = s.line ∧
    (s.pathProven = false → s.AnyTurning → u.grace = some 10) ∧
    (s.pathProven = true ∨ ¬s.AnyTurning → u.grace = s.grace)
  stays : u.resolver.smoke = s.resolver.smoke → u.fans = s.fans ∧ u.line = s.line ∧ u.grace = s.grace

/-- R87, R91: from s to u the fan n, with the record q, has entered TRIPPED with a detail, handed on as R91 says; its entry is
raised with DEVICE_FAULT, and stands where it stood before or the list has room. -/
structure State.Tripped (s u : State) (n : FanId) (q : Fan) (detail : FanDetail) : Prop where
  fan : u.fan n = q.tripped
  due : q.state ∈ [.ready, .starting, .running] ∨ (q.state = .restartHold ∧ s.resolver.smoke = true) → u.alloc.due = true
  notice : u.noticedByAll .deviceFault
  stop : q.config.fitted = true → (u.link (.drive n)).lost = false → .stop n ∈ u.line.queue
  entry : s.alarms.has (.fanFault n) = true ∨ s.alarms.entries.length < 32 →
    ∃ e ∈ u.alarms.entries, e.key = .fanFault n ∧ e.state = .active ∧ e.detail = some detail
  alarms : s.Faults u (.fanFault n) (some detail)

/-! ### Duty list (R92) -/

/-- R92: the duty list holds every fitted fan exactly once and no unfitted fan; R111: the run set names a fan at most
once. -/
structure State.DutySound (s : State) : Prop where
  once : s.duty.Nodup
  fitted : ∀ n, n ∈ s.duty ↔ (s.fan n).config.fitted = true
  runSet : s.alloc.record.runSet.Nodup

/-! ### Field line (R146 to R151) -/

/-- R146 to R153: the poll list, the queue and the links. -/
structure State.LineSound (s : State) : Prop where
  polls : s.line.pollList = s.fittedDevices
  position : s.line.pollList ≠ [] → ∃ d, s.line.position = some d ∧ d ∈ s.line.pollList
  once : s.line.queue.Pairwise fun a b => a.device ≠ b.device
  queued : ∀ o ∈ s.line.queue, s.deviceFitted o.device = true ∧ (s.link o.device).lost = false
  row : s.line.row ≤ Config.commandsInRow
  links : ∀ d, (s.link d).misses ≤ Config.missLimit ∧ ((s.link d).lost = true ↔ (s.link d).misses = Config.missLimit)
  /-- R153: an exchange whose device has ceased to be fitted is disowned -/
  flight : ∀ x, s.line.inFlight = some x → x.disowned = false → s.deviceFitted x.device = true
  /-- R148: the line is idle only while the queue and the poll list are both empty -/
  idle : s.line.inFlight = none → s.line.queue = [] ∧ s.line.pollList = []

/-! ### Incident state (R36 to R42, R60) and the plans it rests on (R31, R38) -/

/-- R31, R36 to R42, R60. -/
structure State.IncidentSound (s : State) : Prop where
  /-- R31: every map entry names a SMOKE-kind plan -/
  mapped : ∀ z k, s.plan.map[(z : ZoneId).val] = some k → (s.bank k).kind = .smoke
  /-- R37: the saved plan equals the base plan -/
  saved : s.plan.saved = s.plan.base
  /-- R38: the saved plan is of NORMAL kind -/
  normal : (s.bank s.plan.saved).kind = .normal
  /-- R38, R39: quiet running -/
  quiet : s.plan.level = .none → s.plan.current = s.plan.saved ∧ s.plan.fireSet = 0 ∧ s.plan.cause = none
  /-- R39: FIRE only while the fire set is not empty or the purge timer runs -/
  fire : s.plan.level = .fire → (s.plan.fireSet ≠ 0 ∨ s.plan.purge.isSome = true) ∧ s.plan.cause.isSome = true
  /-- R46: the purge timer runs only at FIRE, with an empty fire set -/
  purge : s.plan.purge.isSome = true → s.plan.level = .fire ∧ s.plan.fireSet = 0
  /-- R42: the cause record's zone is a member of a fire set that is not empty -/
  cause : s.plan.fireSet ≠ 0 → ∃ c, s.plan.cause = some c ∧ s.burning c.zone = true
  /-- R60: MANUAL only while IN_CONTROL -/
  manual : s.plan.level = .manual → s.resolver.control = .inControl
  /-- R60: no layer and no block while NOT_IN_CONTROL -/
  control : s.resolver.control = .notInControl →
    (∀ z : ZoneId, s.resolver.overrides[z.val] = none) ∧ ∀ n : FanId, s.resolver.blocks[n.val] = false
  /-- R40: a zone in the fire set is fitted -/
  fitted : ∀ z, s.burning z = true → (s.zone z).config.fitted = true

/-! ### Configuration store (R174) -/

/-- R174: the stored groups agree with the blocks' own copies and with their check words. -/
structure State.StoreSound (s : State) : Prop where
  zones : s.store.zones = sealWith zonesImage (s.zones.map Zone.config)
  heads : s.store.heads = sealWith headsImage (s.heads.map Head.config)
  fans : s.store.fans = sealWith fansImage (s.fans.map Fan.config)
  plans : s.store.plans = sealWith plansImage ⟨s.plan.banks, s.plan.map⟩
  budgets : s.store.budgets = sealWith budgetsImage ⟨s.alloc.normal, s.alloc.standby⟩
  base : s.store.base = sealWith baseImage ⟨s.plan.base, s.resolver.closures⟩

/-! ### Roles (R57, R59) -/

/-- R57, R59: what the resolver holds is what the layers and the current plan give. -/
structure State.RolesSound (s : State) : Prop where
  /-- R56, R57: the highest layer present of OVERRIDE, PLAN, BUILDING and DEFAULT, with its role -/
  roles : ∀ z : ZoneId, (s.resolver.roles[z.val], s.resolver.layers[z.val]) =
    match s.resolver.overrides[z.val], (s.bank s.plan.current).roles[z.val], s.resolver.closures[z.val] with
    | some r, _, _ => (r, Layer.override)
    | none, some r, _ => (r, Layer.plan)
    | none, none, true => (Role.isolate, Layer.building)
    | none, none, false => (Role.gas, Layer.default)
  /-- R59: smoke service is in force while a fitted zone has the effective role EXTRACT -/
  smoke : s.resolver.smoke = true ↔ ∃ z : ZoneId, (s.zone z).config.fitted = true ∧ s.resolver.roles[z.val] = .extract
  /-- R59: the required class -/
  cls : s.resolver.cls = if (s.bank s.plan.current).kind = .smoke then (s.bank s.plan.current).cls else 1

/-! ### Fire entries (R40) -/

/-- R40: every zone in the fire set has a FIRE entry, and that entry is ACTIVE; an ACTIVE FIRE entry stands for a zone of
the set. -/
def State.FiresListed (s : State) : Prop := ∀ z, s.alarms.hasActive (.fire z) = s.burning z

/-! ### Zone evaluator (R9, R19, R20, R24) -/

/-- R5: the figures of a zone's record that bound its demand. -/
def ZoneConfig.percents (c : ZoneConfig) : Prop := c.floor ≤ 100 ∧ c.fallback ≤ 100

/-- R19, R20, R24: the target and the demand of a zone. -/
structure Zone.Sound (q : Zone) : Prop where
  config : q.config.percents
  ramps : q.co.ramp ≤ 100 ∧ q.no2.ramp ≤ 100
  boost : q.boostPercent ≤ 100
  floor : q.config.floor ≤ q.target
  target : q.target ≤ q.demand
  demand : q.demand ≤ 100
  /-- R20: the fall timer runs exactly while the target is below the demand -/
  fall : q.fall.isSome = true ↔ q.target < q.demand

/-- R9: a last reading is present while the head is VALID and carries that gas, and absent in every other case. -/
def Head.Sound (h : Head) : Prop := ∀ g, (h.reading g).isSome = (h.state == .valid && h.config.carries.has g)

/-- R5, R9, R16 to R20: the rows of the zone evaluator, with the stored records they are loaded from. -/
structure State.ZonesSound (s : State) : Prop where
  zones : ∀ z, (s.zone z).Sound
  /-- R16 to R18 -/
  gas : ∀ z g, s.GasSound z g ((s.zone z).gas g)
  /-- R19 -/
  targets : ∀ z, (s.zone z).target = (s.zone z).greatestTerm
  stored : ∀ z : ZoneId, s.store.zones.contents[z.val].percents
  heads : ∀ h, (s.head h).Sound

/-! ### Fan sequencer (R74) -/

/-- R74: the states with a running timer. -/
def FanState.timed : FanState → Bool
  | .starting | .stopping | .restartHold | .enrolHold => true
  | .absent | .enrolling | .ready | .running | .tripped | .lost => false

/-- R74: the states reached only through a completed enrolment. -/
def FanState.enrolled : FanState → Bool
  | .enrolHold | .ready | .restartHold | .starting | .running | .stopping | .tripped => true
  | .absent | .enrolling | .lost => false

/-- R74, R76: the laws of one fan record. -/
structure Fan.Sound (f : Fan) : Prop where
  absent : f.state = .absent ↔ f.config.fitted = false
  timer : f.timer.isSome = f.state.timed
  resolved : f.state.enrolled = true →
    f.ability.isSome = true ∧ f.mode.isSome = true ∧ f.cls.isSome = true ∧ f.minSpeed.isSome = true

/-- R74: every fan record is sound. -/
def State.FansSound (s : State) : Prop := ∀ n, (s.fan n).Sound

/-! ### Flow allocator (R123) -/

/-- R123: the power of the record does not exceed the budget in force unless the run set is a single fan, and then the
record is flagged OVER_BUDGET. -/
def State.PowerSound (s : State) : Prop :=
  s.alloc.record.power ≤ s.alloc.budget ∨
    (s.alloc.record.flags.overBudget = true ∧ s.alloc.record.runSet.length = 1)

/-! ### Damper supervisor (R97 to R109) -/

/-- R108: the extract damper of a zone proves the path. -/
def State.ProvesPath (s : State) (z : ZoneId) : Prop :=
  (s.zone z).config.fitted = true ∧ 0 < (s.extractOf z).command ∧ (s.extractOf z).state = .settled ∧
    20 ≤ (s.extractOf z).feedback.getD 0

/-- R108: the path is proven while an extract damper proves it. -/
def State.PathSound (s : State) : Prop := s.pathProven = true ↔ ∃ z, s.ProvesPath z

/-- R100, R102, R108, R109: timers, the path and the indications. -/
structure State.DampersSound (s : State) : Prop where
  extract : ∀ z, (s.extractOf z).timer.isSome = ((s.zone z).config.fitted && (s.extractOf z).state == .moving)
  makeUp : ∀ z, (s.makeUpOf z).timer.isSome =
    ((s.zone z).config.fitted && ((s.makeUpOf z).state == .opening || (s.makeUpOf z).state == .closing))
  path : s.PathSound
  /-- R109: the first line of the table that applies -/
  indications : ∀ z : ZoneId,
    let d := s.extractOf z
    let m := s.makeUpOf z
    s.indications[z.val] =
      if s.resolver.roles[z.val] = .gas then .normal
      else if d.state = .fault ∨ d.state = .lost ∨ m.state = .fault ∨ m.state = .lost then .fault
      else if d.state = .settled ∧
        ((m.command = .open_ ∧ m.state = .open_) ∨ (m.command = .closed ∧ m.state = .closed)) then .activeProven
      else .activePending

/-! ### Station ports (R159, R164) -/

/-- R159, R164: the silence timer runs exactly while the link is UP, and the line is as R164 forms it. -/
structure PortState.Sound (q : PortState) : Prop where
  silence : q.silence.isSome = true ↔ q.link = .up
  line : q.line = q.lineWanted

def State.PortsSound (s : State) : Prop := ∀ p, (s.port p).Sound

end Sys2Proof.Machine
end

