-- ==== Sys2Proof/Certificates/Slice0/Obligations.lean ====
section
/-! DEFINITION. The statements. A request's frame is said through `State.answered` and `Lasting` (Safety.lean): the state
that no allocation pass changes is that of the state that has taken the frame (`frameTaken`: the decoder, the silence
timer and the link, R156, R159, R160), with the response and the fields a statement names. `dataNat data i` is the value of the data word at place i (R172). -/

open Sys2Proof Sys2Proof.Machine

/-! ### The queue of commands -/

/-- A step runs the command at the front of the queue on the rest; an empty queue idles (log 12). -/
def Obligations.StepRunsTheFrontCommand : Prop :=
  (∀ (c : Instr) (rest : List Instr) (s : State),
    step { s with pending := c :: rest } = exec c { s with pending := rest }) ∧
  ∀ s : State, s.pending = [] → step s = .next s

/-! ### Frames (R156, R172, R173) -/

/-- R172: the bytes of every well-formed request read back as the request, on the port they were sent on. -/
def Obligations.RequestFramesReadBack : Prop :=
  ∀ (i : Instr) (p : Port) (bs : List Byte), WellFormed i = true → requestBytes i = some (p, bs) → requestCommand p bs = i

/-- R172, R173: the bytes of every well-formed field reply read back as the reply; on either line a frame whose check word
differs is discarded. -/
def Obligations.FieldRepliesReadBackAndWrongChecksDiscard : Prop :=
  (∀ (i : Instr) (bs : List Byte), WellFormed i = true → replyBytes i = some bs → replyCommand bs = i) ∧
  (∀ (p : Port) (code object index : Byte) (data : List Word) (w : Word), data.length ≤ 32 →
    w ≠ crc16 (requestSync :: code :: object :: index :: BitVec.ofNat 8 data.length :: bytesOf data) →
    requestCommand p (requestSync :: code :: object :: index :: BitVec.ofNat 8 data.length :: (bytesOf data ++ wordBytes w))
      = .requestFrameDiscarded p .badCheck) ∧
  ∀ (address kind : Byte) (fields : List Byte) (w : Word), fields.length ≤ 255 →
    w ≠ crc16 (address :: kind :: BitVec.ofNat 8 fields.length :: fields) →
    replyCommand (address :: kind :: BitVec.ofNat 8 fields.length :: (fields ++ wordBytes w)) = .fieldFrameDiscarded .badCheck

/-! ### Station ports (R155 to R160) -/

/-- R155, R157, R159, R160: every valid request, of any code, gets one response with its code and index echoed, without
data if it is refused, and leaves its link UP with the silence timer at its full limit. R156: the decoder then discards
until the line is quiet; it waits after the reset of an accepted FACTORY CLEAR, which leaves the line quiet. -/
def Obligations.EveryValidRequestIsAnswered : Prop :=
  ∀ (p : Port) (code object index : Byte) (data : List Word) (s : State),
    (s.port p).decoder = .waiting → data.length ≤ 32 →
    ∃ t r, exec (requestOf p code object index data) s = .next t ∧ (t.port p).response = some r ∧ r.code = code ∧
      r.index = index ∧ (r.status ≠ .done → r.status ≠ .doneClamped → r.words = []) ∧ (t.port p).link = .up ∧
      (t.port p).silence = some (Config.silenceLimit p) ∧
      (t.port p).decoder = if code = 0x1C ∧ r.status = .done then .waiting else .discarding

/-- R156: a frame that is not valid changes nothing but the decoder, and the quiet line makes it wait for a new frame. That a
request while the decoder does not wait is such a frame, and that a frame that stops short leaves the decoder assembling
until LINE_QUIET, are the model's choices (log 16). -/
def Obligations.DiscardedFramesChangeOnlyTheDecoder : Prop :=
  (∀ (p : Port) (code object index : Byte) (data : List Word) (s : State),
    (s.port p).decoder ≠ .waiting → data.length ≤ 32 →
    exec (requestOf p code object index data) s = .next (s.modPort p fun q => { q with decoder := .discarding })) ∧
  (∀ (p : Port) (cause : FrameFault) (s : State), exec (.requestFrameDiscarded p cause) s =
    .next (s.modPort p fun q =>
      { q with decoder := if cause = .incomplete ∧ q.decoder = .waiting then .assembling else .discarding })) ∧
  ∀ (p : Port) (s : State), exec (.lineQuiet p) s = .next (s.modPort p fun q => { q with decoder := .waiting })

/-- R158: an unknown code or READ object is refused with UNKNOWN, then a port that is not listed with REFUSED_PORT, then a
wrong count with REFUSED_VALUE; nothing changes but what the taking of the frame does. -/
def Obligations.GeneralChecksRefuseInOrder : Prop :=
  ∀ (p : Port) (code object index : Byte) (data : List Word) (s : State),
    (s.port p).decoder = .waiting → data.length ≤ 32 →
    let refusal := fun st => Host.Outcome.next (φ := Fault) (ρ := Refusal)
      ((s.frameTaken p).modPort p fun q => { q with response := some ⟨st, code, index, []⟩ })
    (namesRequest code object = false → exec (requestOf p code object index data) s = refusal .unknown) ∧
    (∀ row ∈ catalogue, row.code = code → row.ports.contains p = false →
      exec (requestOf p code object index data) s = refusal .refusedPort) ∧
    ∀ row ∈ catalogue, row.code = code → namesRequest code object = true → row.ports.contains p = true →
      data.length ≠ row.words → exec (requestOf p code object index data) s = refusal .refusedValue

/-- R139, R140, R166: PING sets the port's cursor to 0 and returns its ten fields; READ ALARM LIST returns the count, the
cursor and at most six entries from it, and moves the cursor past them. Neither changes anything else. -/
def Obligations.PingAndAlarmPages : Prop :=
  ∀ (p : Port) (index : Byte) (s : State), (s.port p).decoder = .waiting →
    let u := s.frameTaken p
    let page := (u.alarms.entries.drop (u.alarms.cursors.get p)).take 6
    exec (.ping p index []) s = .next (State.modPort
      { u with alarms := { u.alarms with cursors := u.alarms.cursors.upd p fun _ => 0 } } p fun q =>
        { q with response := some ⟨.done, 0x01, index, longNum u.partTime ++
          [levelWord u.plan.level, num u.plan.current.val, num u.plan.saved.val, u.plan.fireSet,
           controlWord u.resolver.control, supplyWord u.alloc.supply, linkWord u.ports.building.link,
           linkWord u.ports.alarm.link, linkWord u.ports.override.link, num (u.port p).pendingCount]⟩ }) ∧
    exec (.readAlarmList p index []) s = .next (State.modPort
      { u with alarms := { u.alarms with cursors := u.alarms.cursors.upd p (· + page.length) } } p fun q =>
        { q with response := some ⟨.done, 0x07, index,
          [num u.alarms.entries.length, num (u.alarms.cursors.get p)] ++ page.flatMap entryWords⟩ })

/-- R167: the table of objects; READ returns the records in index order, each of its object's size, and changes nothing; a
count of 0, an index out of range, a run past the last record or more than 96 words is refused with REFUSED_VALUE. -/
def Obligations.ReadReturnsWholeRecords : Prop :=
  ((List.range 256).filterMap fun c => (readObject (BitVec.ofNat 8 c)).map fun o => (c, o.first, o.last, o.words)) =
    [(1, 1, 16, 15), (2, 1, 16, 20), (3, 1, 48, 7), (4, 1, 8, 9), (5, 1, 8, 18), (6, 1, 16, 7), (7, 1, 16, 7),
     (8, 0, 7, 19), (9, 0, 0, 16), (10, 0, 0, 89), (11, 0, 0, 27), (12, 0, 0, 32), (13, 0, 0, 9)] ∧
  ∀ (p : Port) (object index : Byte) (w : Word) (o : ReadObject) (s : State),
    (s.port p).decoder = .waiting → readObject object = some o →
    let u := s.frameTaken p
    let fits := w ≠ 0 ∧ o.first ≤ index.toNat ∧ index.toNat ≤ o.last ∧ index.toNat + w.toNat ≤ o.last + 1 ∧
      w.toNat * o.words ≤ 96
    let records := (List.range w.toNat).map fun k => o.record u (index.toNat + k)
    (fits → exec (.read p object index [w]) s = .next (u.modPort p fun q =>
        { q with response := some ⟨.done, 0x02, index, records.flatten⟩ }) ∧
      (s.DutySound → ∀ r ∈ records, r.length = o.words)) ∧
    (¬fits → exec (.read p object index [w]) s = .next (u.modPort p fun q =>
        { q with response := some ⟨.refusedValue, 0x02, index, []⟩ }))

/-! ### Notices and the attention line (R161 to R164) -/

/-- R162: READ NOTICES and SET NOTICE MASK, from every port at every level; nothing else changes. -/
def Obligations.NoticesAreReadAndMasked : Prop :=
  ∀ (p : Port) (index : Byte) (set : Word) (s : State), (s.port p).decoder = .waiting →
    exec (.readNotices p index []) s = .next ((s.frameTaken p).modPort p fun q =>
      { q with seen := q.seen ||| q.pending, response := some ⟨.done, 0x03, index, [q.pending]⟩ }) ∧
    exec (.setNoticeMask p index [set]) s = .next ((s.frameTaken p).modPort p fun q =>
      { q with masked := set, line := q.pending &&& ~~~set != 0 && !q.holdOff,
               response := some ⟨.done, 0x05, index, []⟩ })

/-- R161: a raise of a notice on all three ports, or on the two ports other than the writer of a configuration write, sets its
pending mark and clears its seen mark there, and every other mark stays. R163, R164: ACK NOTICES clears the notices of its set that are pending and seen; END SERVICE holds the line off; the
expiry of the hold-off forms the line again, and an expiry with no hold-off running changes nothing (log 10). -/
def Obligations.AcknowledgementAndHoldOff : Prop :=
  (∀ (n : Notice) (s : State) (w : Option Port),
    let t := match w with
      | none => s.raiseAll n
      | some writer => s.raiseOthers n writer
    { t with ports := s.ports } = s ∧
      ∀ p, if w = some p then t.port p = s.port p else
        t.noticed n p ∧ (t.port p).line = (t.port p).lineWanted ∧ (t.port p).lasting = (s.port p).lasting ∧
          ∀ i, i ≠ n.place → (t.port p).pending.getLsbD i = (s.port p).pending.getLsbD i ∧
            (t.port p).seen.getLsbD i = (s.port p).seen.getLsbD i) ∧
  ∀ (p : Port) (index : Byte) (set : Word) (s : State),
    ((s.port p).decoder = .waiting →
      ∃ t, exec (.ackNotices p index [set]) s = .next t ∧ { t with ports := (s.frameTaken p).ports } = s.frameTaken p ∧
        (∀ q, q ≠ p → t.port q = s.port q) ∧
        (∀ i, (t.port p).pending.getLsbD i =
            ((s.port p).pending.getLsbD i && !(set.getLsbD i && (s.port p).seen.getLsbD i)) ∧
          (t.port p).seen.getLsbD i = ((s.port p).seen.getLsbD i && !(set.getLsbD i && (s.port p).pending.getLsbD i))) ∧
        (t.port p).line = (t.port p).lineWanted ∧
        (t.port p).lasting = { ((s.frameTaken p).port p).lasting with
          response := some ⟨.done, 0x04, index, [(t.port p).pending]⟩ }) ∧
    ((s.port p).decoder = .waiting → exec (.endService p index []) s = .next ((s.frameTaken p).modPort p fun q =>
      { q with holdOff := true, line := false, response := some ⟨.done, 0x06, index, []⟩ })) ∧
    ((s.port p).holdOff = true → exec (.holdOffExpiry p) s = .next (s.modPort p fun q =>
      { q with holdOff := false, line := q.pending &&& ~~~q.masked != 0 })) ∧
    ((s.port p).holdOff = false → exec (.holdOffExpiry p) s = .next s)

/-! ### Alarm list (R133 to R140) -/

/-- R138, R140: the checks of ACK ALARM in order; an ACTIVE entry stays, acknowledged by the port, and a CLEARED one leaves
with the cursors above it going down by 1. -/
def Obligations.AckAlarmSettlesOneEntry : Prop :=
  ∀ (p : Port) (index : Byte) (hi lo : Word) (s : State), (s.port p).decoder = .waiting → s.alarms.Sound →
    let u := s.frameTaken p
    let answer := fun st a => Host.Outcome.next (φ := Fault) (ρ := Refusal)
      (State.modPort { u with alarms := a } p fun q => { q with response := some ⟨st, 0x08, index, []⟩ })
    let named := fun (e : AlarmEntry) => e.sequence = hi.toNat * 65536 + lo.toNat
    ((∀ e ∈ u.alarms.entries, ¬named e) → exec (.ackAlarm p index [hi, lo]) s = answer .refusedValue u.alarms) ∧
    ∀ before e after, u.alarms.entries = before ++ e :: after → named e →
      exec (.ackAlarm p index [hi, lo]) s =
        if e.key.isFire = true ∧ p = .building then answer .refusedPort u.alarms
        else if e.ackBy.isSome then answer .done u.alarms
        else if e.state = .active then
          answer .done { u.alarms with entries := before ++ { e with ackBy := some p } :: after }
        else answer .done { u.alarms with
          entries := before ++ after, cursors := u.alarms.cursors.map fun c => if before.length < c then c - 1 else c }

/-- R133, R134, R138, R140: at most 32 entries, no two with one kind and source or one sequence, no entry that is CLEARED
and acknowledged, a free counter and cursors within the list: every step keeps it. R134 to R138, R140: what a raise and a clear
do in such a list, to the entry of their kind and source, to every other entry, to the counter, the cursors and the notices. -/
def Obligations.AlarmListStaysSound : Prop :=
  (∀ s t : State, s.alarms.Sound → step s = .next t → t.alarms.Sound) ∧
  ∀ (s : State) (k : AlarmKey) (detail : Option FanDetail), s.alarms.Sound →
    let a := s.alarms
    let u := s.raiseAlarm k detail
    let v := s.clearAlarm k
    let entered : AlarmEntry := ⟨a.counter, k, detail, .active, s.partTime, none, none, 1⟩
    let next := fun n : Nat => if n < 4294967295 then n + 1 else 1
    let cursorsAfter := fun p : Nat => a.cursors.map fun c => if p < c then c - 1 else c
    ({ u with alarms := a, ports := s.ports } = s ∧
      (∀ before e after, a.entries = before ++ e :: after → e.key = k →
        u.alarms.entries = before ++ { e with
          sequence := a.counter, detail := detail, state := .active, raised := s.partTime, cleared := none, ackBy := none,
          count := if e.count < 255 then e.count + 1 else 255 } :: after ∧
        u.alarms.cursors = a.cursors ∧ u.ports = s.ports) ∧
      ((∀ e ∈ a.entries, e.key ≠ k) → a.entries.length < 32 →
        u.alarms.entries = a.entries ++ [entered] ∧ u.alarms.cursors = a.cursors ∧ u.ports = s.ports) ∧
      ((∀ e ∈ a.entries, e.key ≠ k) → a.entries.length = 32 → u.noticedByAll .listFull ∧
        u.ports = (s.raiseAll .listFull).ports ∧ (k.isFire = false → u.alarms = a) ∧
        (k.isFire = true → ∃ before e after, a.entries = before ++ e :: after ∧ e.key.isFire = false ∧
          (∀ x ∈ before, x.key.isFire = true) ∧ u.alarms.entries = before ++ after ++ [entered] ∧
          u.alarms.cursors = cursorsAfter before.length)) ∧
      (a.has k = true ∨ a.entries.length < 32 ∨ k.isFire = true → ∃ i ≤ 32, u.alarms.counter = next^[i + 1] a.counter ∧
        (∀ e ∈ u.alarms.entries, e.sequence ≠ u.alarms.counter) ∧
        ∀ j < i, ∃ e ∈ u.alarms.entries, e.sequence = next^[j + 1] a.counter)) ∧
    { v with alarms := a } = s ∧ v.alarms.counter = a.counter ∧
    (∀ before e after, a.entries = before ++ e :: after → e.key = k → e.state = .active →
      if e.ackBy.isSome then
        v.alarms.entries = before ++ after ∧ v.alarms.cursors = cursorsAfter before.length
      else v.alarms.cursors = a.cursors ∧
        v.alarms.entries = before ++ { e with state := .cleared, cleared := some s.partTime } :: after) ∧
    (a.hasActive k = false → v.alarms = a)

/-! ### Refusals (R67, R158, R170, R171) -/

/-- R67, R69: at FIRE and MANUAL the building port's writes are refused with PROTECTED and PROTECTED_WRITE is raised on all
three ports; nothing else changes but what the taking of the frame does. -/
def Obligations.BuildingWritesAreProtected : Prop :=
  ∀ (index : Byte) (data : List Word) (s : State), (s.port .building).decoder = .waiting → s.plan.level ≠ .none →
    let guarded := fun code => Host.Outcome.next (φ := Fault) (ρ := Refusal)
      (((s.frameTaken .building).raiseAll .protectedWrite).modPort .building fun q =>
        { q with response := some ⟨.guarded, code, index, []⟩ })
    (∀ z, zoneOf index = some z → data.length = 14 → ¬(s.role z = .gas ∧ floorOnly (s.zone z).config data = true) →
      exec (.writeZone .building index data) s = guarded 0x10) ∧
    (∀ h, headOf index = some h → data.length = 3 → exec (.writeHead .building index data) s = guarded 0x11) ∧
    (∀ n, fanOf index = some n → data.length = 8 → exec (.writeFan .building index data) s = guarded 0x12) ∧
    (data.length = 1 → exec (.writeNormalBudget .building index data) s = guarded 0x13) ∧
    (∀ k, planOf index = some k → (s.bank k).kind = .normal → data.length = 18 →
      exec (.writePlan .building index data) s = guarded 0x14) ∧
    (∀ z, zoneOf index = some z → data.length = 1 → exec (.setZoneClosure .building index data) s = guarded 0x16) ∧
    (∀ z, zoneOf index = some z → (s.zone z).config.fitted = true → s.role z ≠ .gas → data.length = 2 →
      exec (.setBoost .building index data) s = guarded 0x17) ∧
    (∀ n, fanOf index = some n → data.length = 1 → exec (.setFanService .building index data) s = guarded 0x18) ∧
    (∀ n, fanOf index = some n → data = [] → exec (.reenrolFan .building index data) s = guarded 0x19) ∧
    (∀ n, fanOf index = some n → data = [] → exec (.resetFan .building index data) s = guarded 0x1A) ∧
    (data = [] → exec (.clearCounts .building index data) s = guarded 0x1B)

/-- R158: an index that names no zone, head, fan or plan is refused with REFUSED_VALUE before any check of level, state or
protection. -/
def Obligations.IndexThatNamesNothingIsRefused : Prop :=
  ∀ (index : Byte) (data : List Word) (s : State), (∀ p, (s.port p).decoder = .waiting) →
    let refused := fun p code => Host.Outcome.next (φ := Fault) (ρ := Refusal)
      ((s.frameTaken p).modPort p fun q => { q with response := some ⟨.refusedValue, code, index, []⟩ })
    (index = 0 ∨ 16 < index.toNat →
      (data.length = 14 → exec (.writeZone .building index data) s = refused .building 0x10) ∧
      (data.length = 1 → exec (.setZoneClosure .building index data) s = refused .building 0x16) ∧
      (data = [] → exec (.fireAlarm .alarm index data) s = refused .alarm 0x20) ∧
      (data.length = 1 → exec (.setZoneOverride .override index data) s = refused .override 0x32)) ∧
    (16 < index.toNat → data.length = 2 → exec (.setBoost .building index data) s = refused .building 0x17) ∧
    (index = 0 ∨ 48 < index.toNat → data.length = 3 → exec (.writeHead .building index data) s = refused .building 0x11) ∧
    (index = 0 ∨ 8 < index.toNat →
      (data.length = 8 → exec (.writeFan .building index data) s = refused .building 0x12) ∧
      (data.length = 1 → exec (.setFanService .building index data) s = refused .building 0x18) ∧
      (data = [] → exec (.reenrolFan .building index data) s = refused .building 0x19) ∧
      (data = [] → exec (.resetFan .building index data) s = refused .building 0x1A) ∧
      (data = [] → exec (.resetFan .override index data) s = refused .override 0x1A) ∧
      (data.length = 1 → exec (.setFanBlock .override index data) s = refused .override 0x33)) ∧
    (7 < index.toNat →
      (data.length = 18 → exec (.writePlan .building index data) s = refused .building 0x14) ∧
      (data.length = 18 → exec (.writePlan .alarm index data) s = refused .alarm 0x14) ∧
      (data = [] → exec (.selectBasePlan .building index data) s = refused .building 0x15) ∧
      (data.length = 1 → exec (.setPlanKind .alarm index data) s = refused .alarm 0x25) ∧
      (data = [] → exec (.selectPlan .override index data) s = refused .override 0x34))

/-- R6, R10, R22, R32 to R35, R40, R50 to R52, R63, R64, R66, R75, R88, R94, R114, R177: REFUSED_STATE without override
control, REFUSED_LEVEL where a rule names the level, REFUSED_PORT for a SMOKE bank from the building port, REFUSED_VALUE for
operands a rule does not allow and REFUSED_STATE where the state forbids the change; nothing changes but what the taking
of the frame does. -/
def Obligations.ValueStateAndLevelRefusals : Prop :=
  ∀ (index : Byte) (data : List Word) (s : State), (∀ p, (s.port p).decoder = .waiting) →
    let refused := fun p code st => Host.Outcome.next (φ := Fault) (ρ := Refusal)
      ((s.frameTaken p).modPort p fun q => { q with response := some ⟨st, code, index, []⟩ })
    let w := dataNat data
    let ppm := fun i => clampTo 0 1000 (w i)
    let no2 := fun i => clampTo 0 300 (w i)
    (s.resolver.control = .notInControl →
      (∀ z, zoneOf index = some z → data.length = 1 →
        exec (.setZoneOverride .override index data) s = refused .override 0x32 .refusedState) ∧
      (∀ n, fanOf index = some n → data.length = 1 →
        exec (.setFanBlock .override index data) s = refused .override 0x33 .refusedState) ∧
      (∀ k, planOf index = some k → data = [] →
        exec (.selectPlan .override index data) s = refused .override 0x34 .refusedState) ∧
      (data = [] → exec (.returnToAutomatic .override index data) s = refused .override 0x35 .refusedState) ∧
      (∀ n, fanOf index = some n → data = [] →
        exec (.resetFan .override index data) s = refused .override 0x1A .refusedState)) ∧
    (s.resolver.control = .inControl → s.plan.level ≠ .manual → data = [] →
      exec (.returnToAutomatic .override index data) s = refused .override 0x35 .refusedLevel) ∧
    (s.plan.level ≠ .none →
      (∀ k, planOf index = some k → data.length = 18 →
        exec (.writePlan .alarm index data) s = refused .alarm 0x14 .refusedLevel) ∧
      (data.length = 16 → exec (.writePlanMap .alarm index data) s = refused .alarm 0x23 .refusedLevel) ∧
      (∀ k, planOf index = some k → data.length = 1 →
        exec (.setPlanKind .alarm index data) s = refused .alarm 0x25 .refusedLevel) ∧
      (data = [] → exec (.factoryClear .building index data) s = refused .building 0x1C .refusedLevel)) ∧
    (∀ k, planOf index = some k → (s.bank k).kind = .smoke →
      (data.length = 18 → exec (.writePlan .building index data) s = refused .building 0x14 .refusedPort) ∧
      (data = [] → exec (.selectBasePlan .building index data) s = refused .building 0x15 .refusedValue)) ∧
    (∀ z, zoneOf index = some z → (s.zone z).config.fitted = false →
      (data = [] → exec (.fireAlarm .alarm index data) s = refused .alarm 0x20 .refusedValue) ∧
      (data.length = 2 → exec (.setBoost .building index data) s = refused .building 0x17 .refusedValue)) ∧
    (data.length = 1 → 1 < w 0 → exec (.supplyState .alarm index data) s = refused .alarm 0x22 .refusedValue) ∧
    (s.resolver.control = .inControl → data.length = 1 →
      (∀ z, zoneOf index = some z → 4 < w 0 →
        exec (.setZoneOverride .override index data) s = refused .override 0x32 .refusedValue) ∧
      ∀ n, fanOf index = some n → 1 < w 0 →
        exec (.setFanBlock .override index data) s = refused .override 0x33 .refusedValue) ∧
    (s.plan.level = .none →
      (∀ z, zoneOf index = some z → data.length = 14 →
        (1 < w 0 ∨ ¬(ppm 3 < ppm 4 ∧ ppm 4 ≤ ppm 5) ∨ ¬(no2 6 < no2 7 ∧ no2 7 ≤ no2 8)) →
        exec (.writeZone .building index data) s = refused .building 0x10 .refusedValue) ∧
      (∀ h, headOf index = some h → data.length = 3 → 1 < w 0 ∨ w 1 = 0 ∨ 16 < w 1 ∨ 2 < w 2 →
        exec (.writeHead .building index data) s = refused .building 0x11 .refusedValue) ∧
      (∀ n, fanOf index = some n → data.length = 8 →
        (1 < w 0 → exec (.writeFan .building index data) s = refused .building 0x12 .refusedValue) ∧
        (w 0 = 0 → (s.fan n).config.fitted = true → (s.fan n).state ∈ [.starting, .running, .stopping] →
          exec (.writeFan .building index data) s = refused .building 0x12 .refusedState)) ∧
      (∀ z, zoneOf index = some z → data.length = 1 → 1 < w 0 →
        exec (.setZoneClosure .building index data) s = refused .building 0x16 .refusedValue) ∧
      (∀ n, fanOf index = some n → data.length = 1 → 1 < w 0 →
        exec (.setFanService .building index data) s = refused .building 0x18 .refusedValue) ∧
      (∀ k p, planOf index = some k → data.length = 18 → p = .alarm ∨ (p = .building ∧ (s.bank k).kind = .normal) →
        (∃ z : ZoneId, 4 < w z.val ∨ ((s.bank k).kind = .normal ∧ w z.val ≠ 1 ∧ w z.val ≠ 4)) →
        exec (.writePlan p index data) s = refused p 0x14 .refusedValue) ∧
      (data.length = 16 →
        (∃ z : ZoneId, (7 < w z.val ∧ w z.val ≠ 0xFFFF) ∨ ∃ k : PlanId, w z.val = k.val ∧ (s.bank k).kind = .normal) →
        exec (.writePlanMap .alarm index data) s = refused .alarm 0x23 .refusedValue) ∧
      ∀ n, planOf index = some n → data.length = 1 →
        let sealed := ∀ z : ZoneId, (s.bank n).roles[z.val] = none ∨ (s.bank n).roles[z.val] = some .isolate
        (1 < w 0 ∨ (w 0 = 0 ∧ ¬sealed) → exec (.setPlanKind .alarm index data) s = refused .alarm 0x25 .refusedValue) ∧
        ((w 0 = 0 ∧ sealed ∧ ∃ z : ZoneId, s.plan.map[z.val] = some n) ∨ (w 0 = 1 ∧ (n = s.plan.current ∨ n = s.plan.saved)) →
          exec (.setPlanKind .alarm index data) s = refused .alarm 0x25 .refusedState))

/-! ### Configuration writes (R5 to R10, R32 to R35, R52, R66, R75, R94, R115, R177) -/

/-- R5 to R8, R16 to R20, R68: an accepted WRITE ZONE stores the clamped record in the zone's row and in group 1, raises
CONFIG_CHANGED on the alarm and override ports and recomputes the zone's target, which its demand follows; a zone that ceases
to be fitted loses its boost, counts and gas-high, with the entry cleared and GAS_CLEARED of a gas whose gas-high was
active. That the ramps of a zone follow the record while it is not fitted too is the model's choice (log 22). R107, R108,
R146, R153, on the state u before the passes: both dampers of a zone that becomes fitted start as at reset with SET 0 and
CLOSE queued (so too in a zone fitted again: DEDUCED, log 15); those of one that ceases to be fitted keep their records with
the timers stopped, the entries cleared, their commands dropped and an exchange in flight disowned; the poll list is rebuilt
and the path judged; what that judgement does to the fans, the grace timer and the allocator, ExtractReplyJudgesTheDamper
says of every state, and R58, R59, R86, R90 what the roles then judged do (`State.RolesHanded`). v is the state before the path
is judged. R176: the STORE_FAULT entry of group 1 is cleared. -/
def Obligations.WriteZoneStoresTheRecord : Prop :=
  ∀ (index : Byte) (data : List Word) (z : ZoneId) (f : Bool) (s : State),
    (s.port .building).decoder = .waiting → zoneOf index = some z → data.length = 14 →
    dataNat data 0 = (if f then 1 else 0) →
    let c : ZoneConfig :=
      ⟨f, clampTo 10 3000 (dataNat data 1), clampTo 10 3000 (dataNat data 2), clampTo 0 1000 (dataNat data 3),
       clampTo 0 1000 (dataNat data 4), clampTo 0 1000 (dataNat data 5), clampTo 0 300 (dataNat data 6),
       clampTo 0 300 (dataNat data 7), clampTo 0 300 (dataNat data 8), clampTo 0 100 (dataNat data 9),
       clampTo 0 100 (dataNat data 10), clampTo 1 15 (dataNat data 11), clampTo 0 30 (dataNat data 12),
       clampTo 15 240 (dataNat data 13)⟩
    c.coStart < c.coFull → c.coFull ≤ c.coAlarm → c.no2Start < c.no2Full → c.no2Full ≤ c.no2Alarm →
    (s.plan.level = .none ∨
      (s.role z = .gas ∧ { c with floor := (s.zone z).config.floor } = (s.zone z).config)) →
    let q := s.zone z
    let w := s.frameTaken .building
    let own := fun d : Device => d = .extract z ∨ d = .makeUp z
    let r : Response := ⟨if data = zoneConfigWords c then .done else .doneClamped, 0x10, index, []⟩
    ∃ u t : State, exec (.writeZone .building index data) s = .next t ∧ t = u.sends .building r ∧ u.alloc.due = true ∧
      t.lasting = { s.answered .building r with
        zones := t.zones, resolver := t.resolver,
        store := { s.store with zones := sealWith zonesImage (upd s.store.zones.contents z fun _ => c) } } ∧
      (∀ y, y ≠ z → t.zone y = s.zone y) ∧
      (¬(q.config.fitted = true ∧ f = false) → t.WorkedOut z { q with config := c }) ∧
      (q.config.fitted = true → f = false →
        t.WorkedOut z { q with
          config := c, boost := none, co := { q.co with count := 0, high := false },
          no2 := { q.no2 with count := 0, high := false } } ∧
        ∀ g, (q.gas g).high = true → t.noticedByAll .gasCleared ∧
          (s.alarms.Sound → t.alarms.hasActive (.gasHigh g z) = false)) ∧
      (∀ y, y ≠ z → u.extractOf y = s.extractOf y ∧ u.makeUpOf y = s.makeUpOf y) ∧
      (q.config.fitted = f → u.plant = s.plant ∧ u.fans = s.fans ∧
        u.line = s.line ∧ u.alloc = { s.alloc with due := true } ∧
        w.KeepsRest u [.storeFault 0] [.configChanged]) ∧
      (q.config.fitted ≠ f → u.PathSound ∧ u.rebuildPolls = u ∧ u.link (.extract z) = {} ∧ u.link (.makeUp z) = {} ∧
        ∃ v : State, v.reprove.RolesHanded u True ∧ v.fans = s.fans ∧ v.alloc = s.alloc ∧ v.resolver = s.resolver ∧
          { v.plant with extract := s.extract, makeUp := s.makeUp, indications := s.indications } = s.plant ∧
          v.extract = u.extract ∧ v.makeUp = u.makeUp ∧ (v.zone z).config = c ∧ (∀ y, y ≠ z → v.zone y = s.zone y) ∧
          (∀ d, ¬own d → v.link d = s.link d) ∧
          (v.line.queue.filter fun o => ¬own o.device) = (s.line.queue.filter fun o => ¬own o.device) ∧
          w.KeepsRest v [.storeFault 0, .gasHigh .co z, .gasHigh .no2 z, extractKey z, makeUpKey z]
            [.configChanged, .gasCleared]) ∧
      (q.config.fitted = false → f = true →
        u.extractOf z = { command := 0, feedback := none, fault := false, state := .moving, timer := some c.travelLimit } ∧
        u.makeUpOf z = { command := .closed, openSwitch := none, closedSwitch := none, fault := false, state := .closing,
                         timer := some 60 } ∧
        .set z 0 ∈ u.line.queue ∧ .close z ∈ u.line.queue ∧ u.line.inFlight = s.line.inFlight) ∧
      (q.config.fitted = true → f = false →
        u.extractOf z = { s.extractOf z with timer := none } ∧ u.makeUpOf z = { s.makeUpOf z with timer := none } ∧
        (s.alarms.Sound → u.alarms.hasActive (extractKey z) = false ∧ u.alarms.hasActive (makeUpKey z) = false) ∧
        (∀ o ∈ u.line.queue, o.device ≠ .extract z ∧ o.device ≠ .makeUp z) ∧
        u.line.inFlight = s.line.inFlight.map fun x =>
          if x.device = .extract z ∨ x.device = .makeUp z then { x with disowned := true } else x) ∧
      (s.alarms.Sound → t.alarms.hasActive (.storeFault 0) = false) ∧
      t.resolver = s.resolver.reworked t.resolver ∧
      (q.config.fitted = f → t.resolver = s.resolver) ∧ (q.config.fitted ≠ f → t.RolesSound) ∧
      t.noticed .configChanged .alarm ∧ t.noticed .configChanged .override

/-- R10, R16 to R20: an accepted WRITE HEAD stores the three fields; a write that changes one of them resets the head's state,
readings and link, clears its HEAD_FAULT entry, and recomputes the target of the zone served before and of the one served
after, whose demands follow; every other zone stays. R146, R153, on the state u before the passes: a changed fitted field has
the poll list rebuilt, and an exchange in flight with a head that ceases to be fitted is disowned. R176: the STORE_FAULT entry
of group 2 is cleared. That the gas values, ramps and fallback flags of a zone that is not fitted follow its heads too is the
model's choice (log 22). -/
def Obligations.WriteHeadStoresTheFields : Prop :=
  ∀ (index : Byte) (f zw gw : Word) (h : HeadId) (z : ZoneId) (g : Carried) (fit : Bool) (s : State),
    (s.port .building).decoder = .waiting → s.plan.level = .none → headOf index = some h →
    yesNoOf f = some fit → headZoneOf zw = some z → carriedOf gw = some g →
    let c : HeadConfig := ⟨fit, z, g⟩
    let r : Response := ⟨.done, 0x11, index, []⟩
    ∃ u t : State, exec (.writeHead .building index [f, zw, gw]) s = .next t ∧ t = u.sends .building r ∧
      t.lasting = { s.answered .building r with
        zones := t.zones, heads := t.heads,
        store := { s.store with heads := sealWith headsImage (upd s.store.heads.contents h fun _ => c) } } ∧
      ((s.head h).config = c → t.head h = s.head h ∧ t.zones = s.zones) ∧
      ((s.head h).config ≠ c → t.head h = ⟨c, .unknown, none, none, (s.head h).misses⟩ ∧ t.link (.head h) = {} ∧
        (s.alarms.Sound → t.alarms.hasActive (.headFault h) = false) ∧
        ∀ w, w = (s.head h).config.zone ∨ w = z → t.WorkedOut w (s.zone w)) ∧
      (s.frameTaken .building).KeepsRest u [.storeFault 1, .headFault h] [.configChanged] ∧
      ((s.head h).config.fitted ≠ fit → u.rebuildPolls = u) ∧
      u.line.inFlight = s.line.inFlight.map (fun x =>
        if x.device = .head h ∧ (s.head h).config.fitted = true ∧ fit = false then { x with disowned := true } else x) ∧
      (s.alarms.Sound → t.alarms.hasActive (.storeFault 1) = false) ∧
      (∀ k, k ≠ h → t.head k = s.head k) ∧ (∀ w, (t.zone w).config = (s.zone w).config) ∧
      (∀ w, w ≠ (s.head h).config.zone → w ≠ z → t.zone w = s.zone w) ∧
      t.noticed .configChanged .alarm ∧ t.noticed .configChanged .override

/-- R75, R76, R92, R146, R153, R176: an accepted WRITE FAN stores the eight clamped fields and keeps the service, works the resolved class and
minimum speed out again from a stored ability if the write changes either field, and triggers a pass; a fan that becomes
fitted enters ENROLLING at the end of the duty list, one that ceases to be fitted enters ABSENT and leaves it, with its drive's
command dropped and an exchange in flight disowned; the poll list is rebuilt and the STORE_FAULT entry of group 3 cleared.
u is the state before the passes, which can turn the duty list over (R93). -/
def Obligations.WriteFanStoresTheRecord : Prop :=
  ∀ (index : Byte) (data : List Word) (n : FanId) (f : Bool) (s : State),
    (s.port .building).decoder = .waiting → s.plan.level = .none → fanOf index = some n → data.length = 8 →
    dataNat data 0 = (if f then 1 else 0) →
    ¬((s.fan n).config.fitted = true ∧ f = false ∧ (s.fan n).busy = true) →
    let c : FanConfig :=
      ⟨f, clampTo 10 3000 (dataNat data 1), clampTo 1 2000 (dataNat data 2), clampTo 10 60 (dataNat data 3),
       clampTo 0 2 (dataNat data 4), clampTo 5 120 (dataNat data 5), clampTo 10 300 (dataNat data 6),
       clampTo 0 300 (dataNat data 7), (s.fan n).config.service⟩
    let f0 := s.fan n
    let r : Response := ⟨if data = (fanConfigWords c).take 8 then .done else .doneClamped, 0x12, index, []⟩
    ∃ u t : State, exec (.writeFan .building index data) s = .next t ∧
      t = u.sends .building r ∧ u.alloc.due = true ∧ (f0.config.fitted ≠ f → u.rebuildPolls = u ∧ u.link (.drive n) = {}) ∧
      (f0.config.fitted = true → f = false → (∀ o ∈ u.line.queue, o.device ≠ .drive n) ∧
        u.line.inFlight = s.line.inFlight.map fun x => if x.device = .drive n then { x with disowned := true } else x) ∧
      (s.alarms.Sound → t.alarms.hasActive (.storeFault 2) = false) ∧
      (s.frameTaken .building).KeepsRest u [.storeFault 2, .fanFault n] [.configChanged] ∧
      (∀ m, m ≠ n → u.fan m = s.fan m) ∧
      (f0.config.fitted = f → u.duty = s.duty ∧
        u.fan n =
          if f0.config.minSpeed = c.minSpeed ∧ f0.config.cls = c.cls then { f0 with config := c }
          else match f0.ability with
            | none => { f0 with config := c }
            | some .starter => { f0 with config := c, cls := some 0, minSpeed := some 100 }
            | some (.drive m low k) =>
              { f0 with config := c, cls := some (min c.cls k),
                        minSpeed := some (if m = .variable then max c.minSpeed low else 100) }) ∧
      (f0.config.fitted = false → f = true → u.duty = s.duty ++ [n] ∧ u.fan n = { f0 with config := c }.enrols ∧
        .offer n ∈ u.line.queue) ∧
      (f0.config.fitted = true → f = false → u.duty = s.duty.filter (fun m => m ≠ n) ∧
        u.fan n = { f0 with
          config := c, state := .absent, timer := none, startPending := false, reenrolPending := false, plainAnswers := 0,
          ability := none, mode := none, cls := none, minSpeed := none, report := none } ∧
        (s.alarms.Sound → u.alarms.hasActive (.fanFault n) = false)) ∧
      t.lasting = { s.answered .building r with
        fanConfigs := upd (s.fans.map Fan.config) n fun _ => c,
        store := { s.store with fans := sealWith fansImage (upd s.store.fans.contents n fun _ => c) } } ∧
      ((s.fan n).config.fitted = false → f = true → (t.fan n).state = .enrolling ∧ n ∈ t.duty) ∧
      ((s.fan n).config.fitted = true → f = false → (t.fan n).state = .absent ∧ (t.fan n).timer = none ∧
        (t.fan n).ability = none ∧ (t.fan n).report = none ∧ n ∉ t.duty) ∧
      (∀ m, m ≠ n → (m ∈ t.duty ↔ m ∈ s.duty)) ∧
      t.noticed .configChanged .alarm ∧ t.noticed .configChanged .override

/-- R112, R114, R115, R176: a budget is clamped to 1 to 60,000 and stored in group 5, whose STORE_FAULT entry is cleared;
WRITE STANDBY BUDGET at every level; SUPPLY STATE sets the supply state and stores nothing. A pass is triggered exactly where
the value changes; u is the state before it. -/
def Obligations.SupplyAndBudgetsAreSet : Prop :=
  ∀ (index : Byte) (w : Word) (s : State),
    let stays := fun u : State => u.plant = s.plant ∧ u.fans = s.fans ∧ u.line = s.line
    ((s.port .building).decoder = .waiting → s.plan.level = .none →
      let b := clampTo 1 60000 w.toNat
      let r : Response := ⟨if b = w.toNat then .done else .doneClamped, 0x13, index, []⟩
      ∃ u t : State, exec (.writeNormalBudget .building index [w]) s = .next t ∧ t = u.sends .building r ∧ stays u ∧
        (s.frameTaken .building).KeepsRest u [.storeFault 4] [.configChanged] ∧
        u.alloc = { s.alloc with normal := b, due := s.alloc.due || b != s.alloc.normal } ∧
        t.lasting = { s.answered .building r with
          normal := b,
          store := { s.store with budgets := sealWith budgetsImage { s.store.budgets.contents with normal := b } } } ∧
        (s.alarms.Sound → t.alarms.hasActive (.storeFault 4) = false) ∧
        t.noticed .configChanged .alarm ∧ t.noticed .configChanged .override) ∧
    ((s.port .alarm).decoder = .waiting →
      let b := clampTo 1 60000 w.toNat
      let r : Response := ⟨if b = w.toNat then .done else .doneClamped, 0x24, index, []⟩
      ∃ u t : State, exec (.writeStandbyBudget .alarm index [w]) s = .next t ∧ t = u.sends .alarm r ∧ stays u ∧
        (s.frameTaken .alarm).KeepsRest u [.storeFault 4] [.configChanged] ∧
        u.alloc = { s.alloc with standby := b, due := s.alloc.due || b != s.alloc.standby } ∧
        t.lasting = { s.answered .alarm r with
          standby := b,
          store := { s.store with budgets := sealWith budgetsImage { s.store.budgets.contents with standby := b } } } ∧
        (s.alarms.Sound → t.alarms.hasActive (.storeFault 4) = false) ∧
        t.noticed .configChanged .building ∧ t.noticed .configChanged .override) ∧
    ((s.port .alarm).decoder = .waiting → ∀ v, supplyOf w = some v →
      let r : Response := ⟨.done, 0x22, index, []⟩
      ∃ u t : State, exec (.supplyState .alarm index [w]) s = .next t ∧ t = u.sends .alarm r ∧ stays u ∧
        (s.frameTaken .alarm).Quiet u ∧ u.alloc = { s.alloc with supply := v, due := s.alloc.due || v != s.alloc.supply } ∧
        t.lasting = { s.answered .alarm r with supply := v })

/-- R33, R58, R59, R176: an accepted WRITE PLAN replaces the bank's roles, class and purge time and keeps its kind; the roles of
the current plan take effect at once, with the layers above and below the plan, the blocks and the control state as they
stood, and are handed on; the STORE_FAULT entry of group 4 is cleared. -/
def Obligations.WritePlanReplacesTheBank : Prop :=
  ∀ (p : Port) (index : Byte) (data : List Word) (k : PlanId) (roles : Vector (Option Role) 16) (s : State),
    (s.port p).decoder = .waiting → s.plan.level = .none → planOf index = some k → data.length = 18 →
    (p = .alarm ∨ (p = .building ∧ (s.bank k).kind = .normal)) →
    (∀ z : ZoneId, roleOf (dataWord data z.val) = some roles[z.val]) →
    ((s.bank k).kind = .normal → ∀ z : ZoneId, roles[z.val] = none ∨ roles[z.val] = some .isolate) →
    let b : PlanBank := ⟨(s.bank k).kind, roles, clampTo 1 2 (dataNat data 16), clampTo 0 3600 (dataNat data 17)⟩
    let r : Response := ⟨if b.cls = dataNat data 16 ∧ b.purge = dataNat data 17 then .done else .doneClamped, 0x14, index, []⟩
    ∃ u t : State, exec (.writePlan p index data) s = .next t ∧ t = u.sends p r ∧ (s.frameTaken p).RolesHanded u False ∧
      (s.frameTaken p).KeepsRest u (.storeFault 3 :: fanFaults) [.configChanged] ∧
      t.lasting = { s.answered p r with
        plan := { s.plan with banks := upd s.plan.banks k fun _ => b }, resolver := t.resolver,
        store := { s.store with plans := sealWith plansImage (s.store.plans.contents.withBank k b) } } ∧
      t.resolver = s.resolver.reworked t.resolver ∧
      (k ≠ s.plan.current → t.resolver = s.resolver) ∧ (k = s.plan.current → t.RolesSound) ∧
      (s.alarms.Sound → t.alarms.hasActive (.storeFault 3) = false) ∧
      ∀ q, q ≠ p → t.noticed .configChanged q

/-- R52, R53, R58, R59, R176: an accepted SELECT BASE PLAN sets the base and the saved plan, at NONE the current plan too, and
stores the base plan in group 6, whose STORE_FAULT entry is cleared; a changed current plan is handed on. -/
def Obligations.SelectBasePlanSetsThePlans : Prop :=
  ∀ (index : Byte) (k : PlanId) (s : State),
    (s.port .building).decoder = .waiting → planOf index = some k → (s.bank k).kind = .normal →
    let current := if s.plan.level = .none then k else s.plan.current
    let r : Response := ⟨.done, 0x15, index, []⟩
    ∃ u t : State, exec (.selectBasePlan .building index []) s = .next t ∧ t = u.sends .building r ∧
      (s.frameTaken .building).RolesHanded u False ∧
      (s.frameTaken .building).KeepsRest u (.storeFault 5 :: fanFaults) [.configChanged, .planChanged] ∧
      t.lasting = { s.answered .building r with
        plan := { s.plan with base := k, saved := k, current := current }, resolver := t.resolver,
        store := { s.store with base := sealWith baseImage { s.store.base.contents with base := k } } } ∧
      t.resolver = s.resolver.reworked t.resolver ∧
      (s.plan.current = current → t.resolver = s.resolver) ∧
      (s.plan.current ≠ current → t.RolesSound ∧ t.noticedByAll .planChanged) ∧
      (s.alarms.Sound → t.alarms.hasActive (.storeFault 5) = false) ∧
      t.noticed .configChanged .alarm ∧ t.noticed .configChanged .override

/-- R58, R59, R66, R91, R94, R176: SET ZONE CLOSURE and SET FAN SERVICE store what they carry, in groups 6 and 3, whose
STORE_FAULT entries are cleared. A changed closure has the roles recomputed and handed on; a changed service triggers a
pass. -/
def Obligations.ClosureAndServiceAreStored : Prop :=
  ∀ (index : Byte) (w : Word) (s : State), (s.port .building).decoder = .waiting → s.plan.level = .none →
    (∀ z closed, zoneOf index = some z → closureOf w = some closed →
      let r : Response := ⟨.done, 0x16, index, []⟩
      ∃ u t : State, exec (.setZoneClosure .building index [w]) s = .next t ∧ t = u.sends .building r ∧
        (s.frameTaken .building).RolesHanded u False ∧
        (s.frameTaken .building).KeepsRest u (.storeFault 5 :: fanFaults) [.configChanged] ∧
        t.lasting = { s.answered .building r with
          resolver := t.resolver,
          store := { s.store with base := sealWith baseImage (s.store.base.contents.withClosure z closed) } } ∧
        t.resolver = { s.resolver with closures := upd s.resolver.closures z fun _ => closed }.reworked t.resolver ∧
        (s.resolver.closures[z.val] = closed → t.resolver = s.resolver) ∧
        (s.resolver.closures[z.val] ≠ closed → t.RolesSound) ∧
        (s.alarms.Sound → t.alarms.hasActive (.storeFault 5) = false) ∧
        t.noticed .configChanged .alarm ∧ t.noticed .configChanged .override) ∧
    ∀ n v, fanOf index = some n → serviceOf w = some v →
      let c : FanConfig := { (s.fan n).config with service := v }
      let r : Response := ⟨.done, 0x18, index, []⟩
      ∃ u t : State, exec (.setFanService .building index [w]) s = .next t ∧ t = u.sends .building r ∧
        (s.frameTaken .building).KeepsRest u [.storeFault 2] [.configChanged] ∧ u.plant = s.plant ∧ u.line = s.line ∧ u.fans = upd s.fans n (fun q => { q with config := c }) ∧
        u.alloc = { s.alloc with due := s.alloc.due || v != (s.fan n).config.service } ∧
        t.lasting = { s.answered .building r with
          fanConfigs := upd (s.fans.map Fan.config) n fun _ => c,
          store := { s.store with fans := sealWith fansImage (upd s.store.fans.contents n fun _ => c) } } ∧
        (s.alarms.Sound → t.alarms.hasActive (.storeFault 2) = false) ∧
        t.noticed .configChanged .alarm ∧ t.noticed .configChanged .override

/-- R34, R35: WRITE PLAN MAP replaces the sixteen entries and SET PLAN KIND one bank's kind, at level NONE; nothing else
changes but group 4, its STORE_FAULT entry and CONFIG_CHANGED on the building and override ports. -/
def Obligations.PlanMapAndKindAreStored : Prop :=
  ∀ (index : Byte) (data : List Word) (s : State), (s.port .alarm).decoder = .waiting → s.plan.level = .none →
    let u := s.frameTaken .alarm
    let done := fun code (m : PlanControl) (g : PlanGroup) => Host.Outcome.next (φ := Fault) (ρ := Refusal)
      ((State.raiseOthers (State.clearAlarm { u with plan := m, store := { u.store with plans := sealWith plansImage g } }
        (.storeFault 3)) .configChanged .alarm).modPort .alarm fun q =>
          { q with response := some ⟨.done, code, index, []⟩ })
    (∀ map : Vector (Option PlanId) 16, data.length = 16 →
      (∀ z : ZoneId, mapEntryOf (dataWord data z.val) = some map[z.val]) →
      (∀ (z : ZoneId) k, map[z.val] = some k → (s.bank k).kind = .smoke) →
      exec (.writePlanMap .alarm index data) s =
        done 0x23 { s.plan with map := map } { s.store.plans.contents with map := map }) ∧
    ∀ n kind, planOf index = some n → data.length = 1 → kindOf (dataWord data 0) = some kind →
      (kind = .normal → (∀ z : ZoneId, (s.bank n).roles[z.val] = none ∨ (s.bank n).roles[z.val] = some .isolate) ∧
        ∀ z : ZoneId, s.plan.map[z.val] ≠ some n) →
      (kind = .smoke → n ≠ s.plan.current ∧ n ≠ s.plan.saved) →
      exec (.setPlanKind .alarm index data) s =
        done 0x25 { s.plan with banks := upd s.plan.banks n fun b => { b with kind := kind } }
          (s.store.plans.contents.withBank n { s.bank n with kind := kind })

/-- R15: an accepted CLEAR COUNTS clears the total misses, the high-gas event counts and the start and trip counts, and
nothing else. R177: FACTORY CLEAR at level NONE leaves the part as after a reset with the defaults stored; its response was
sent before the reset (log 2). -/
def Obligations.CountsAreClearedAndDefaultsRestored : Prop :=
  (∀ (index : Byte) (s : State), (s.port .building).decoder = .waiting → s.plan.level = .none →
    let u := s.frameTaken .building
    exec (.clearCounts .building index []) s = .next (State.modPort
      { u with heads := u.heads.map (fun h => { h with misses := 0 }),
               zones := u.zones.map (fun z => { z with highEvents := 0 }),
               fans := u.fans.map (fun f => { f with starts := 0, trips := 0 }) } .building fun q =>
        { q with response := some ⟨.done, 0x1B, index, []⟩ })) ∧
  ∀ (index : Byte) (s : State), (s.port .building).decoder = .waiting → s.plan.level = .none →
    exec (.factoryClear .building index []) s = .next (State.modPort { State.reset with pending := s.pending } .building
      fun q => { q with response := some ⟨.done, 0x1C, index, []⟩ })

/-! ### Boosts, re-enrolment and reset of a fan (R22, R23, R69, R80, R88) -/

/-- R19, R20, R22, R23, R69: SET BOOST starts or cancels the boost of the zone it names, or with 0 of every fitted zone, in an
incident of the GAS zones; other zones are unchanged, and of each zone it reaches the target is recomputed, the demand
follows and the rest of the row stays. -/
def Obligations.SetBoostReachesItsZones : Prop :=
  ∀ (index : Byte) (percent minutes : Word) (s : State), (s.port .building).decoder = .waiting →
    let b : Option Boost :=
      if percent = 0 then none else some ⟨min 100 percent.toNat, 60 * clampTo 1 240 minutes.toNat⟩
    let r : Response :=
      ⟨if percent = 0 ∨ (percent.toNat ≤ 100 ∧ 1 ≤ minutes.toNat ∧ minutes.toNat ≤ 240) then .done else .doneClamped,
       0x17, index, []⟩
    let open_ := fun z => (s.zone z).config.fitted = true ∧ (s.plan.level = .none ∨ s.role z = .gas)
    (∀ z, zoneOf index = some z → open_ z →
      ∃ t, exec (.setBoost .building index [percent, minutes]) s = .next t ∧
        t.lasting = { s.answered .building r with zones := t.zones } ∧
        { s.zone z with boost := b }.Follows (t.zone z) ∧ ∀ w, w ≠ z → t.zone w = s.zone w) ∧
    (index = 0 →
      ∃ t, exec (.setBoost .building index [percent, minutes]) s = .next t ∧
        t.lasting = { s.answered .building r with zones := t.zones } ∧
        ∀ z, (open_ z → { s.zone z with boost := b }.Follows (t.zone z)) ∧ (¬open_ z → t.zone z = s.zone z))

/-- R80, R85, R91: REENROL FAN at level NONE, by the fan's state. R83, R88, R89: RESET FAN of a TRIPPED fan whose last report
carries no fault code takes it out of TRIPPED; of any other fan it is refused with REFUSED_STATE. u is the state before the
passes. -/
def Obligations.ReenrolAndResetFanByState : Prop :=
  (∀ (index : Byte) (n : FanId) (s : State), (s.port .building).decoder = .waiting → s.plan.level = .none →
    fanOf index = some n →
    let r : Response := ⟨.done, 0x19, index, []⟩
    let v := s.frameTaken .building
    ((s.fan n).state = .ready ∨ (s.fan n).state = .restartHold →
      ∃ u t : State, exec (.reenrolFan .building index []) s = .next t ∧ t = u.sends .building r ∧ v.OnlyFan u n ∧
        u.line = s.line ∧ v.Quiet u ∧
        u.fan n = { s.fan n with state := .enrolHold, timer := some 10, startPending := false } ∧
        (u.alloc.due = true ↔ s.alloc.due = true ∨ (s.fan n).state = .ready ∨ s.resolver.smoke = true) ∧
        t.lasting = s.answered .building r ∧
        (t.fan n).state = .enrolHold ∧ (t.fan n).timer = some 10 ∧ (t.fan n).startPending = false ∧
        (t.fan n).ability = (s.fan n).ability) ∧
    ((s.fan n).state = .starting ∨ (s.fan n).state = .running →
      ∃ u t : State, exec (.reenrolFan .building index []) s = .next t ∧ t = u.sends .building r ∧ v.OnlyFan u n ∧
        v.Quiet u ∧ u.alloc.due = true ∧
        u.fan n = { (s.fan n).stopped with startPending := false, reenrolPending := true } ∧
        ((s.fan n).config.fitted = true → (s.link (.drive n)).lost = false → .stop n ∈ u.line.queue) ∧
        t.lasting = s.answered .building r ∧
        (t.fan n).state = .stopping ∧ (t.fan n).timer = some (s.fan n).config.stopLimit ∧
        (t.fan n).startPending = false ∧ (t.fan n).reenrolPending = true ∧ (t.fan n).speedCmd = 0 ∧
        (t.fan n).smokeSent = false) ∧
    ((s.fan n).state ∈ [.absent, .enrolling, .enrolHold, .stopping, .tripped, .lost] →
      exec (.reenrolFan .building index []) s = .next ((s.frameTaken .building).modPort .building fun q =>
        { q with response := some ⟨.refusedState, 0x19, index, []⟩ }))) ∧
  ∀ (p : Port) (index : Byte) (n : FanId) (s : State), (s.port p).decoder = .waiting → fanOf index = some n →
    (p = .building ∧ s.plan.level = .none) ∨ (p = .override ∧ s.resolver.control = .inControl) →
    let faulty := (s.fan n).state ≠ .tripped ∨ ∃ r, (s.fan n).report = some r ∧ r.fault ≠ 0
    let r : Response := ⟨.done, 0x1A, index, []⟩
    (faulty → exec (.resetFan p index []) s = .next ((s.frameTaken p).modPort p fun q =>
      { q with response := some ⟨.refusedState, 0x1A, index, []⟩ })) ∧
    (¬faulty → ∃ u t : State, exec (.resetFan p index []) s = .next t ∧ t = u.sends p r ∧ (s.frameTaken p).OnlyFan u n ∧
      (s.frameTaken p).KeepsRest u [.fanFault n] [] ∧ t.lasting = s.answered p r ∧ (s.alarms.Sound → t.alarms.hasActive (.fanFault n) = false) ∧
      ((s.fan n).reenrolPending = true →
        u.fan n = { s.fan n with state := .enrolHold, timer := some 10, reenrolPending := false } ∧
        u.line = s.line ∧
        (t.fan n).state = .enrolHold ∧ (t.fan n).timer = some 10 ∧ (t.fan n).reenrolPending = false) ∧
      ((s.fan n).reenrolPending = false → (s.frameTaken p).Readied u n (s.fan n) ∧
        ((t.fan n).state = .ready ∨ (t.fan n).state = .starting ∨ (t.fan n).state = .stopping)))

/-! ### Fires, plans and control (R40 to R53, R60 to R64) -/

/-- R39, R40, R42, R43, R53, R58, R59: a FIRE ALARM at level NONE begins an incident with the map plan of its zone; of the
resolver nothing changes but the roles, the ruling layers, smoke service and the required class, and these are handed on. The
change of level triggers a pass where a fitted fan is OUT. -/
def Obligations.FireAlarmBeginsAnIncident : Prop :=
  ∀ (index : Byte) (z : ZoneId) (s : State), (s.port .alarm).decoder = .waiting → zoneOf index = some z →
    (s.zone z).config.fitted = true → s.burning z = false → s.plan.level = .none →
    let current := (s.plan.map[z.val]).getD s.plan.current
    let r : Response := ⟨.done, 0x20, index, []⟩
    ∃ u t : State, exec (.fireAlarm .alarm index []) s = .next t ∧ t = u.sends .alarm r ∧
      (s.frameTaken .alarm).RolesHanded u s.AnyOut ∧
      (s.alarms.has (.fire z) = true ∨ (s.frameTaken .alarm).alarms.entries.length < 32 →
        (s.frameTaken .alarm).KeepsRest u (.fire z :: fanFaults) [.incidentBegun, .planChanged]) ∧
      t.lasting = { s.answered .alarm r with
        plan := { s.plan with
          fireSet := s.plan.fireSet ||| (1#16 <<< z.val), saved := s.plan.current, current := current, level := .fire,
          cause := some ⟨z, s.plan.map[z.val], s.partTime, .none⟩ },
        resolver := t.resolver } ∧
      t.noticedByAll .incidentBegun ∧ t.resolver = s.resolver.reworked t.resolver ∧
      (s.plan.current = current → t.resolver = s.resolver) ∧
      (s.plan.current ≠ current → t.RolesSound ∧ t.noticedByAll .planChanged) ∧
      (s.alarms.Sound → t.alarms.hasActive (.fire z) = true)

/-- R40, R42, R44, R45: a FIRE ALARM for a further zone at FIRE or MANUAL joins the fire set, stops a purge and raises
SECOND_FIRE; the plans, the level and the roles stay. For a zone of the set it changes nothing: the incident state, the
alarm list and every port's notices stay as they were. -/
def Obligations.FurtherFireAlarmKeepsThePlan : Prop :=
  ∀ (index : Byte) (z : ZoneId) (s : State), (s.port .alarm).decoder = .waiting → zoneOf index = some z →
    (s.zone z).config.fitted = true →
    (s.burning z = false → s.plan.level ≠ .none →
      ∃ t, exec (.fireAlarm .alarm index []) s = .next t ∧
        t.lasting = { s.answered .alarm ⟨.done, 0x20, index, []⟩ with
          plan := { s.plan with
            fireSet := s.plan.fireSet ||| (1#16 <<< z.val), purge := none,
            cause := match s.plan.cause with
              | none => some ⟨z, none, s.partTime, .manual⟩
              | some c => some (if s.plan.fireSet = 0 then { c with zone := z, time := s.partTime } else c) } } ∧
        t.noticedByAll .secondFire ∧ (s.alarms.Sound → t.alarms.hasActive (.fire z) = true)) ∧
    (s.burning z = true → s.alloc.due = false →
      ∃ t, exec (.fireAlarm .alarm index []) s = .next t ∧ t.lasting = s.answered .alarm ⟨.done, 0x20, index, []⟩ ∧
        t.alarms = (s.frameTaken .alarm).alarms ∧ t.plant = s.plant ∧ t.fans = s.fans ∧
        ∀ q, (t.port q).pending = (s.port q).pending ∧ (t.port q).seen = (s.port q).seen ∧
          (t.port q).line = (s.port q).line)

/-- R39, R46 to R49, R53, R58, R59: FIRE RESET empties the fire set; at FIRE it starts the purge timer, or makes the return where the purge
time is 0. The expiry of the purge timer makes the return. The roles of the return are handed on, and its change of level
triggers a pass where a fitted fan is OUT. -/
def Obligations.FireResetPurgesAndReturns : Prop :=
  (∀ (index : Byte) (s : State), (s.port .alarm).decoder = .waiting →
    let r : Response := ⟨.done, 0x21, index, []⟩
    let purge := (s.bank s.plan.current).purge
    (s.plan.fireSet = 0 ∨ s.plan.level = .none → ∃ t, exec (.fireReset .alarm index []) s = .next t ∧
      t.lasting = s.answered .alarm r) ∧
    (s.plan.fireSet ≠ 0 → s.plan.level = .manual → ∃ t, exec (.fireReset .alarm index []) s = .next t ∧
      t.lasting = { s.answered .alarm r with plan := { s.plan with fireSet := 0 } }) ∧
    (s.plan.fireSet ≠ 0 → s.plan.level = .fire → 0 < purge → ∃ t, exec (.fireReset .alarm index []) s = .next t ∧
      t.lasting = { s.answered .alarm r with plan := { s.plan with fireSet := 0, purge := some purge } }) ∧
    (s.plan.fireSet ≠ 0 → s.plan.level = .fire → purge = 0 → ∃ u t : State, exec (.fireReset .alarm index []) s = .next t ∧
      t = u.sends .alarm r ∧ (s.frameTaken .alarm).RolesHanded u s.AnyOut ∧
      (s.frameTaken .alarm).KeepsRest u ((List.finRange 16).map .fire ++ fanFaults) [.incidentEnded, .planChanged] ∧
      t.lasting = { s.answered .alarm r with
        plan := { s.plan with fireSet := 0, current := s.plan.saved, level := .none, cause := none, purge := none },
        resolver := t.resolver } ∧
      t.noticedByAll .incidentEnded ∧ t.resolver = s.resolver.reworked t.resolver ∧
      (s.plan.current = s.plan.saved → t.resolver = s.resolver) ∧
      (s.plan.current ≠ s.plan.saved → t.RolesSound ∧ t.noticedByAll .planChanged))) ∧
  ∀ s : State, s.plan.purge.isSome = true → s.plan.level = .fire →
    ∃ u t : State, exec .purgeTimerExpiry s = .next t ∧ t = u.finish ∧ s.RolesHanded u s.AnyOut ∧
      s.KeepsRest u fanFaults [.incidentEnded, .planChanged] ∧
      t.lasting = { s.lasting with
        plan := { s.plan with current := s.plan.saved, level := .none, cause := none, purge := none },
        resolver := t.resolver } ∧
      t.noticedByAll .incidentEnded ∧ t.resolver = s.resolver.reworked t.resolver ∧
      (s.plan.current = s.plan.saved → t.resolver = s.resolver) ∧
      (s.plan.current ≠ s.plan.saved → t.RolesSound ∧ t.noticedByAll .planChanged)

/-- R61: TAKE CONTROL, at every level: nothing changes but the control state and its notice. -/
def Obligations.TakeControlSetsInControl : Prop :=
  ∀ (index : Byte) (s : State), (s.port .override).decoder = .waiting →
    let u := s.frameTaken .override
    let respond := fun (v : State) => v.modPort .override fun q => { q with response := some ⟨.done, 0x30, index, []⟩ }
    exec (.takeControl .override index []) s = .next (respond
      (if s.resolver.control = .notInControl then
        State.raiseAll { u with resolver := { u.resolver with control := .inControl } } .overrideChanged
      else u))

/-- R39, R51, R53, R58, R59, R62: GIVE CONTROL removes every override layer and block, at MANUAL returns the part to automatic
with the notices of the return, and ends the control; the roles are those of the layers that remain and are handed on. A
block removed triggers a pass, and so does an end of the incident where a fitted fan is OUT. -/
def Obligations.GiveControlReturnsTheDepot : Prop :=
  ∀ (index : Byte) (s : State), (s.port .override).decoder = .waiting →
    let r : Response := ⟨.done, 0x31, index, []⟩
    (s.resolver.control = .inControl →
      let plan : PlanControl :=
        if s.plan.level ≠ .manual then s.plan
        else if s.plan.fireSet = 0 then { s.plan with current := s.plan.saved, level := .none, cause := none }
        else { s.plan with
          level := .fire
          current := match s.plan.cause with
            | some c => (s.plan.map[c.zone.val]).getD s.plan.saved
            | none => s.plan.saved }
      ∃ u t : State, exec (.giveControl .override index []) s = .next t ∧ t = u.sends .override r ∧
        (s.frameTaken .override).RolesHanded u
          ((∃ n : FanId, s.resolver.blocks[n.val] = true) ∨ (s.plan.level = .manual ∧ s.plan.fireSet = 0 ∧ s.AnyOut)) ∧
        (s.frameTaken .override).KeepsRest u fanFaults [.overrideChanged, .planChanged, .incidentEnded] ∧
        t.lasting = { s.answered .override r with plan := plan, resolver := t.resolver } ∧
        t.resolver.control = .notInControl ∧ (∀ z : ZoneId, t.resolver.overrides[z.val] = none) ∧
        (∀ n : FanId, t.resolver.blocks[n.val] = false) ∧ t.resolver.closures = s.resolver.closures ∧ t.RolesSound ∧
        t.noticedByAll .overrideChanged ∧ (s.plan.current ≠ plan.current → t.noticedByAll .planChanged) ∧
        (s.plan.level = .manual → s.plan.fireSet = 0 → t.noticedByAll .incidentEnded)) ∧
    (s.resolver.control = .notInControl →
      exec (.giveControl .override index []) s = .next ((s.frameTaken .override).modPort .override fun q =>
        { q with response := some r }))

/-- R58, R59, R63, R64, R86, R90: an accepted SET ZONE OVERRIDE and SET FAN BLOCK set or remove one layer or one mark, at every
level, and an unchanged one changes nothing. A changed layer has the roles recomputed and handed on: smoke service that
begins ends every restart hold and the grace timer, and one that ends with the path not proven and a fan turning starts the
grace timer. A changed block triggers a pass. -/
def Obligations.OverrideAndBlockAreSet : Prop :=
  ∀ (index : Byte) (w : Word) (s : State), (s.port .override).decoder = .waiting → s.resolver.control = .inControl →
    let v := s.frameTaken .override
    (∀ z a, zoneOf index = some z → roleOf w = some a →
      let r : Response := ⟨.done, 0x32, index, []⟩
      ∃ u t : State, exec (.setZoneOverride .override index [w]) s = .next t ∧ t = u.sends .override r ∧
        v.RolesHanded u False ∧ v.KeepsRest u fanFaults [.overrideChanged] ∧
        t.lasting = { s.answered .override r with resolver := t.resolver } ∧
        t.resolver = { s.resolver with overrides := upd s.resolver.overrides z fun _ => a }.reworked t.resolver ∧
        (s.resolver.overrides[z.val] = a → u = v) ∧
        (s.resolver.overrides[z.val] ≠ a → t.RolesSound ∧ t.noticedByAll .overrideChanged)) ∧
    ∀ n b, fanOf index = some n → blockOf w = some b →
      let r : Response := ⟨.done, 0x33, index, []⟩
      ∃ u t : State, exec (.setFanBlock .override index [w]) s = .next t ∧ t = u.sends .override r ∧
        t.lasting = { s.answered .override r with
          resolver := { s.resolver with blocks := upd s.resolver.blocks n fun _ => b } } ∧
        v.KeepsRest u [] [.overrideChanged] ∧ u.plant = s.plant ∧ u.fans = s.fans ∧ u.line = s.line ∧ (s.resolver.blocks[n.val] = b → u = v) ∧
        (s.resolver.blocks[n.val] ≠ b → u.alloc = { s.alloc with due := true } ∧ t.noticedByAll .overrideChanged)

/-- R39, R50, R51, R53, R58, R59: an accepted SELECT PLAN and RETURN TO AUTOMATIC. A changed plan is handed on, and a change of
level from or to NONE triggers a pass where a fitted fan is OUT. -/
def Obligations.SelectPlanAndReturnToAutomatic : Prop :=
  ∀ (index : Byte) (s : State), (s.port .override).decoder = .waiting → s.resolver.control = .inControl →
    (∀ k, planOf index = some k →
      let r : Response := ⟨.done, 0x34, index, []⟩
      ∃ u t : State, exec (.selectPlan .override index []) s = .next t ∧ t = u.sends .override r ∧
        (s.frameTaken .override).RolesHanded u (s.plan.level = .none ∧ s.AnyOut) ∧
        (s.frameTaken .override).KeepsRest u fanFaults [.planChanged, .incidentBegun] ∧
        t.lasting = { s.answered .override r with
          plan := { s.plan with
            saved := if s.plan.level = .none then s.plan.current else s.plan.saved, current := k, level := .manual,
            purge := none },
          resolver := t.resolver } ∧
        t.resolver = s.resolver.reworked t.resolver ∧ (s.plan.current = k → t.resolver = s.resolver) ∧
        (s.plan.current ≠ k → t.RolesSound ∧ t.noticedByAll .planChanged) ∧
        (s.plan.level = .none → t.noticedByAll .incidentBegun)) ∧
    (s.plan.level = .manual →
      let r : Response := ⟨.done, 0x35, index, []⟩
      let plan : PlanControl :=
        if s.plan.fireSet = 0 then { s.plan with current := s.plan.saved, level := .none, cause := none }
        else { s.plan with
          level := .fire
          current := match s.plan.cause with
            | some c => (s.plan.map[c.zone.val]).getD s.plan.saved
            | none => s.plan.saved }
      ∃ u t : State, exec (.returnToAutomatic .override index []) s = .next t ∧ t = u.sends .override r ∧
        (s.frameTaken .override).RolesHanded u (s.plan.fireSet = 0 ∧ s.AnyOut) ∧
        (s.frameTaken .override).KeepsRest u fanFaults [.planChanged, .incidentEnded] ∧
        t.lasting = { s.answered .override r with plan := plan, resolver := t.resolver } ∧
        t.resolver = s.resolver.reworked t.resolver ∧ (s.plan.current = plan.current → t.resolver = s.resolver) ∧
        (s.plan.current ≠ plan.current → t.RolesSound ∧ t.noticedByAll .planChanged) ∧
        (s.plan.fireSet = 0 → t.noticedByAll .incidentEnded))

/-- R31, R36 to R42, R56, R57, R59, R60, R174: the incident state, the plans it rests on, the roles and the store stay as those
rules say, at every step: each zone has the role of its OVERRIDE layer if present, else of the current plan, else ISOLATE where
it is closed, else GAS, smoke service is in force while a fitted zone has EXTRACT, and the class is that of a SMOKE plan, else
1. -/
def Obligations.IncidentRolesAndStoreStaySound : Prop :=
  ∀ s t : State, s.IncidentSound → s.StoreSound → s.RolesSound → step s = .next t →
    t.IncidentSound ∧ t.StoreSound ∧ t.RolesSound

/-- R40: at every step the zones of the fire set are exactly those with an ACTIVE FIRE entry. -/
def Obligations.FireSetStaysListed : Prop :=
  ∀ s t : State, s.alarms.Sound → s.IncidentSound → s.FiresListed → step s = .next t → t.FiresListed

/-! ### Field replies and the reply timeout (R11 to R21, R77 to R90, R98 to R105, R145, R149 to R153) -/

/-- R11, R12, R14, R16 to R21: a head's reply, with its readings clamped and kept by the gases it carries; the zone's values,
ramps and target follow, the demand and its fall timer follow the target, and of the rest of the row only the counts and
the gas-high states can change (GasHighIsConfirmedAndCleared). A new SENSOR_FAULT has its entry where the list has room, and an OK reply clears it. That an
unfitted zone's values and ramps follow too is the model's choice (log 22). -/
def Obligations.HeadReplyUpdatesItsZone : Prop :=
  ∀ (address status : Byte) (co no2 : Word) (h : HeadId) (order : Option Order) (s : State),
    s.line.inFlight = some ⟨.head h, order, false⟩ → address.toNat = h.val + 1 →
    let old := s.head h
    let z := old.config.zone
    ∃ t, exec (.headReply address status co no2) s = .next t ∧
      t.lasting = { s.lasting with heads := t.heads, zones := t.zones } ∧
      t.head h =
        (if status = 0 then ⟨old.config, .unknown, none, none, old.misses⟩
        else if status = 1 then
          ⟨old.config, .valid, if old.config.carries = .no2 then none else some (min 1000 co.toNat),
           if old.config.carries = .co then none else some (min 300 no2.toNat), old.misses⟩
        else ⟨old.config, .sensorFault, none, none, old.misses⟩) ∧
      (∀ k, k ≠ h → t.head k = s.head k) ∧ (∀ w, w ≠ z → t.zone w = s.zone w) ∧
      t.WorkedOut z { s.zone z with co := (t.zone z).co, no2 := (t.zone z).no2, highEvents := (t.zone z).highEvents } ∧
      t.link (.head h) = {} ∧
      (status ≠ 0 → status ≠ 1 → old.state ≠ .sensorFault → t.noticedByAll .deviceFault ∧
        (s.alarms.Sound → s.alarms.entries.length < 32 → t.alarms.hasActive (.headFault h) = true)) ∧
      (status = 1 → s.alarms.Sound → t.alarms.hasActive (.headFault h) = false)

/-- R24 to R27: what a head's reply does to the counts and the gas-high states of its zone, before the passes. An OK reading
at or above the alarm level advances the count, up to 15, and makes gas-high active at the confirmation count; one below the
clear level sets the count to 0 and clears gas-high once the zone value is below it too; other readings, other replies and
an unfitted zone change neither. Gas-high that becomes active has its entry where the list holds it or has room, beside a new one of the other gas, its notice and
its event counted; where both become active with room for one, one of them has its entry; it takes target and demand to 100; gas-high that clears has its entry cleared and its notice. A changed
demand triggers a pass (R20). No other entry changes than these and the head's own, and no mark of another notice. -/
def Obligations.GasHighIsConfirmedAndCleared : Prop :=
  ∀ (address status : Byte) (co no2 : Word) (h : HeadId) (order : Option Order) (s : State),
    s.line.inFlight = some ⟨.head h, order, false⟩ → address.toNat = h.val + 1 →
    let k := (s.head h).config
    let q := s.zone k.zone
    let reading : Gas → Nat := fun g => match g with
      | .co => min 1000 co.toNat
      | .no2 => min 300 no2.toNat
    let level : Gas → Nat := fun g => match g with
      | .co => q.config.coAlarm
      | .no2 => q.config.no2Alarm
    let carried : Gas → Prop := fun g => match g with
      | .co => k.carries ≠ .no2
      | .no2 => k.carries ≠ .co
    let counted := fun g => status = 1 ∧ q.config.fitted = true ∧ carried g
    let add := fun (rose : Bool) (n : Nat) => if rose = true ∧ n < 65535 then n + 1 else n
    ∃ u : State, exec (.headReply address status co no2) s = .next u.finish ∧
      let r := u.zone k.zone
      let rises := fun g => !(q.gas g).high && (r.gas g).high
      let clears := fun g => (q.gas g).high && !(r.gas g).high
      let enters := fun g => rises g && !s.alarms.has (.gasHigh g k.zone)
      let other : Gas → Gas := fun g => match g with
        | .co => .no2
        | .no2 => .co
      s.KeepsRest u [.headFault h, .gasHigh .co k.zone, .gasHigh .no2 k.zone] [.gasHigh, .gasCleared, .deviceFault, .listFull] ∧
      (s.alarms.Sound → s.alarms.entries.length < 32 → rises .co = true → rises .no2 = true →
        ∃ g, u.alarms.hasActive (.gasHigh g k.zone) = true) ∧
      (∀ g : Gas,
        (¬counted g ∨ (level g * 4 / 5 ≤ reading g ∧ reading g < level g) →
          (r.gas g).count = (q.gas g).count ∧ (r.gas g).high = (q.gas g).high) ∧
        (counted g → level g ≤ reading g →
          (r.gas g).count = (if (q.gas g).count < 15 then (q.gas g).count + 1 else (q.gas g).count) ∧
          (r.gas g).high = ((q.gas g).high || decide (q.config.confirm ≤ (r.gas g).count))) ∧
        (counted g → reading g < level g * 4 / 5 → (r.gas g).count = 0 ∧
          (r.gas g).high = ((q.gas g).high && decide (level g * 4 / 5 ≤ ((r.gas g).value).getD 0))) ∧
        (rises g = true → u.noticedByAll .gasHigh ∧ (q.Sound → r.target = 100 ∧ r.demand = 100) ∧
          (s.alarms.Sound →
            s.alarms.has (.gasHigh g k.zone) = true ∨ s.alarms.entries.length + (if enters (other g) then 1 else 0) < 32 →
            u.alarms.hasActive (.gasHigh g k.zone) = true)) ∧
        (clears g = true → u.noticedByAll .gasCleared ∧
          (s.alarms.Sound → u.alarms.hasActive (.gasHigh g k.zone) = false))) ∧
      r.highEvents = add (rises .no2) (add (rises .co) q.highEvents) ∧ (r.demand ≠ q.demand → u.alloc.due = true)

/-- R77, R83 to R87, R89, R91: what a drive's reply does to its fan outside ENROLLING, before the passes it leads to. A trip has
its entry where the list has room, and a fan that enters READY has its FAN_FAULT entry cleared. That a stopped fan which smoke service calls for, by start pending or by the record, is
READY at once is read into R86 (DEDUCED, log 18). -/
def Obligations.DriveReplyMovesTheFan : Prop :=
  ∀ (address run speed fault mode minSpeed cls : Byte) (n : FanId) (order : Option Order) (s : State) (c : Instr),
    s.line.inFlight = some ⟨.drive n, order, false⟩ → address.toNat = 65 + n.val → (s.fan n).state ≠ .enrolling →
    (c = .statusReply address run speed fault ∨ c = .abilityReply address run speed fault mode minSpeed cls) →
    let r := (s.fan n).reported run speed fault
    let f := { s.fan n with report := some r }
    ∃ u : State, exec c s = .next u.finish ∧ s.OnlyFan u n ∧ u.line.inFlight = none ∧ u.link (.drive n) = {} ∧
      (f.state = .absent ∨ f.state = .tripped → u.fan n = f ∧ s.Quiet u) ∧
      (f.state ∈ [.ready, .restartHold, .starting, .running, .stopping] → r.fault ≠ 0 →
        s.Tripped u n f (.fault r.fault)) ∧
      (f.state = .enrolHold → r.fault ≠ 0 → u.fan n = f ∧ s.Quiet u) ∧
      (f.state ∈ [.enrolHold, .ready, .restartHold] → r.fault = 0 → s.Quiet u ∧
        if r.run = .accelerating ∨ r.run = .atSpeed then
          u.fan n = { f with speedCmd := 0, smokeSent := false } ∧ (f.config.fitted = true → .stop n ∈ u.line.queue)
        else u.fan n = f) ∧
      (f.state = .starting → r.fault = 0 → s.Quiet u ∧
        u.fan n = if r.run = .atSpeed then { f with state := .running, timer := none } else f) ∧
      (f.state = .running → r.fault = 0 →
        if r.run = .stopped then s.Tripped u n f .unexpectedStop else u.fan n = f ∧ s.Quiet u) ∧
      (f.state = .stopping → r.fault = 0 →
        if r.run ≠ .stopped then u.fan n = f ∧ s.Quiet u
        else if f.reenrolPending = true then
          u.fan n = { f with state := .enrolHold, timer := some 10, reenrolPending := false } ∧ s.Quiet u ∧ u.line.queue = s.line.queue
        else if f.config.restartHold = 0 ∨
          (s.resolver.smoke = true ∧ (f.startPending = true ∨ n ∈ s.alloc.record.runSet)) then
          s.Readied u n f ∧ s.Clears u (.fanFault n)
        else u.fan n = { f with state := .restartHold, timer := some f.config.restartHold } ∧ s.Quiet u) ∧
      (f.state = .lost → u.fan n = f.enrols ∧ s.Quiet u ∧ (f.config.fitted = true → .offer n ∈ u.line.queue))

/-- R78, R79, R81, R89: what a drive's reply does in ENROLLING, before the passes it leads to: the table of R79, and the move
by the report that completed the enrolment: TRIPPED with its entry where the list has room, READY with the FAN_FAULT entry
cleared, or STOPPING. -/
def Obligations.EnrolmentResolvesTheFan : Prop :=
  ∀ (address run speed fault : Byte) (n : FanId) (order : Option Order) (s : State),
    s.line.inFlight = some ⟨.drive n, order, false⟩ → address.toNat = 65 + n.val → (s.fan n).state = .enrolling →
    let r := (s.fan n).reported run speed fault
    let f := { s.fan n with report := some r }
    let moves := fun (u : State) (q : Fan) =>
      if r.fault ≠ 0 then s.Tripped u n q (.fault r.fault)
      else if r.run = .stopped then s.Readied u n q ∧ s.Clears u (.fanFault n)
      else u.fan n = q.stopped ∧ s.Quiet u ∧ (q.config.fitted = true → .stop n ∈ u.line.queue)
    (∀ mode minSpeed cls : Byte,
      let m : Mode := if mode = 0 then .variable else .fixed
      ∃ u : State, exec (.abilityReply address run speed fault mode minSpeed cls) s = .next u.finish ∧ s.OnlyFan u n ∧
        u.line.inFlight = none ∧ u.link (.drive n) = {} ∧ u.alloc.due = true ∧
        moves u { f with
          ability := some (.drive m (min 100 minSpeed.toNat) (min 2 cls.toNat)), mode := some m,
          cls := some (min f.config.cls (min 2 cls.toNat)),
          minSpeed := some (if mode = 0 then max f.config.minSpeed (min 100 minSpeed.toNat) else 100) }) ∧
    (order = some (.offer n) →
      let k : Nat := f.plainAnswers + 1
      ∃ u : State, exec (.statusReply address run speed fault) s = .next u.finish ∧ s.OnlyFan u n ∧
        u.line.inFlight = none ∧ u.link (.drive n) = {} ∧
        if k < 3 then
          u.fan n = { f with plainAnswers := k } ∧ (f.config.fitted = true → .offer n ∈ u.line.queue) ∧
            s.Quiet u ∧ u.alloc = s.alloc
        else
          u.alloc.due = true ∧ moves u { f with
            plainAnswers := k, ability := some .starter, mode := some .fixed, cls := some 0, minSpeed := some 100 }) ∧
    (order ≠ some (.offer n) →
      ∃ u : State, exec (.statusReply address run speed fault) s = .next u.finish ∧ s.OnlyFan u n ∧
        u.line.inFlight = none ∧ u.link (.drive n) = {} ∧ u.fan n = f ∧ s.Quiet u ∧ u.alloc = s.alloc)

/-- R98, R101, R106: the table of states and replies of an extract damper, with the SET it queues, the entry it raises where
the list has room, and the entry it clears. The path is judged on the state so left, and the passes follow. R83, R90, R108,
R113: what that judgement (`reprove`) does: without a change nothing; at a gain of the path the grace timer stops and every
READY fan with start pending starts; at its loss with a fan turning PATH_LOST is raised and, outside smoke service, the grace
timer starts; either triggers a pass. -/
def Obligations.ExtractReplyJudgesTheDamper : Prop :=
  (∀ s : State, (s.PathSound → s.reprove = s) ∧
    (s.pathProven = false → (∃ z, s.ProvesPath z) →
      let v := s.reprove
      v.lasting = s.lasting ∧ v.plant = { s.plant with pathProven := true, grace := none } ∧
      v.alloc = { s.alloc with due := true } ∧ v.alarms = s.alarms ∧ v.ports = s.ports ∧ (∀ d, v.link d = s.link d) ∧
      ∀ n,
        let waits := (s.fan n).state = .ready ∧ (s.fan n).startPending = true
        v.fan n = (if waits then (s.fan n).readied true s.alloc.record else s.fan n) ∧
        (waits → (s.fan n).config.fitted = true → (s.link (.drive n)).lost = false →
          .run n (if (s.fan n).mode = some .fixed then 100 else s.alloc.record.speed) s.alloc.record.smoke ∈ v.line.queue)) ∧
    (s.pathProven = true → (¬∃ z, s.ProvesPath z) →
      let v := { s with pathProven := false, alloc := { s.alloc with due := true } }
      (¬s.AnyTurning → s.reprove = v) ∧
      (s.AnyTurning → s.resolver.smoke = true → s.reprove = v.raiseAll .pathLost) ∧
      (s.AnyTurning → s.resolver.smoke = false → s.reprove = State.raiseAll { v with grace := some 10 } .pathLost))) ∧
  ∀ (address position flag : Byte) (z : ZoneId) (order : Option Order) (s : State),
    s.line.inFlight = some ⟨.extract z, order, false⟩ → address.toNat = 97 + z.val →
    let feedback := min 100 position.toNat
    let d := { s.extractOf z with feedback := some feedback, fault := decide (flag ≠ 0) }
    let inBand := feedback ≤ d.command + 5 ∧ d.command ≤ feedback + 5
    let travels := { d with state := .moving, timer := some (s.zone z).config.travelLimit }
    let fails := { d with state := .fault, timer := none }
    let settles := { d with state := .settled, timer := none }
    ∃ u : State, exec (.extractReply address position flag) s = .next u.reprove.finish ∧ s.OnlyExtract u z ∧
      u.line.inFlight = none ∧ u.link (.extract z) = {} ∧
      u.extractOf z =
        (match d.state with
        | .lost => travels
        | .moving => if flag ≠ 0 then fails else if inBand then settles else d
        | .settled => if flag ≠ 0 then fails else if inBand then d else travels
        | .fault => if flag ≠ 0 then d else if inBand then settles else d) ∧
      (u.extractOf z = travels → (s.zone z).config.fitted = true → d.state = .lost ∨ d.state = .settled →
        .set z d.command ∈ u.line.queue) ∧
      (d.state = .moving ∨ d.state = .settled → flag ≠ 0 → s.Faults u (extractKey z) none ∧ u.noticedByAll .deviceFault ∧
        (s.alarms.Sound → s.alarms.entries.length < 32 → u.alarms.hasActive (extractKey z) = true)) ∧
      (d.state = .moving ∨ d.state = .fault → flag = 0 → inBand → s.Clears u (extractKey z) ∧
        (s.alarms.Sound → u.alarms.hasActive (extractKey z) = false)) ∧
      (d.state = .lost ∨ (d.state = .settled ∧ flag = 0) ∨ (d.state = .moving ∧ flag = 0 ∧ ¬inBand) ∨
        (d.state = .fault ∧ (flag ≠ 0 ∨ ¬inBand)) → s.Quiet u)

/-- R103, R105, R106: the cases of a make-up damper's reply in order, before the passes. -/
def Obligations.MakeUpReplyJudgesTheDamper : Prop :=
  ∀ (address openSwitch closedSwitch flag : Byte) (z : ZoneId) (order : Option Order) (s : State),
    s.line.inFlight = some ⟨.makeUp z, order, false⟩ → address.toNat = 113 + z.val →
    let m := { s.makeUpOf z with
      openSwitch := some (decide (openSwitch ≠ 0)), closedSwitch := some (decide (closedSwitch ≠ 0)),
      fault := decide (flag ≠ 0) }
    let atEnd := if m.command = .open_ then openSwitch ≠ 0 ∧ closedSwitch = 0 else closedSwitch ≠ 0 ∧ openSwitch = 0
    let faulty := flag ≠ 0 ∨ (openSwitch ≠ 0 ∧ closedSwitch ≠ 0)
    let travels := { m with state := if m.command = .open_ then .opening else .closing, timer := some 60 }
    let order := if m.command = .open_ then Order.openUp z else Order.close z
    ∃ u : State, exec (.makeUpReply address openSwitch closedSwitch flag) s = .next u.finish ∧ s.OnlyMakeUp u z ∧
      u.line.inFlight = none ∧ u.link (.makeUp z) = {} ∧
      (m.state = .lost → s.Quiet u ∧ u.makeUpOf z = travels ∧ ((s.zone z).config.fitted = true → order ∈ u.line.queue)) ∧
      (m.state ≠ .lost → faulty →
        if m.state = .fault then u.makeUpOf z = m ∧ s.Quiet u
        else u.makeUpOf z = { m with state := .fault, timer := none } ∧ s.Faults u (makeUpKey z) none ∧
          u.noticedByAll .deviceFault ∧
          (s.alarms.Sound → s.alarms.entries.length < 32 → u.alarms.hasActive (makeUpKey z) = true)) ∧
      (m.state ≠ .lost → ¬faulty → atEnd →
        u.makeUpOf z = { m with state := if m.command = .open_ then .open_ else .closed, timer := none } ∧
          s.Clears u (makeUpKey z) ∧
          (s.alarms.Sound → u.alarms.hasActive (makeUpKey z) = false)) ∧
      (m.state ≠ .lost → ¬faulty → ¬atEnd →
        if m.state = .open_ ∨ m.state = .closed then
          s.Quiet u ∧ u.makeUpOf z = travels ∧ ((s.zone z).config.fitted = true → order ∈ u.line.queue)
        else u.makeUpOf z = m ∧ s.Quiet u)

/-- R145, R150: a reply while no exchange is in flight, from another address or of a kind its device does not send, and a
discarded frame change nothing. An expiry whose timer does not run changes nothing (log 10). -/
def Obligations.DiscardedRepliesAndStoppedTimersChangeNothing : Prop :=
  ∀ s : State,
    (∀ address : Byte, (∀ x, s.line.inFlight = some x → x.device.address ≠ address.toNat) →
      (∀ status co no2, exec (.headReply address status co no2) s = .next s) ∧
      (∀ run speed fault, exec (.statusReply address run speed fault) s = .next s) ∧
      (∀ run speed fault mode minSpeed cls, exec (.abilityReply address run speed fault mode minSpeed cls) s = .next s) ∧
      (∀ position flag, exec (.extractReply address position flag) s = .next s) ∧
      ∀ o c flag, exec (.makeUpReply address o c flag) s = .next s) ∧
    (∀ x, s.line.inFlight = some x →
      ((∀ h, x.device ≠ .head h) → ∀ a status co no2, exec (.headReply a status co no2) s = .next s) ∧
      ((∀ n, x.device ≠ .drive n) → ∀ a run speed fault, exec (.statusReply a run speed fault) s = .next s ∧
        ∀ mode minSpeed cls, exec (.abilityReply a run speed fault mode minSpeed cls) s = .next s) ∧
      ((∀ z, x.device ≠ .extract z) → ∀ a position flag, exec (.extractReply a position flag) s = .next s) ∧
      ((∀ z, x.device ≠ .makeUp z) → ∀ a o c flag, exec (.makeUpReply a o c flag) s = .next s)) ∧
    (∀ cause, exec (.fieldFrameDiscarded cause) s = .next s) ∧
    (s.line.inFlight = none → exec .replyTimeout s = .next s) ∧
    (∀ z, ((s.zone z).fall = none → exec (.fallTimerExpiry z) s = .next s) ∧
      ((s.zone z).boost = none → exec (.boostExpiry z) s = .next s) ∧
      ((s.extractOf z).timer = none ∨ (s.extractOf z).state ≠ .moving → exec (.extractTravelTimerExpiry z) s = .next s) ∧
      ((s.makeUpOf z).timer = none ∨ ((s.makeUpOf z).state ≠ .opening ∧ (s.makeUpOf z).state ≠ .closing) →
        exec (.makeUpTravelTimerExpiry z) s = .next s)) ∧
    (∀ n, ((s.fan n).timer = none ∨ (s.fan n).state ≠ .starting → exec (.startLimitExpiry n) s = .next s) ∧
      ((s.fan n).timer = none ∨ (s.fan n).state ≠ .stopping → exec (.stopLimitExpiry n) s = .next s) ∧
      ((s.fan n).timer = none ∨ (s.fan n).state ≠ .restartHold → exec (.restartHoldExpiry n) s = .next s) ∧
      ((s.fan n).timer = none ∨ (s.fan n).state ≠ .enrolHold → exec (.enrolHoldExpiry n) s = .next s)) ∧
    (s.plan.purge = none → exec .purgeTimerExpiry s = .next s) ∧ (s.grace = none → exec .graceTimerExpiry s = .next s) ∧
    (s.alloc.stageDown = none → exec .stageDownTimerExpiry s = .next s) ∧
    (s.alloc.window = none → exec .startUpWindowEnd s = .next s) ∧
    ∀ p, (s.port p).silence = none → exec (.silenceTimerExpiry p) s = .next s

/-- R13, R15, R89, R101, R105, R150, R151, R153: a reply timeout counts one miss of its device and one of a head's total; the
third of a device that is not lost declares the loss, drops its commands and hands it to the owner; otherwise the command
sent is queued again, and nothing else changes. A lost head is MISSING and its zone follows by R16 to R20; a lost fan or
damper is LOST, and of an extract damper the path is then judged; no other object changes, and the entry of a new loss is
ACTIVE where it stood before or the list has room. The timeout of an exchange with a device no longer fitted counts none. That
the gas values of a lost head's zone follow while it is not fitted too is the model's choice (log 22). -/
def Obligations.ReplyTimeoutCountsMisses : Prop :=
  ∀ (d : Device) (order : Option Order) (s : State), (∀ o, order = some o → o.device = d) →
    (s.line.inFlight = some ⟨d, order, true⟩ →
      exec .replyTimeout s = .next (State.finish { s with line := { s.line with inFlight := none } })) ∧
    (s.line.inFlight = some ⟨d, order, false⟩ →
      let k := s.link d
      let counted : Head → Head := fun q => { q with misses := if q.misses < 65535 then q.misses + 1 else q.misses }
      let after := fun (link : Link) (queue : List Order) =>
        { s with
          heads := match d with
            | .head h => upd s.heads h counted
            | .drive _ | .extract _ | .makeUp _ => s.heads
          line := { s.line with links := upd s.line.links d.place fun _ => link, queue := queue, inFlight := none } }
      (k.misses < 2 ∨ k.lost = true → exec .replyTimeout s = .next (State.finish
        (after { k with misses := if k.misses < 3 then k.misses + 1 else k.misses } (match order with
          | none => s.line.queue
          | some o =>
            if (∃ x ∈ s.line.queue, x.device = d) ∨ s.deviceFitted d = false ∨ k.lost = true then s.line.queue
            else s.line.queue ++ [o])))) ∧
      (2 ≤ k.misses → k.lost = false →
        let w := after ⟨3, true⟩ (s.line.queue.filter fun o => o.device ≠ d)
        let listed := fun (u : State) (key : AlarmKey) (detail : Option FanDetail) =>
          s.Faults u key detail ∧ u.noticedByAll .deviceFault ∧
          (s.alarms.has key = true ∨ s.alarms.entries.length < 32 → u.alarms.hasActive key = true)
        match d with
        | .head h =>
          let z := (s.head h).config.zone
          ∃ u : State, exec .replyTimeout s = .next u.finish ∧
            u.lasting = { w.lasting with heads := u.heads, zones := u.zones } ∧ u.plant = s.plant ∧ u.fans = s.fans ∧
            u.line = w.line ∧ u.head h = { counted (s.head h) with state := .missing, co := none, no2 := none } ∧
            (∀ j, j ≠ h → u.head j = s.head j) ∧ (∀ y, y ≠ z → u.zone y = s.zone y) ∧
            u.WorkedOut z (s.zone z) ∧
            u.alloc = { s.alloc with due := s.alloc.due || (u.zone z).demand != (s.zone z).demand } ∧
            ((s.head h).state = .missing → s.Quiet u) ∧
            ((s.head h).state ≠ .missing → listed u (.headFault h) none)
        | .drive n =>
          let f := s.fan n
          (f.state = .absent ∨ f.state = .lost → exec .replyTimeout s = .next w.finish) ∧
          (f.state ≠ .absent → f.state ≠ .lost → ∃ u : State, exec .replyTimeout s = .next u.finish ∧ w.OnlyFan u n ∧
            u.line = w.line ∧
            u.fan n = { f with state := .lost, timer := none, startPending := false, reenrolPending := false,
                               plainAnswers := 0, speedCmd := 0, smokeSent := false } ∧
            (f.state ∈ [.ready, .starting, .running] → u.alloc.due = true) ∧ listed u (.fanFault n) (some .lost) ∧
            ∀ e ∈ u.alarms.entries, e.key = .fanFault n → e.detail = some .lost)
        | .extract z =>
          ((s.extractOf z).state = .lost → exec .replyTimeout s = .next w.finish) ∧
          ((s.extractOf z).state ≠ .lost → ∃ u : State, exec .replyTimeout s = .next u.reprove.finish ∧ w.OnlyExtract u z ∧
            u.line = w.line ∧ u.extractOf z = { s.extractOf z with state := .lost, timer := none } ∧ listed u (extractKey z) none)
        | .makeUp z =>
          ((s.makeUpOf z).state = .lost → exec .replyTimeout s = .next w.finish) ∧
          ((s.makeUpOf z).state ≠ .lost → ∃ u : State, exec .replyTimeout s = .next u.finish ∧ w.OnlyMakeUp u z ∧
            u.line = w.line ∧ u.makeUpOf z = { s.makeUpOf z with state := .lost, timer := none } ∧ listed u (makeUpKey z) none)))

/-- R145, R146, R148, R153: the exchange that follows, chosen at the end of the step: the head of the queue while fewer than
four commands in a row have gone, where an OFFER for a fan in ENROL_HOLD waits in its place and is passed over, since R80 has
none sent (the model's choice, log 23); otherwise a poll at the poll position, which moves to the next device; a rebuilt list holds
the fitted devices in address order, with the position above the device last polled. The reply to an exchange whose device
has ceased to be fitted ends the exchange and is handed to no owner (DEDUCED, log 14). That the choice is taken once, after
the passes, is DEDUCED too (log 4). -/
def Obligations.ExchangesEndAndFollow : Prop :=
  let follows := fun (l : List Device) (last : Option Device) (d : Device) => d ∈ l ∧
    ((∃ k, last = some k ∧ k.address < d.address ∧ ∀ x ∈ l, k.address < x.address → d.address ≤ x.address) ∨
      ((∀ k, last = some k → ∀ x ∈ l, x.address ≤ k.address) ∧ ∀ x ∈ l, d.address ≤ x.address))
  (∀ s : State, s.finish = s.settle.chooseExchange) ∧
  (∀ s : State, s.line.pollList = s.fittedDevices →
    let l := s.line
    (l.inFlight.isSome = true → s.chooseExchange = s) ∧
    let held := fun o : Order => ∃ n, o = .offer n ∧ (s.fan n).state = .enrolHold
    (l.inFlight = none → ∀ before o after, l.queue = before ++ o :: after → (∀ x ∈ before, held x) → ¬held o → l.row < 4 →
      s.chooseExchange = { s with line := { l with
        queue := before ++ after, row := l.row + 1, inFlight := some ⟨o.device, some o, false⟩ } }) ∧
    (l.inFlight = none → (∀ o ∈ l.queue, held o) ∨ 4 ≤ l.row →
      (l.pollList = [] → s.chooseExchange = s) ∧
      ∀ d ∈ l.pollList, l.position = some d → ∃ next, follows l.pollList (some d) next ∧
        s.chooseExchange = { s with line := { l with
          row := 0, lastPolled := some d, position := some next, inFlight := some ⟨d, none, false⟩ } })) ∧
  (∀ s : State,
    let l := s.rebuildPolls.line
    s.rebuildPolls = { s with line := { s.line with pollList := l.pollList, position := l.position } } ∧
    l.pollList.Pairwise (fun a b => a.address < b.address) ∧ (∀ d, d ∈ l.pollList ↔ s.deviceFitted d = true) ∧
    (l.pollList ≠ [] → ∃ d, l.position = some d ∧ follows l.pollList s.line.lastPolled d)) ∧
  ∀ (d : Device) (order : Option Order) (s : State), s.line.inFlight = some ⟨d, order, true⟩ →
    let ended := Host.Outcome.next (φ := Fault) (ρ := Refusal)
      (State.finish { s with line := { s.line with inFlight := none } })
    ∀ a : Byte, a.toNat = d.address → match d with
      | .head _ => ∀ status co no2, exec (.headReply a status co no2) s = ended
      | .drive _ => ∀ run speed fault, exec (.statusReply a run speed fault) s = ended ∧
          ∀ mode minSpeed cls, exec (.abilityReply a run speed fault mode minSpeed cls) s = ended
      | .extract _ => ∀ position flag, exec (.extractReply a position flag) s = ended
      | .makeUp _ => ∀ o c flag, exec (.makeUpReply a o c flag) s = ended

/-! ### Timers (R20, R23, R80, R84 to R86, R90, R100, R104, R116, R124, R125, R159, R160) -/

/-- R20, R23: the expiry of the fall timer lowers the demand by 5 points but not below the target; the expiry of a boost ends
it, and the demand follows the new target; the rest of the zone's row stays. R100, R104, R106: the expiry of a travel timer faults the damper; of an extract
damper the path is then judged. -/
def Obligations.ZoneTimersActAtTheirExpiry : Prop :=
  (∀ (z : ZoneId) (s : State),
    let q := s.zone z
    (q.fall.isSome = true →
      let d := max q.target (q.demand - 5)
      exec (.fallTimerExpiry z) s = .next (State.finish { s with
        zones := upd s.zones z fun _ => { q with demand := d, fall := if q.target < d then some 10 else none },
        alloc := { s.alloc with due := s.alloc.due || d != q.demand } })) ∧
    (q.boost.isSome = true →
      ∃ u : State, exec (.boostExpiry z) s = .next u.finish ∧ u.lasting = { s.lasting with zones := u.zones } ∧ u.plant = s.plant ∧
        u.fans = s.fans ∧ s.Quiet u ∧ u.line = s.line ∧
        (∀ w, w ≠ z → u.zone w = s.zone w) ∧ { q with boost := none }.Follows (u.zone z) ∧
        u.alloc = { s.alloc with due := s.alloc.due || (u.zone z).demand != q.demand })) ∧
  ∀ (z : ZoneId) (s : State),
    let listed := fun (u : State) (k : AlarmKey) => s.Faults u k none ∧ u.noticedByAll .deviceFault ∧
      (s.alarms.Sound → s.alarms.entries.length < 32 → u.alarms.hasActive k = true)
    ((s.extractOf z).state = .moving → (s.extractOf z).timer.isSome = true →
      ∃ u : State, exec (.extractTravelTimerExpiry z) s = .next u.reprove.finish ∧ s.OnlyExtract u z ∧ u.line = s.line ∧
        u.extractOf z = { s.extractOf z with state := .fault, timer := none } ∧ listed u (extractKey z)) ∧
    ((s.makeUpOf z).state = .opening ∨ (s.makeUpOf z).state = .closing → (s.makeUpOf z).timer.isSome = true →
      ∃ u : State, exec (.makeUpTravelTimerExpiry z) s = .next u.finish ∧ s.OnlyMakeUp u z ∧ u.line = s.line ∧
        u.makeUpOf z = { s.makeUpOf z with state := .fault, timer := none } ∧ listed u (makeUpKey z))

/-- R80, R83 to R87, R89: the expiries of a fan's timers, before the passes they lead to; the end of a restart hold clears the
fan's FAN_FAULT entry. R90: the expiry of the grace timer stops
every turning fan with start pending and triggers no pass. -/
def Obligations.FanAndGraceTimersActAtTheirExpiry : Prop :=
  (∀ (n : FanId) (s : State), (s.fan n).timer.isSome = true →
    let f := s.fan n
    let trips := fun (c : Instr) (detail : FanDetail) => ∃ u : State, exec c s = .next u.finish ∧ s.OnlyFan u n ∧
      u.link (.drive n) = s.link (.drive n) ∧ s.Tripped u n f detail
    (f.state = .starting → trips (.startLimitExpiry n) .startFail) ∧
    (f.state = .stopping → trips (.stopLimitExpiry n) .stopFail) ∧
    (f.state = .restartHold → ∃ u : State, exec (.restartHoldExpiry n) s = .next u.finish ∧ s.OnlyFan u n ∧
      u.link (.drive n) = s.link (.drive n) ∧ s.Readied u n f ∧ s.Clears u (.fanFault n)) ∧
    (f.state = .enrolHold → ∃ u : State, exec (.enrolHoldExpiry n) s = .next u.finish ∧ s.OnlyFan u n ∧ u.fan n = f.enrols ∧
      s.Quiet u ∧
      (f.config.fitted = true → (s.link (.drive n)).lost = false → .offer n ∈ u.line.queue))) ∧
  ∀ s : State, s.grace.isSome = true →
    ∃ u : State, exec .graceTimerExpiry s = .next u.finish ∧ u.lasting = s.lasting ∧ u.plant = { s.plant with grace := none } ∧
      u.alloc = s.alloc ∧ s.Quiet u ∧ (∀ d, u.link d = s.link d) ∧
      ∀ n, u.fan n = (if (s.fan n).state = .starting ∨ (s.fan n).state = .running then
          { (s.fan n).stopped with startPending := true } else s.fan n) ∧
        ((s.fan n).state = .starting ∨ (s.fan n).state = .running → (s.fan n).config.fitted = true →
          (s.link (.drive n)).lost = false → .stop n ∈ u.line.queue)

/-- R116, R124, R125: a pass holds the previous run set exactly where it is not the pass of the stage-down timer's expiry, smoke
service is not in force, the set is not empty, every fan of it is eligible, it has more fans than the stage selection chose
and its power at the speed R asks of it is within the budget. A held record runs it in the order of the duty list at that
speed; the timer runs exactly while the record is held. The expiry of the stage-down timer takes a pass that holds nothing,
and the end of the start-up window triggers one. A resolved minimum speed that no run leaves absent reads as 0 (DESIGN
CHOICE, log 19). -/
def Obligations.StageHoldAndItsExpiry : Prop :=
  (∀ (s : State) (atExpiry : Bool),
    let u := s.pass atExpiry
    let r := u.alloc.record
    let prev := s.alloc.record.runSet
    let cap := (prev.map fun n => (s.fan n).config.flow).sum
    let low := (prev.map fun n => ((s.fan n).minSpeed).getD 0).foldl max 0
    let speed := clampTo low 100 (ceilDiv (100 * r.required) cap)
    let power := (prev.map fun n => ceilDiv ((s.fan n).config.power * speed ^ 3) 1000000).sum
    u.lasting = s.lasting ∧ u.alloc.stageDown.isSome = r.held ∧
    (r.held = true ↔ atExpiry = false ∧ s.resolver.smoke = false ∧ prev ≠ [] ∧ (∀ n ∈ prev, s.eligible n = true) ∧
      s.selectStage.fans.length < prev.length ∧
      power ≤ match s.alloc.supply with
        | .mains => s.alloc.normal
        | .standby => s.alloc.standby) ∧
    (r.held = true → u.alloc.stageDown = some (s.alloc.stageDown.getD 60) ∧
      r.runSet = s.duty.filter (fun n => n ∈ prev) ∧ r.speed = speed ∧
      (s.DutySound → r.runSet.Perm prev ∧ r.power = power)) ∧
    (r.held = false → r.runSet = s.selectStage.fans ∧ r.speed = s.selectStage.speed)) ∧
  (∀ s : State, s.alloc.stageDown.isSome = true →
    exec .stageDownTimerExpiry s = .next (s.pass true).finish ∧ (s.pass true).alloc.record.held = false) ∧
  ∀ s : State, s.alloc.window.isSome = true →
    exec .startUpWindowEnd s = .next (State.finish { s with alloc := { s.alloc with window := none, due := true } })

/-- R159, R160: the expiry of a silence timer makes the link LOST with its entry and notice; of the building link it ends
every boost, and of another link nothing else. A zone whose boost ends has its target recomputed, its demand follows, and the
rest of its row stays. -/
def Obligations.SilenceLosesTheLink : Prop :=
  ∀ (p : Port) (s : State), (s.port p).silence.isSome = true →
    ∃ u : State, exec (.silenceTimerExpiry p) s = .next u.finish ∧
      u.lasting = { s.lasting with
        ports := s.lasting.ports.upd p (fun q => { q with link := .lost, silence := none }), zones := u.zones } ∧
      u.plant = s.plant ∧ u.fans = s.fans ∧ u.line = s.line ∧ u.noticedByAll .linkLost ∧
      s.KeepsRest u [.linkLost p] [.linkLost, .listFull] ∧
      (s.alarms.Sound → s.alarms.entries.length < 32 → u.alarms.hasActive (.linkLost p) = true) ∧
      (p ≠ .building → u.zones = s.zones) ∧
      (p = .building → ∀ z, ((s.zone z).boost = none → u.zone z = s.zone z) ∧
        ((s.zone z).boost.isSome = true → { s.zone z with boost := none }.Follows (u.zone z)))

/-- R2: a tick adds 1 to part time, which holds at its last value, and takes one second from every running timer; the last
second ends by the timer's own expiry (log 6). Nothing else changes. -/
def Obligations.TickCountsOneSecond : Prop :=
  ∀ s : State,
    let less := Option.map fun k : Nat => if 1 < k then k - 1 else k
    exec .partTimeTick s = .next { s with
      partTime := if s.partTime < 4294967295 then s.partTime + 1 else s.partTime,
      zones := s.zones.map (fun q =>
        { q with fall := less q.fall, boost := q.boost.map fun b => { b with left := if 1 < b.left then b.left - 1 else b.left } }),
      plan := { s.plan with purge := less s.plan.purge },
      fans := s.fans.map (fun f => { f with timer := less f.timer }),
      grace := less s.grace,
      extract := s.extract.map (fun d => { d with timer := less d.timer }),
      makeUp := s.makeUp.map (fun m => { m with timer := less m.timer }),
      alloc := { s.alloc with stageDown := less s.alloc.stageDown, window := less s.alloc.window },
      ports := s.ports.map (fun q => { q with silence := less q.silence }) }

/-! ### Resets (R29, R36, R37, R72, R74, R112, R142, R154, R164, R176 to R178) -/

/-- R177, R178: power-on and the reset line have the same effect, from every state and whatever became of the store. What
became of it is an operand of the two commands (`StoreCut`: DESIGN CHOICE, log 9), and `response := none` says that the
model's response register is empty after a reset (DESIGN CHOICE, log 2). u is the part before the one pass of step 9, with the
dampers, the record and the queue of commands at their values after a reset (R97, R102, R111, R154). -/
def Obligations.ResetLeavesTheVolatileValues : Prop :=
  ∀ (cut : StoreCut) (s : State),
    ∃ u t : State, exec (.powerOn cut) s = .next t ∧ exec (.resetLine cut) s = .next t ∧
      t = { u.finish with pending := s.pending } ∧ u.alloc.due = true ∧
      (∀ z, u.extractOf z =
          { command := 0, feedback := none, fault := false, state := .moving,
            timer := if (u.zone z).config.fitted then some (u.zone z).config.travelLimit else none } ∧
        u.makeUpOf z =
          { command := .closed, openSwitch := none, closedSwitch := none, fault := false, state := .closing,
            timer := if (u.zone z).config.fitted then some 60 else none } ∧
        u.indications[z.val] = (if u.role z = .gas then .normal else .activePending)) ∧
      u.alloc.record =
        { runSet := [], speed := 0, power := 0, required := 0, delivered := 0, flags := {}, held := false, smoke := false, cls := 1,
          zones := Vector.ofFn fun z => if (u.zone z).config.fitted then some ⟨0, 0, 0, .closed⟩ else none } ∧
      (let zones := (List.finRange 16).filter fun z => (u.zone z).config.fitted
      u.line = { pollList := u.fittedDevices, position := u.fittedDevices.head?, lastPolled := none,
                 queue := zones.map (fun z => .set z 0) ++ zones.map .close ++
                   ((List.finRange 8).filter fun n => (u.fan n).config.fitted).map .offer,
                 row := 0, links := Vector.replicate 88 {}, inFlight := none }) ∧
      t.alloc.record.runSet = [] ∧ t.pending = s.pending ∧ t.partTime = 0 ∧
      (∀ z, (t.zone z).boost = none ∧ (t.zone z).target = (t.zone z).config.floor ∧
        (t.zone z).demand = (t.zone z).config.floor ∧ (t.zone z).co.high = false ∧ (t.zone z).no2.high = false ∧
        (t.zone z).co.count = 0 ∧ (t.zone z).no2.count = 0 ∧ (t.zone z).highEvents = 0) ∧
      (∀ h, t.head h = { config := (t.head h).config }) ∧
      t.plan.level = .none ∧ t.plan.fireSet = 0 ∧ t.plan.cause = none ∧ t.plan.purge = none ∧
      t.plan.current = t.plan.base ∧ t.plan.saved = t.plan.base ∧
      t.resolver.control = .notInControl ∧ (∀ z : ZoneId, t.resolver.overrides[z.val] = none) ∧
      (∀ n : FanId, t.resolver.blocks[n.val] = false) ∧ t.RolesSound ∧
      (∀ n, t.fan n = { config := (t.fan n).config, state := if (t.fan n).config.fitted then .enrolling else .absent }) ∧
      t.duty = (List.finRange 8).filter (fun n => (t.fan n).config.fitted) ∧ t.grace = none ∧ t.pathProven = false ∧
      t.alloc.supply = .mains ∧ t.alloc.window = some 60 ∧ t.alloc.stageDown = none ∧
      t.alarms.cursors = ⟨0, 0, 0⟩ ∧ (∀ d, t.link d = {}) ∧ t.line.pollList = t.fittedDevices ∧
      ∀ p, t.noticed .restarted p ∧ (t.port p).line = true ∧ (t.port p).lasting =
        { link := .up, silence := some (Config.silenceLimit p), decoder := .waiting, masked := 0, holdOff := false,
          response := none }

/-- R37, R175 to R177: at a reset the groups of a sound store load as they stood, but for those that the cut-off work spoiled:
each group found damaged takes its defaults, its entry and STORE_FAULT, and of a FACTORY CLEAR cut off in group g the groups
before g hold their defaults and group g is found damaged. A base plan so loaded that names a SMOKE bank is replaced by the
lowest NORMAL one, with group 6 stored and reported. What became of the store is an operand of POWER_ON (DESIGN CHOICE,
log 9). -/
def Obligations.ResetLoadsTheStore : Prop :=
  ∀ s : State, s.StoreSound → s.IncidentSound →
    (∃ t, exec (.powerOn .clean) s = .next t ∧ t.store = s.store ∧ t.alarms.entries = [] ∧ t.alarms.counter = 1 ∧
      (∀ z, (t.zone z).config = (s.zone z).config) ∧ (∀ h, (t.head h).config = (s.head h).config) ∧
      (∀ n, (t.fan n).config = (s.fan n).config) ∧ t.plan.banks = s.plan.banks ∧ t.plan.map = s.plan.map ∧
      t.plan.base = s.plan.base ∧ t.resolver.closures = s.resolver.closures ∧ t.alloc.normal = s.alloc.normal ∧
      t.alloc.standby = s.alloc.standby) ∧
    ∀ cut : StoreCut,
      let damaged : GroupId → Prop := fun g => match cut with
        | .clean => False
        | .damaged gs => g ∈ gs
        | .factoryClear k => g = k
      let cleared : GroupId → Prop := fun g => match cut with
        | .clean => False
        | .damaged gs => g ∈ gs
        | .factoryClear k => g ≤ k
      let kind := fun (t : State) (k : PlanId) => (t.bank k).kind
      ∃ (t : State) (loaded : PlanId), exec (.powerOn cut) s = .next t ∧ t.StoreSound ∧
        (∀ z, (cleared 0 → (t.zone z).config = {}) ∧ (¬cleared 0 → (t.zone z).config = (s.zone z).config)) ∧
        (∀ h, (cleared 1 → (t.head h).config = defaultHead h) ∧ (¬cleared 1 → (t.head h).config = (s.head h).config)) ∧
        (∀ n, (cleared 2 → (t.fan n).config = {}) ∧ (¬cleared 2 → (t.fan n).config = (s.fan n).config)) ∧
        (cleared 3 → t.plan.banks = defaultPlans.banks ∧ t.plan.map = Vector.replicate 16 none) ∧
        (¬cleared 3 → t.plan.banks = s.plan.banks ∧ t.plan.map = s.plan.map) ∧
        (cleared 4 → t.alloc.normal = 1000 ∧ t.alloc.standby = 600) ∧
        (¬cleared 4 → t.alloc.normal = s.alloc.normal ∧ t.alloc.standby = s.alloc.standby) ∧
        (cleared 5 → loaded = 0 ∧ t.resolver.closures = Vector.replicate 16 false) ∧
        (¬cleared 5 → loaded = s.plan.base ∧ t.resolver.closures = s.resolver.closures) ∧
        (kind t loaded = .normal → t.plan.base = loaded) ∧
        (kind t loaded = .smoke → kind t t.plan.base = .normal ∧ ∀ k, k < t.plan.base → kind t k = .smoke) ∧
        ∀ g, (t.alarms.hasActive (.storeFault g) = true ↔ damaged g ∨ (g = 5 ∧ kind t loaded = .smoke)) ∧
          (t.alarms.hasActive (.storeFault g) = true → t.noticedByAll .storeFault)

/-! ### Passes (R113 to R131) -/

/-- R117, R126 to R131: the record of a pass gives each fitted zone its required flow, its share of the delivered flow and
its two damper commands, and FLOW_SHORT is raised for a shortage flag the last record did not have. -/
def Obligations.PassGivesEachZoneItsAir : Prop :=
  ∀ (s : State) (atExpiry : Bool),
    let u := s.pass atExpiry
    let r := u.alloc.record
    let want := fun z => if (s.zone z).config.fitted = false then 0 else
      match s.role z with
      | .gas => ((s.zone z).config.qn * (s.zone z).demand + 99) / 100
      | .extract => (s.zone z).config.qs
      | .isolate => 0
      | .makeUp => 0
    let total := fun (role : Role) => ∑ z : ZoneId, if s.role z = role then want z else 0
    let part := fun wanted flow all => if flow < all then wanted * flow / all else wanted
    let smokeShare := ∑ z : ZoneId, if s.role z = .extract then part (want z) r.delivered (total .extract) else 0
    r.required = ∑ z : ZoneId, want z ∧
    r.delivered = (r.runSet.map fun n => (s.fan n).config.flow * r.speed / 100).sum ∧
    (∀ z : ZoneId, ((s.zone z).config.fitted = false → r.zones[z.val] = none) ∧
      ((s.zone z).config.fitted = true → ∃ e, r.zones[z.val] = some e ∧ e.required = want z ∧
        match s.role z with
        | .extract => e.allotment = part (want z) r.delivered (total .extract) ∧ e.extract = 100 ∧ e.makeUp = .open_
        | .isolate => e.allotment = 0 ∧ e.extract = 0 ∧ e.makeUp = .closed
        | .makeUp => e.allotment = 0 ∧ e.extract = 0 ∧ e.makeUp = .open_
        | .gas => e.allotment = part (want z) (r.delivered - smokeShare) (total .gas) ∧
          (r.runSet = [] → e.extract = 0 ∧ e.makeUp = .closed) ∧
          (r.runSet ≠ [] → e.extract = min 100 (max (ceilDiv (100 * e.allotment) (s.zone z).config.qn)
              (s.zone z).config.minPosition) ∧
            e.makeUp = if 0 < e.extract then .open_ else .closed))) ∧
    ((r.flags.capped = true ∧ s.alloc.record.flags.capped = false) ∨
      (r.flags.noFans = true ∧ s.alloc.record.flags.noFans = false) ∨
      (r.flags.overBudget = true ∧ s.alloc.record.flags.overBudget = false) → u.noticedByAll .flowShort)

/-- R118 to R123, R126: who is eligible; a record that is not held runs the first eligible fans of the duty list, none
exactly where there is no required flow or no eligible fan, and by R121 the smallest stage, from the first that reaches the
flow, whose power at the speed the flow asks is within the budget. Where there is none, it is by R122 the stage of the least
power, of fewer fans where two share it, at the first lower speed within the budget; by R123 a stage above the budget at its
least speed drops its last fan, and a single fan above it is kept at its least speed and flagged. The speed lies between the least speed of every fan of the
run set and 100, and the four flags are as those rules say. A resolved class or minimum speed that no run leaves absent
reads as 0 (DESIGN CHOICE, log 19). -/
def Obligations.StageSelectionTakesTheFirstFans : Prop :=
  ∀ (s : State) (atExpiry : Bool), s.DutySound →
    let r := (s.pass atExpiry).alloc.record
    let waits := s.alloc.window.isSome = true ∧ s.resolver.smoke = false
    let low := fun n => ((s.fan n).minSpeed).getD 0
    let e := s.duty.filter s.eligible
    let cap := fun k => ((e.take k).map fun n => (s.fan n).config.flow).sum
    let least := fun k => ((e.take k).map low).foldl max 0
    let speed := fun k => clampTo (least k) 100 (ceilDiv (100 * r.required) (cap k))
    let draw := fun k x => ((e.take k).map fun n => ceilDiv ((s.fan n).config.power * x ^ 3) 1000000).sum
    let power := fun k => draw k (speed k)
    let b := match s.alloc.supply with
      | .mains => s.alloc.normal
      | .standby => s.alloc.standby
    (∀ n, s.eligible n = true ↔ (s.fan n).config.fitted = true ∧
      ((s.fan n).state ∈ [.ready, .starting, .running] ∨ (s.resolver.smoke = true ∧ (s.fan n).state = .restartHold)) ∧
      s.resolver.blocks[n.val] = false ∧ ((s.fan n).config.service = .inService ∨ s.plan.level ≠ .none) ∧
      (s.resolver.smoke = true → s.resolver.cls ≤ ((s.fan n).cls).getD 0) ∧ ¬waits) ∧
    (r.held = false → r.runSet <+: e ∧ (r.runSet = [] ↔ r.required = 0 ∨ e = [])) ∧
    (r.held = false → 0 < r.required → ∀ k0, 1 ≤ k0 → k0 ≤ e.length → (r.required ≤ cap k0 ∨ k0 = e.length) →
      (∀ j, 1 ≤ j → j < k0 → cap j < r.required) →
      (∀ k, k0 ≤ k → k ≤ e.length → power k ≤ b → (∀ j, k0 ≤ j → j < k → b < power j) →
        r.runSet = e.take k ∧ r.speed = speed k) ∧
      ((∀ j, k0 ≤ j → j ≤ e.length → b < power j) → ∀ m, k0 ≤ m → m ≤ e.length →
        (∀ j, k0 ≤ j → j ≤ e.length → power m < power j ∨ (power m = power j ∧ m ≤ j)) →
        (∀ k x, 1 ≤ k → k ≤ m → (∀ j, k < j → j ≤ m → b < draw j (least j)) → least k ≤ x → x ≤ speed k → draw k x ≤ b →
          (∀ y, x < y → y ≤ speed k → b < draw k y) → r.runSet = e.take k ∧ r.speed = x) ∧
        ((∀ j, 1 ≤ j → j ≤ m → b < draw j (least j)) →
          r.runSet = e.take 1 ∧ r.speed = least 1 ∧ r.flags.overBudget = true))) ∧
    (r.runSet = [] → r.speed = 0 ∧ r.power = 0 ∧ r.delivered = 0) ∧
    (r.runSet ≠ [] → (∀ n ∈ r.runSet, low n ≤ r.speed) ∧ ((∀ n, low n ≤ 100) → r.speed ≤ 100)) ∧
    (r.flags.capped = true ↔ r.runSet ≠ [] ∧ r.delivered < r.required) ∧
    (r.flags.noFans = true ↔ 0 < r.required ∧ e = [] ∧ ¬waits) ∧
    (r.flags.startUp = true ↔ 0 < r.required ∧ e = [] ∧ waits) ∧
    (r.flags.overBudget = true ↔ b < r.power)

/-- R82, R83, R89, R90, R93, R99, R104, R108, R131: what the handover of a pass does to every damper and every fan. The dampers take
their commands first and the path is judged on them; then each fan takes the record by its state, and an empty run set after
another turns the duty list over outside smoke service. -/
def Obligations.HandoverMovesDampersAndFans : Prop :=
  ∀ (s : State) (atExpiry : Bool), s.PathSound →
    let u := s.pass atExpiry
    let r := u.alloc.record
    let turning := fun n => (s.fan n).state = .starting ∨ (s.fan n).state = .running
    (∀ z : ZoneId, r.zones[z.val] = none → u.extractOf z = s.extractOf z ∧ u.makeUpOf z = s.makeUpOf z) ∧
    (∀ (z : ZoneId) e, r.zones[z.val] = some e →
      let d := s.extractOf z
      let m := s.makeUpOf z
      u.extractOf z = (if d.command = e.extract then d
        else if d.state = .lost then { d with command := e.extract }
        else { d with command := e.extract, state := .moving, timer := some (s.zone z).config.travelLimit }) ∧
      (d.command ≠ e.extract → d.state ≠ .lost → (s.link (.extract z)).lost = false → .set z e.extract ∈ u.line.queue) ∧
      u.makeUpOf z = (if m.command = e.makeUp then m
        else if m.state = .lost then { m with command := e.makeUp }
        else { m with command := e.makeUp, state := if e.makeUp = .open_ then .opening else .closing, timer := some 60 }) ∧
      (m.command ≠ e.makeUp → m.state ≠ .lost → (s.link (.makeUp z)).lost = false →
        (if e.makeUp = .open_ then Order.openUp z else Order.close z) ∈ u.line.queue)) ∧
    u.PathSound ∧ s.KeepsRest u fanFaults [.flowShort, .pathLost] ∧
    (s.pathProven = true → u.pathProven = false → (∃ n, turning n) →
      u.noticedByAll .pathLost ∧ (s.resolver.smoke = false → u.grace = some 10)) ∧
    (∀ n : FanId,
      let f := s.fan n
      let speed := if f.mode = some .fixed then 100 else r.speed
      let called := { f with startPending := true }
      u.fan n =
        (if n ∈ r.runSet then match f.state with
          | .ready => if u.pathProven = true then called.readied true r else called
          | .restartHold => if r.smoke = true then called.readied u.pathProven r else called
          | .starting | .running => { f with speedCmd := speed, smokeSent := r.smoke }
          | _ => f
        else match f.state with
          | .ready | .restartHold | .stopping => { f with startPending := false }
          | .starting | .running => f.stopped
          | _ => f) ∧
      (f.config.fitted = true → (s.link (.drive n)).lost = false →
        (n ∈ r.runSet → turning n → speed ≠ f.speedCmd ∨ r.smoke ≠ f.smokeSent → .run n speed r.smoke ∈ u.line.queue) ∧
        (n ∈ r.runSet → f.state = .ready ∨ (f.state = .restartHold ∧ r.smoke = true) → u.pathProven = true →
          .run n speed r.smoke ∈ u.line.queue) ∧
        (n ∉ r.runSet → turning n → .stop n ∈ u.line.queue)) ∧
      (n ∈ r.runSet → f.state = .restartHold → r.smoke = true → s.alarms.Sound →
        u.alarms.hasActive (.fanFault n) = false)) ∧
    u.duty = if r.runSet = [] ∧ s.alloc.record.runSet ≠ [] ∧ r.smoke = false then s.duty.drop 1 ++ s.duty.take 1 else s.duty

/-- R123: every step keeps the power of the record within the budget in force, but for a single fan with OVER_BUDGET. -/
def Obligations.PowerStaysWithinTheBudget : Prop :=
  ∀ s t : State, s.DutySound → s.alloc.due = false → s.PowerSound → step s = .next t → t.PowerSound

/-- R113, R131: a waiting trigger is taken by a pass, and the passes of its handovers follow; without one there is no pass.
From every state the chain ends: the last handover has raised no trigger. -/
def Obligations.EveryChainOfPassesEnds : Prop :=
  (∀ s : State, (s.alloc.due = true → s.settle = (s.pass false).settle) ∧ (s.alloc.due = false → s.settle = s)) ∧
  (∀ s : State, s.finish.alloc.due = false) ∧ ∀ s t : State, s.alloc.due = false → step s = .next t → t.alloc.due = false

/-! ### Invariants of the blocks, and the reset -/

/-- R74, R76, R92, R111: the duty list holds every fitted fan exactly once, and each fan's timer and resolved fields are as
its state says, at every step. -/
def Obligations.FanSequencerStaysSound : Prop :=
  ∀ s t : State, s.DutySound → s.FansSound → step s = .next t → t.DutySound ∧ t.FansSound

/-- R80, R100, R102, R108, R109, R146 to R153: the poll list, the queue and the miss counts of the line, and the timers, the
path and the indications of the dampers, at every step; and no OFFER is sent to a drive whose fan is in ENROL_HOLD: one that
is in flight was so before the step. -/
def Obligations.LineAndDampersStaySound : Prop :=
  ∀ s t : State, s.LineSound → s.DampersSound → step s = .next t → t.LineSound ∧ t.DampersSound ∧
    ∀ n x, (t.fan n).state = .enrolHold → t.line.inFlight = some x → x.order = some (.offer n) →
      ∃ y, s.line.inFlight = some y ∧ y.device = x.device ∧ y.order = x.order

/-- R5, R9, R16 to R20, R159, R164: the gas values, ramps and targets are those the heads and the records give, the demand
follows its target within 0 to 100, readings stand while a head is VALID, the silence timer runs while the link is UP and the
attention line is as R164 forms it, at every step. That the gas values, ramps and fallback flags of a zone that is not fitted
follow its heads too is the model's choice (log 22). -/
def Obligations.ZonesAndPortsStaySound : Prop :=
  ∀ s t : State, s.ZonesSound → s.PortsSound → step s = .next t → t.ZonesSound ∧ t.PortsSound

/-- The reset state, the model's choice (log 1), meets every invariant, among them those whose clauses on zones that are not
fitted (log 22) are the model's choice. -/
def Obligations.ResetMeetsEveryInvariant : Prop :=
  State.reset.alarms.Sound ∧ State.reset.DutySound ∧ State.reset.FansSound ∧ State.reset.LineSound ∧
    State.reset.DampersSound ∧ State.reset.IncidentSound ∧ State.reset.StoreSound ∧ State.reset.RolesSound ∧
    State.reset.FiresListed ∧ State.reset.ZonesSound ∧ State.reset.PortsSound ∧ State.reset.PowerSound ∧
    State.reset.alloc.due = false
end

