-- ==== Sys2Proof/Laws/State.lean ====
section
/-! SUPPORT. What each update of one block leaves as it stood: one lemma per field per update, and the same for the
accessors of one object. -/

namespace Sys2Proof.Machine

-- One proof at a time: with a thread for each the package as one text would not fit in memory.
set_option Elab.async false

variable (s : State)

/-! ### State.modZone -/
@[simp] theorem State.modZone_partTime (z : ZoneId) (f : Zone → Zone) : (s.modZone z f).partTime = s.partTime := rfl
@[simp] theorem State.modZone_heads (z : ZoneId) (f : Zone → Zone) : (s.modZone z f).heads = s.heads := rfl
@[simp] theorem State.modZone_plan (z : ZoneId) (f : Zone → Zone) : (s.modZone z f).plan = s.plan := rfl
@[simp] theorem State.modZone_resolver (z : ZoneId) (f : Zone → Zone) : (s.modZone z f).resolver = s.resolver := rfl
@[simp] theorem State.modZone_fans (z : ZoneId) (f : Zone → Zone) : (s.modZone z f).fans = s.fans := rfl
@[simp] theorem State.modZone_duty (z : ZoneId) (f : Zone → Zone) : (s.modZone z f).duty = s.duty := rfl
@[simp] theorem State.modZone_grace (z : ZoneId) (f : Zone → Zone) : (s.modZone z f).grace = s.grace := rfl
@[simp] theorem State.modZone_extract (z : ZoneId) (f : Zone → Zone) : (s.modZone z f).extract = s.extract := rfl
@[simp] theorem State.modZone_makeUp (z : ZoneId) (f : Zone → Zone) : (s.modZone z f).makeUp = s.makeUp := rfl
@[simp] theorem State.modZone_pathProven (z : ZoneId) (f : Zone → Zone) : (s.modZone z f).pathProven = s.pathProven := rfl
@[simp] theorem State.modZone_indications (z : ZoneId) (f : Zone → Zone) : (s.modZone z f).indications = s.indications := rfl
@[simp] theorem State.modZone_alloc (z : ZoneId) (f : Zone → Zone) : (s.modZone z f).alloc = s.alloc := rfl
@[simp] theorem State.modZone_alarms (z : ZoneId) (f : Zone → Zone) : (s.modZone z f).alarms = s.alarms := rfl
@[simp] theorem State.modZone_line (z : ZoneId) (f : Zone → Zone) : (s.modZone z f).line = s.line := rfl
@[simp] theorem State.modZone_ports (z : ZoneId) (f : Zone → Zone) : (s.modZone z f).ports = s.ports := rfl
@[simp] theorem State.modZone_store (z : ZoneId) (f : Zone → Zone) : (s.modZone z f).store = s.store := rfl
@[simp] theorem State.modZone_pending (z : ZoneId) (f : Zone → Zone) : (s.modZone z f).pending = s.pending := rfl
@[simp] theorem State.modZone_head (z : ZoneId) (f : Zone → Zone) (h' : HeadId) : (s.modZone z f).head h' = s.head h' := by
  simp [State.head]
@[simp] theorem State.modZone_fan (z : ZoneId) (f : Zone → Zone) (n' : FanId) : (s.modZone z f).fan n' = s.fan n' := by
  simp [State.fan]
@[simp] theorem State.modZone_extractOf (z : ZoneId) (f : Zone → Zone) (z' : ZoneId) : (s.modZone z f).extractOf z' = s.extractOf z' := by
  simp [State.extractOf]
@[simp] theorem State.modZone_makeUpOf (z : ZoneId) (f : Zone → Zone) (z' : ZoneId) : (s.modZone z f).makeUpOf z' = s.makeUpOf z' := by
  simp [State.makeUpOf]
@[simp] theorem State.modZone_port (z : ZoneId) (f : Zone → Zone) (p' : Port) : (s.modZone z f).port p' = s.port p' := by
  simp [State.port]

/-! ### State.modHead -/
@[simp] theorem State.modHead_partTime (h : HeadId) (f : Head → Head) : (s.modHead h f).partTime = s.partTime := rfl
@[simp] theorem State.modHead_zones (h : HeadId) (f : Head → Head) : (s.modHead h f).zones = s.zones := rfl
@[simp] theorem State.modHead_plan (h : HeadId) (f : Head → Head) : (s.modHead h f).plan = s.plan := rfl
@[simp] theorem State.modHead_resolver (h : HeadId) (f : Head → Head) : (s.modHead h f).resolver = s.resolver := rfl
@[simp] theorem State.modHead_fans (h : HeadId) (f : Head → Head) : (s.modHead h f).fans = s.fans := rfl
@[simp] theorem State.modHead_duty (h : HeadId) (f : Head → Head) : (s.modHead h f).duty = s.duty := rfl
@[simp] theorem State.modHead_grace (h : HeadId) (f : Head → Head) : (s.modHead h f).grace = s.grace := rfl
@[simp] theorem State.modHead_extract (h : HeadId) (f : Head → Head) : (s.modHead h f).extract = s.extract := rfl
@[simp] theorem State.modHead_makeUp (h : HeadId) (f : Head → Head) : (s.modHead h f).makeUp = s.makeUp := rfl
@[simp] theorem State.modHead_pathProven (h : HeadId) (f : Head → Head) : (s.modHead h f).pathProven = s.pathProven := rfl
@[simp] theorem State.modHead_indications (h : HeadId) (f : Head → Head) : (s.modHead h f).indications = s.indications := rfl
@[simp] theorem State.modHead_alloc (h : HeadId) (f : Head → Head) : (s.modHead h f).alloc = s.alloc := rfl
@[simp] theorem State.modHead_alarms (h : HeadId) (f : Head → Head) : (s.modHead h f).alarms = s.alarms := rfl
@[simp] theorem State.modHead_line (h : HeadId) (f : Head → Head) : (s.modHead h f).line = s.line := rfl
@[simp] theorem State.modHead_ports (h : HeadId) (f : Head → Head) : (s.modHead h f).ports = s.ports := rfl
@[simp] theorem State.modHead_store (h : HeadId) (f : Head → Head) : (s.modHead h f).store = s.store := rfl
@[simp] theorem State.modHead_pending (h : HeadId) (f : Head → Head) : (s.modHead h f).pending = s.pending := rfl
@[simp] theorem State.modHead_zone (h : HeadId) (f : Head → Head) (z' : ZoneId) : (s.modHead h f).zone z' = s.zone z' := by
  simp [State.zone]
@[simp] theorem State.modHead_fan (h : HeadId) (f : Head → Head) (n' : FanId) : (s.modHead h f).fan n' = s.fan n' := by
  simp [State.fan]
@[simp] theorem State.modHead_extractOf (h : HeadId) (f : Head → Head) (z' : ZoneId) : (s.modHead h f).extractOf z' = s.extractOf z' := by
  simp [State.extractOf]
@[simp] theorem State.modHead_makeUpOf (h : HeadId) (f : Head → Head) (z' : ZoneId) : (s.modHead h f).makeUpOf z' = s.makeUpOf z' := by
  simp [State.makeUpOf]
@[simp] theorem State.modHead_port (h : HeadId) (f : Head → Head) (p' : Port) : (s.modHead h f).port p' = s.port p' := by
  simp [State.port]

/-! ### State.modFan -/
@[simp] theorem State.modFan_partTime (n : FanId) (f : Fan → Fan) : (s.modFan n f).partTime = s.partTime := rfl
@[simp] theorem State.modFan_zones (n : FanId) (f : Fan → Fan) : (s.modFan n f).zones = s.zones := rfl
@[simp] theorem State.modFan_heads (n : FanId) (f : Fan → Fan) : (s.modFan n f).heads = s.heads := rfl
@[simp] theorem State.modFan_plan (n : FanId) (f : Fan → Fan) : (s.modFan n f).plan = s.plan := rfl
@[simp] theorem State.modFan_resolver (n : FanId) (f : Fan → Fan) : (s.modFan n f).resolver = s.resolver := rfl
@[simp] theorem State.modFan_duty (n : FanId) (f : Fan → Fan) : (s.modFan n f).duty = s.duty := rfl
@[simp] theorem State.modFan_grace (n : FanId) (f : Fan → Fan) : (s.modFan n f).grace = s.grace := rfl
@[simp] theorem State.modFan_extract (n : FanId) (f : Fan → Fan) : (s.modFan n f).extract = s.extract := rfl
@[simp] theorem State.modFan_makeUp (n : FanId) (f : Fan → Fan) : (s.modFan n f).makeUp = s.makeUp := rfl
@[simp] theorem State.modFan_pathProven (n : FanId) (f : Fan → Fan) : (s.modFan n f).pathProven = s.pathProven := rfl
@[simp] theorem State.modFan_indications (n : FanId) (f : Fan → Fan) : (s.modFan n f).indications = s.indications := rfl
@[simp] theorem State.modFan_alloc (n : FanId) (f : Fan → Fan) : (s.modFan n f).alloc = s.alloc := rfl
@[simp] theorem State.modFan_alarms (n : FanId) (f : Fan → Fan) : (s.modFan n f).alarms = s.alarms := rfl
@[simp] theorem State.modFan_line (n : FanId) (f : Fan → Fan) : (s.modFan n f).line = s.line := rfl
@[simp] theorem State.modFan_ports (n : FanId) (f : Fan → Fan) : (s.modFan n f).ports = s.ports := rfl
@[simp] theorem State.modFan_store (n : FanId) (f : Fan → Fan) : (s.modFan n f).store = s.store := rfl
@[simp] theorem State.modFan_pending (n : FanId) (f : Fan → Fan) : (s.modFan n f).pending = s.pending := rfl
@[simp] theorem State.modFan_zone (n : FanId) (f : Fan → Fan) (z' : ZoneId) : (s.modFan n f).zone z' = s.zone z' := by
  simp [State.zone]
@[simp] theorem State.modFan_head (n : FanId) (f : Fan → Fan) (h' : HeadId) : (s.modFan n f).head h' = s.head h' := by
  simp [State.head]
@[simp] theorem State.modFan_extractOf (n : FanId) (f : Fan → Fan) (z' : ZoneId) : (s.modFan n f).extractOf z' = s.extractOf z' := by
  simp [State.extractOf]
@[simp] theorem State.modFan_makeUpOf (n : FanId) (f : Fan → Fan) (z' : ZoneId) : (s.modFan n f).makeUpOf z' = s.makeUpOf z' := by
  simp [State.makeUpOf]
@[simp] theorem State.modFan_port (n : FanId) (f : Fan → Fan) (p' : Port) : (s.modFan n f).port p' = s.port p' := by
  simp [State.port]

/-! ### State.modPort -/
@[simp] theorem State.modPort_partTime (p : Port) (f : PortState → PortState) : (s.modPort p f).partTime = s.partTime := rfl
@[simp] theorem State.modPort_zones (p : Port) (f : PortState → PortState) : (s.modPort p f).zones = s.zones := rfl
@[simp] theorem State.modPort_heads (p : Port) (f : PortState → PortState) : (s.modPort p f).heads = s.heads := rfl
@[simp] theorem State.modPort_plan (p : Port) (f : PortState → PortState) : (s.modPort p f).plan = s.plan := rfl
@[simp] theorem State.modPort_resolver (p : Port) (f : PortState → PortState) : (s.modPort p f).resolver = s.resolver := rfl
@[simp] theorem State.modPort_fans (p : Port) (f : PortState → PortState) : (s.modPort p f).fans = s.fans := rfl
@[simp] theorem State.modPort_duty (p : Port) (f : PortState → PortState) : (s.modPort p f).duty = s.duty := rfl
@[simp] theorem State.modPort_grace (p : Port) (f : PortState → PortState) : (s.modPort p f).grace = s.grace := rfl
@[simp] theorem State.modPort_extract (p : Port) (f : PortState → PortState) : (s.modPort p f).extract = s.extract := rfl
@[simp] theorem State.modPort_makeUp (p : Port) (f : PortState → PortState) : (s.modPort p f).makeUp = s.makeUp := rfl
@[simp] theorem State.modPort_pathProven (p : Port) (f : PortState → PortState) : (s.modPort p f).pathProven = s.pathProven := rfl
@[simp] theorem State.modPort_indications (p : Port) (f : PortState → PortState) : (s.modPort p f).indications = s.indications := rfl
@[simp] theorem State.modPort_alloc (p : Port) (f : PortState → PortState) : (s.modPort p f).alloc = s.alloc := rfl
@[simp] theorem State.modPort_alarms (p : Port) (f : PortState → PortState) : (s.modPort p f).alarms = s.alarms := rfl
@[simp] theorem State.modPort_line (p : Port) (f : PortState → PortState) : (s.modPort p f).line = s.line := rfl
@[simp] theorem State.modPort_store (p : Port) (f : PortState → PortState) : (s.modPort p f).store = s.store := rfl
@[simp] theorem State.modPort_pending (p : Port) (f : PortState → PortState) : (s.modPort p f).pending = s.pending := rfl
@[simp] theorem State.modPort_zone (p : Port) (f : PortState → PortState) (z' : ZoneId) : (s.modPort p f).zone z' = s.zone z' := by
  simp [State.zone]
@[simp] theorem State.modPort_head (p : Port) (f : PortState → PortState) (h' : HeadId) : (s.modPort p f).head h' = s.head h' := by
  simp [State.head]
@[simp] theorem State.modPort_fan (p : Port) (f : PortState → PortState) (n' : FanId) : (s.modPort p f).fan n' = s.fan n' := by
  simp [State.fan]
@[simp] theorem State.modPort_extractOf (p : Port) (f : PortState → PortState) (z' : ZoneId) : (s.modPort p f).extractOf z' = s.extractOf z' := by
  simp [State.extractOf]
@[simp] theorem State.modPort_makeUpOf (p : Port) (f : PortState → PortState) (z' : ZoneId) : (s.modPort p f).makeUpOf z' = s.makeUpOf z' := by
  simp [State.makeUpOf]

/-! ### State.modLine -/
@[simp] theorem State.modLine_partTime (f : FieldLine → FieldLine) : (s.modLine f).partTime = s.partTime := rfl
@[simp] theorem State.modLine_zones (f : FieldLine → FieldLine) : (s.modLine f).zones = s.zones := rfl
@[simp] theorem State.modLine_heads (f : FieldLine → FieldLine) : (s.modLine f).heads = s.heads := rfl
@[simp] theorem State.modLine_plan (f : FieldLine → FieldLine) : (s.modLine f).plan = s.plan := rfl
@[simp] theorem State.modLine_resolver (f : FieldLine → FieldLine) : (s.modLine f).resolver = s.resolver := rfl
@[simp] theorem State.modLine_fans (f : FieldLine → FieldLine) : (s.modLine f).fans = s.fans := rfl
@[simp] theorem State.modLine_duty (f : FieldLine → FieldLine) : (s.modLine f).duty = s.duty := rfl
@[simp] theorem State.modLine_grace (f : FieldLine → FieldLine) : (s.modLine f).grace = s.grace := rfl
@[simp] theorem State.modLine_extract (f : FieldLine → FieldLine) : (s.modLine f).extract = s.extract := rfl
@[simp] theorem State.modLine_makeUp (f : FieldLine → FieldLine) : (s.modLine f).makeUp = s.makeUp := rfl
@[simp] theorem State.modLine_pathProven (f : FieldLine → FieldLine) : (s.modLine f).pathProven = s.pathProven := rfl
@[simp] theorem State.modLine_indications (f : FieldLine → FieldLine) : (s.modLine f).indications = s.indications := rfl
@[simp] theorem State.modLine_alloc (f : FieldLine → FieldLine) : (s.modLine f).alloc = s.alloc := rfl
@[simp] theorem State.modLine_alarms (f : FieldLine → FieldLine) : (s.modLine f).alarms = s.alarms := rfl
@[simp] theorem State.modLine_ports (f : FieldLine → FieldLine) : (s.modLine f).ports = s.ports := rfl
@[simp] theorem State.modLine_store (f : FieldLine → FieldLine) : (s.modLine f).store = s.store := rfl
@[simp] theorem State.modLine_pending (f : FieldLine → FieldLine) : (s.modLine f).pending = s.pending := rfl
@[simp] theorem State.modLine_zone (f : FieldLine → FieldLine) (z' : ZoneId) : (s.modLine f).zone z' = s.zone z' := by
  simp [State.zone]
@[simp] theorem State.modLine_head (f : FieldLine → FieldLine) (h' : HeadId) : (s.modLine f).head h' = s.head h' := by
  simp [State.head]
@[simp] theorem State.modLine_fan (f : FieldLine → FieldLine) (n' : FanId) : (s.modLine f).fan n' = s.fan n' := by
  simp [State.fan]
@[simp] theorem State.modLine_extractOf (f : FieldLine → FieldLine) (z' : ZoneId) : (s.modLine f).extractOf z' = s.extractOf z' := by
  simp [State.extractOf]
@[simp] theorem State.modLine_makeUpOf (f : FieldLine → FieldLine) (z' : ZoneId) : (s.modLine f).makeUpOf z' = s.makeUpOf z' := by
  simp [State.makeUpOf]
@[simp] theorem State.modLine_port (f : FieldLine → FieldLine) (p' : Port) : (s.modLine f).port p' = s.port p' := by
  simp [State.port]

/-! ### State.modPlan -/
@[simp] theorem State.modPlan_partTime (f : PlanControl → PlanControl) : (s.modPlan f).partTime = s.partTime := rfl
@[simp] theorem State.modPlan_zones (f : PlanControl → PlanControl) : (s.modPlan f).zones = s.zones := rfl
@[simp] theorem State.modPlan_heads (f : PlanControl → PlanControl) : (s.modPlan f).heads = s.heads := rfl
@[simp] theorem State.modPlan_resolver (f : PlanControl → PlanControl) : (s.modPlan f).resolver = s.resolver := rfl
@[simp] theorem State.modPlan_fans (f : PlanControl → PlanControl) : (s.modPlan f).fans = s.fans := rfl
@[simp] theorem State.modPlan_duty (f : PlanControl → PlanControl) : (s.modPlan f).duty = s.duty := rfl
@[simp] theorem State.modPlan_grace (f : PlanControl → PlanControl) : (s.modPlan f).grace = s.grace := rfl
@[simp] theorem State.modPlan_extract (f : PlanControl → PlanControl) : (s.modPlan f).extract = s.extract := rfl
@[simp] theorem State.modPlan_makeUp (f : PlanControl → PlanControl) : (s.modPlan f).makeUp = s.makeUp := rfl
@[simp] theorem State.modPlan_pathProven (f : PlanControl → PlanControl) : (s.modPlan f).pathProven = s.pathProven := rfl
@[simp] theorem State.modPlan_indications (f : PlanControl → PlanControl) : (s.modPlan f).indications = s.indications := rfl
@[simp] theorem State.modPlan_alloc (f : PlanControl → PlanControl) : (s.modPlan f).alloc = s.alloc := rfl
@[simp] theorem State.modPlan_alarms (f : PlanControl → PlanControl) : (s.modPlan f).alarms = s.alarms := rfl
@[simp] theorem State.modPlan_line (f : PlanControl → PlanControl) : (s.modPlan f).line = s.line := rfl
@[simp] theorem State.modPlan_ports (f : PlanControl → PlanControl) : (s.modPlan f).ports = s.ports := rfl
@[simp] theorem State.modPlan_store (f : PlanControl → PlanControl) : (s.modPlan f).store = s.store := rfl
@[simp] theorem State.modPlan_pending (f : PlanControl → PlanControl) : (s.modPlan f).pending = s.pending := rfl
@[simp] theorem State.modPlan_zone (f : PlanControl → PlanControl) (z' : ZoneId) : (s.modPlan f).zone z' = s.zone z' := by
  simp [State.zone]
@[simp] theorem State.modPlan_head (f : PlanControl → PlanControl) (h' : HeadId) : (s.modPlan f).head h' = s.head h' := by
  simp [State.head]
@[simp] theorem State.modPlan_fan (f : PlanControl → PlanControl) (n' : FanId) : (s.modPlan f).fan n' = s.fan n' := by
  simp [State.fan]
@[simp] theorem State.modPlan_extractOf (f : PlanControl → PlanControl) (z' : ZoneId) : (s.modPlan f).extractOf z' = s.extractOf z' := by
  simp [State.extractOf]
@[simp] theorem State.modPlan_makeUpOf (f : PlanControl → PlanControl) (z' : ZoneId) : (s.modPlan f).makeUpOf z' = s.makeUpOf z' := by
  simp [State.makeUpOf]
@[simp] theorem State.modPlan_port (f : PlanControl → PlanControl) (p' : Port) : (s.modPlan f).port p' = s.port p' := by
  simp [State.port]

/-! ### State.modResolver -/
@[simp] theorem State.modResolver_partTime (f : Resolver → Resolver) : (s.modResolver f).partTime = s.partTime := rfl
@[simp] theorem State.modResolver_zones (f : Resolver → Resolver) : (s.modResolver f).zones = s.zones := rfl
@[simp] theorem State.modResolver_heads (f : Resolver → Resolver) : (s.modResolver f).heads = s.heads := rfl
@[simp] theorem State.modResolver_plan (f : Resolver → Resolver) : (s.modResolver f).plan = s.plan := rfl
@[simp] theorem State.modResolver_fans (f : Resolver → Resolver) : (s.modResolver f).fans = s.fans := rfl
@[simp] theorem State.modResolver_duty (f : Resolver → Resolver) : (s.modResolver f).duty = s.duty := rfl
@[simp] theorem State.modResolver_grace (f : Resolver → Resolver) : (s.modResolver f).grace = s.grace := rfl
@[simp] theorem State.modResolver_extract (f : Resolver → Resolver) : (s.modResolver f).extract = s.extract := rfl
@[simp] theorem State.modResolver_makeUp (f : Resolver → Resolver) : (s.modResolver f).makeUp = s.makeUp := rfl
@[simp] theorem State.modResolver_pathProven (f : Resolver → Resolver) : (s.modResolver f).pathProven = s.pathProven := rfl
@[simp] theorem State.modResolver_indications (f : Resolver → Resolver) : (s.modResolver f).indications = s.indications := rfl
@[simp] theorem State.modResolver_alloc (f : Resolver → Resolver) : (s.modResolver f).alloc = s.alloc := rfl
@[simp] theorem State.modResolver_alarms (f : Resolver → Resolver) : (s.modResolver f).alarms = s.alarms := rfl
@[simp] theorem State.modResolver_line (f : Resolver → Resolver) : (s.modResolver f).line = s.line := rfl
@[simp] theorem State.modResolver_ports (f : Resolver → Resolver) : (s.modResolver f).ports = s.ports := rfl
@[simp] theorem State.modResolver_store (f : Resolver → Resolver) : (s.modResolver f).store = s.store := rfl
@[simp] theorem State.modResolver_pending (f : Resolver → Resolver) : (s.modResolver f).pending = s.pending := rfl
@[simp] theorem State.modResolver_zone (f : Resolver → Resolver) (z' : ZoneId) : (s.modResolver f).zone z' = s.zone z' := by
  simp [State.zone]
@[simp] theorem State.modResolver_head (f : Resolver → Resolver) (h' : HeadId) : (s.modResolver f).head h' = s.head h' := by
  simp [State.head]
@[simp] theorem State.modResolver_fan (f : Resolver → Resolver) (n' : FanId) : (s.modResolver f).fan n' = s.fan n' := by
  simp [State.fan]
@[simp] theorem State.modResolver_extractOf (f : Resolver → Resolver) (z' : ZoneId) : (s.modResolver f).extractOf z' = s.extractOf z' := by
  simp [State.extractOf]
@[simp] theorem State.modResolver_makeUpOf (f : Resolver → Resolver) (z' : ZoneId) : (s.modResolver f).makeUpOf z' = s.makeUpOf z' := by
  simp [State.makeUpOf]
@[simp] theorem State.modResolver_port (f : Resolver → Resolver) (p' : Port) : (s.modResolver f).port p' = s.port p' := by
  simp [State.port]

/-! ### State.trigger -/
@[simp] theorem State.trigger_partTime : (s.trigger).partTime = s.partTime := rfl
@[simp] theorem State.trigger_zones : (s.trigger).zones = s.zones := rfl
@[simp] theorem State.trigger_heads : (s.trigger).heads = s.heads := rfl
@[simp] theorem State.trigger_plan : (s.trigger).plan = s.plan := rfl
@[simp] theorem State.trigger_resolver : (s.trigger).resolver = s.resolver := rfl
@[simp] theorem State.trigger_fans : (s.trigger).fans = s.fans := rfl
@[simp] theorem State.trigger_duty : (s.trigger).duty = s.duty := rfl
@[simp] theorem State.trigger_grace : (s.trigger).grace = s.grace := rfl
@[simp] theorem State.trigger_extract : (s.trigger).extract = s.extract := rfl
@[simp] theorem State.trigger_makeUp : (s.trigger).makeUp = s.makeUp := rfl
@[simp] theorem State.trigger_pathProven : (s.trigger).pathProven = s.pathProven := rfl
@[simp] theorem State.trigger_indications : (s.trigger).indications = s.indications := rfl
@[simp] theorem State.trigger_alarms : (s.trigger).alarms = s.alarms := rfl
@[simp] theorem State.trigger_line : (s.trigger).line = s.line := rfl
@[simp] theorem State.trigger_ports : (s.trigger).ports = s.ports := rfl
@[simp] theorem State.trigger_store : (s.trigger).store = s.store := rfl
@[simp] theorem State.trigger_pending : (s.trigger).pending = s.pending := rfl
@[simp] theorem State.trigger_zone (z' : ZoneId) : (s.trigger).zone z' = s.zone z' := by
  simp [State.zone]
@[simp] theorem State.trigger_head (h' : HeadId) : (s.trigger).head h' = s.head h' := by
  simp [State.head]
@[simp] theorem State.trigger_fan (n' : FanId) : (s.trigger).fan n' = s.fan n' := by
  simp [State.fan]
@[simp] theorem State.trigger_extractOf (z' : ZoneId) : (s.trigger).extractOf z' = s.extractOf z' := by
  simp [State.extractOf]
@[simp] theorem State.trigger_makeUpOf (z' : ZoneId) : (s.trigger).makeUpOf z' = s.makeUpOf z' := by
  simp [State.makeUpOf]
@[simp] theorem State.trigger_port (p' : Port) : (s.trigger).port p' = s.port p' := by
  simp [State.port]

/-! ### State.raiseAll -/
@[simp] theorem State.raiseAll_partTime (n : Notice) : (s.raiseAll n).partTime = s.partTime := rfl
@[simp] theorem State.raiseAll_zones (n : Notice) : (s.raiseAll n).zones = s.zones := rfl
@[simp] theorem State.raiseAll_heads (n : Notice) : (s.raiseAll n).heads = s.heads := rfl
@[simp] theorem State.raiseAll_plan (n : Notice) : (s.raiseAll n).plan = s.plan := rfl
@[simp] theorem State.raiseAll_resolver (n : Notice) : (s.raiseAll n).resolver = s.resolver := rfl
@[simp] theorem State.raiseAll_fans (n : Notice) : (s.raiseAll n).fans = s.fans := rfl
@[simp] theorem State.raiseAll_duty (n : Notice) : (s.raiseAll n).duty = s.duty := rfl
@[simp] theorem State.raiseAll_grace (n : Notice) : (s.raiseAll n).grace = s.grace := rfl
@[simp] theorem State.raiseAll_extract (n : Notice) : (s.raiseAll n).extract = s.extract := rfl
@[simp] theorem State.raiseAll_makeUp (n : Notice) : (s.raiseAll n).makeUp = s.makeUp := rfl
@[simp] theorem State.raiseAll_pathProven (n : Notice) : (s.raiseAll n).pathProven = s.pathProven := rfl
@[simp] theorem State.raiseAll_indications (n : Notice) : (s.raiseAll n).indications = s.indications := rfl
@[simp] theorem State.raiseAll_alloc (n : Notice) : (s.raiseAll n).alloc = s.alloc := rfl
@[simp] theorem State.raiseAll_alarms (n : Notice) : (s.raiseAll n).alarms = s.alarms := rfl
@[simp] theorem State.raiseAll_line (n : Notice) : (s.raiseAll n).line = s.line := rfl
@[simp] theorem State.raiseAll_store (n : Notice) : (s.raiseAll n).store = s.store := rfl
@[simp] theorem State.raiseAll_pending (n : Notice) : (s.raiseAll n).pending = s.pending := rfl
@[simp] theorem State.raiseAll_zone (n : Notice) (z' : ZoneId) : (s.raiseAll n).zone z' = s.zone z' := by
  simp [State.zone]
@[simp] theorem State.raiseAll_head (n : Notice) (h' : HeadId) : (s.raiseAll n).head h' = s.head h' := by
  simp [State.head]
@[simp] theorem State.raiseAll_fan (n : Notice) (n' : FanId) : (s.raiseAll n).fan n' = s.fan n' := by
  simp [State.fan]
@[simp] theorem State.raiseAll_extractOf (n : Notice) (z' : ZoneId) : (s.raiseAll n).extractOf z' = s.extractOf z' := by
  simp [State.extractOf]
@[simp] theorem State.raiseAll_makeUpOf (n : Notice) (z' : ZoneId) : (s.raiseAll n).makeUpOf z' = s.makeUpOf z' := by
  simp [State.makeUpOf]

/-! ### State.clearAlarm -/
@[simp] theorem State.clearAlarm_partTime (k : AlarmKey) : (s.clearAlarm k).partTime = s.partTime := rfl
@[simp] theorem State.clearAlarm_zones (k : AlarmKey) : (s.clearAlarm k).zones = s.zones := rfl
@[simp] theorem State.clearAlarm_heads (k : AlarmKey) : (s.clearAlarm k).heads = s.heads := rfl
@[simp] theorem State.clearAlarm_plan (k : AlarmKey) : (s.clearAlarm k).plan = s.plan := rfl
@[simp] theorem State.clearAlarm_resolver (k : AlarmKey) : (s.clearAlarm k).resolver = s.resolver := rfl
@[simp] theorem State.clearAlarm_fans (k : AlarmKey) : (s.clearAlarm k).fans = s.fans := rfl
@[simp] theorem State.clearAlarm_duty (k : AlarmKey) : (s.clearAlarm k).duty = s.duty := rfl
@[simp] theorem State.clearAlarm_grace (k : AlarmKey) : (s.clearAlarm k).grace = s.grace := rfl
@[simp] theorem State.clearAlarm_extract (k : AlarmKey) : (s.clearAlarm k).extract = s.extract := rfl
@[simp] theorem State.clearAlarm_makeUp (k : AlarmKey) : (s.clearAlarm k).makeUp = s.makeUp := rfl
@[simp] theorem State.clearAlarm_pathProven (k : AlarmKey) : (s.clearAlarm k).pathProven = s.pathProven := rfl
@[simp] theorem State.clearAlarm_indications (k : AlarmKey) : (s.clearAlarm k).indications = s.indications := rfl
@[simp] theorem State.clearAlarm_alloc (k : AlarmKey) : (s.clearAlarm k).alloc = s.alloc := rfl
@[simp] theorem State.clearAlarm_line (k : AlarmKey) : (s.clearAlarm k).line = s.line := rfl
@[simp] theorem State.clearAlarm_ports (k : AlarmKey) : (s.clearAlarm k).ports = s.ports := rfl
@[simp] theorem State.clearAlarm_store (k : AlarmKey) : (s.clearAlarm k).store = s.store := rfl
@[simp] theorem State.clearAlarm_pending (k : AlarmKey) : (s.clearAlarm k).pending = s.pending := rfl
@[simp] theorem State.clearAlarm_zone (k : AlarmKey) (z' : ZoneId) : (s.clearAlarm k).zone z' = s.zone z' := by
  simp [State.zone]
@[simp] theorem State.clearAlarm_head (k : AlarmKey) (h' : HeadId) : (s.clearAlarm k).head h' = s.head h' := by
  simp [State.head]
@[simp] theorem State.clearAlarm_fan (k : AlarmKey) (n' : FanId) : (s.clearAlarm k).fan n' = s.fan n' := by
  simp [State.fan]
@[simp] theorem State.clearAlarm_extractOf (k : AlarmKey) (z' : ZoneId) : (s.clearAlarm k).extractOf z' = s.extractOf z' := by
  simp [State.extractOf]
@[simp] theorem State.clearAlarm_makeUpOf (k : AlarmKey) (z' : ZoneId) : (s.clearAlarm k).makeUpOf z' = s.makeUpOf z' := by
  simp [State.makeUpOf]
@[simp] theorem State.clearAlarm_port (k : AlarmKey) (p' : Port) : (s.clearAlarm k).port p' = s.port p' := by
  simp [State.port]

/-! ### State.triggerIf -/
@[simp] theorem State.triggerIf_partTime (b : Bool) : (s.triggerIf b).partTime = s.partTime := by cases b <;> rfl
@[simp] theorem State.triggerIf_zones (b : Bool) : (s.triggerIf b).zones = s.zones := by cases b <;> rfl
@[simp] theorem State.triggerIf_heads (b : Bool) : (s.triggerIf b).heads = s.heads := by cases b <;> rfl
@[simp] theorem State.triggerIf_plan (b : Bool) : (s.triggerIf b).plan = s.plan := by cases b <;> rfl
@[simp] theorem State.triggerIf_resolver (b : Bool) : (s.triggerIf b).resolver = s.resolver := by cases b <;> rfl
@[simp] theorem State.triggerIf_fans (b : Bool) : (s.triggerIf b).fans = s.fans := by cases b <;> rfl
@[simp] theorem State.triggerIf_duty (b : Bool) : (s.triggerIf b).duty = s.duty := by cases b <;> rfl
@[simp] theorem State.triggerIf_grace (b : Bool) : (s.triggerIf b).grace = s.grace := by cases b <;> rfl
@[simp] theorem State.triggerIf_extract (b : Bool) : (s.triggerIf b).extract = s.extract := by cases b <;> rfl
@[simp] theorem State.triggerIf_makeUp (b : Bool) : (s.triggerIf b).makeUp = s.makeUp := by cases b <;> rfl
@[simp] theorem State.triggerIf_pathProven (b : Bool) : (s.triggerIf b).pathProven = s.pathProven := by cases b <;> rfl
@[simp] theorem State.triggerIf_indications (b : Bool) : (s.triggerIf b).indications = s.indications := by cases b <;> rfl
@[simp] theorem State.triggerIf_alarms (b : Bool) : (s.triggerIf b).alarms = s.alarms := by cases b <;> rfl
@[simp] theorem State.triggerIf_line (b : Bool) : (s.triggerIf b).line = s.line := by cases b <;> rfl
@[simp] theorem State.triggerIf_ports (b : Bool) : (s.triggerIf b).ports = s.ports := by cases b <;> rfl
@[simp] theorem State.triggerIf_store (b : Bool) : (s.triggerIf b).store = s.store := by cases b <;> rfl
@[simp] theorem State.triggerIf_pending (b : Bool) : (s.triggerIf b).pending = s.pending := by cases b <;> rfl
@[simp] theorem State.triggerIf_zone (b : Bool) (z' : ZoneId) : (s.triggerIf b).zone z' = s.zone z' := by
  simp [State.zone]
@[simp] theorem State.triggerIf_head (b : Bool) (h' : HeadId) : (s.triggerIf b).head h' = s.head h' := by
  simp [State.head]
@[simp] theorem State.triggerIf_fan (b : Bool) (n' : FanId) : (s.triggerIf b).fan n' = s.fan n' := by
  simp [State.fan]
@[simp] theorem State.triggerIf_extractOf (b : Bool) (z' : ZoneId) : (s.triggerIf b).extractOf z' = s.extractOf z' := by
  simp [State.extractOf]
@[simp] theorem State.triggerIf_makeUpOf (b : Bool) (z' : ZoneId) : (s.triggerIf b).makeUpOf z' = s.makeUpOf z' := by
  simp [State.makeUpOf]
@[simp] theorem State.triggerIf_port (b : Bool) (p' : Port) : (s.triggerIf b).port p' = s.port p' := by
  simp [State.port]

/-! ### State.raiseOthers -/
@[simp] theorem State.raiseOthers_partTime (n : Notice) (p : Port) : (s.raiseOthers n p).partTime = s.partTime := by cases p <;> rfl
@[simp] theorem State.raiseOthers_zones (n : Notice) (p : Port) : (s.raiseOthers n p).zones = s.zones := by cases p <;> rfl
@[simp] theorem State.raiseOthers_heads (n : Notice) (p : Port) : (s.raiseOthers n p).heads = s.heads := by cases p <;> rfl
@[simp] theorem State.raiseOthers_plan (n : Notice) (p : Port) : (s.raiseOthers n p).plan = s.plan := by cases p <;> rfl
@[simp] theorem State.raiseOthers_resolver (n : Notice) (p : Port) : (s.raiseOthers n p).resolver = s.resolver := by cases p <;> rfl
@[simp] theorem State.raiseOthers_fans (n : Notice) (p : Port) : (s.raiseOthers n p).fans = s.fans := by cases p <;> rfl
@[simp] theorem State.raiseOthers_duty (n : Notice) (p : Port) : (s.raiseOthers n p).duty = s.duty := by cases p <;> rfl
@[simp] theorem State.raiseOthers_grace (n : Notice) (p : Port) : (s.raiseOthers n p).grace = s.grace := by cases p <;> rfl
@[simp] theorem State.raiseOthers_extract (n : Notice) (p : Port) : (s.raiseOthers n p).extract = s.extract := by cases p <;> rfl
@[simp] theorem State.raiseOthers_makeUp (n : Notice) (p : Port) : (s.raiseOthers n p).makeUp = s.makeUp := by cases p <;> rfl
@[simp] theorem State.raiseOthers_pathProven (n : Notice) (p : Port) : (s.raiseOthers n p).pathProven = s.pathProven := by cases p <;> rfl
@[simp] theorem State.raiseOthers_indications (n : Notice) (p : Port) : (s.raiseOthers n p).indications = s.indications := by cases p <;> rfl
@[simp] theorem State.raiseOthers_alloc (n : Notice) (p : Port) : (s.raiseOthers n p).alloc = s.alloc := by cases p <;> rfl
@[simp] theorem State.raiseOthers_alarms (n : Notice) (p : Port) : (s.raiseOthers n p).alarms = s.alarms := by cases p <;> rfl
@[simp] theorem State.raiseOthers_line (n : Notice) (p : Port) : (s.raiseOthers n p).line = s.line := by cases p <;> rfl
@[simp] theorem State.raiseOthers_store (n : Notice) (p : Port) : (s.raiseOthers n p).store = s.store := by cases p <;> rfl
@[simp] theorem State.raiseOthers_pending (n : Notice) (p : Port) : (s.raiseOthers n p).pending = s.pending := by cases p <;> rfl
@[simp] theorem State.raiseOthers_zone (n : Notice) (p : Port) (z' : ZoneId) : (s.raiseOthers n p).zone z' = s.zone z' := by
  simp [State.zone]
@[simp] theorem State.raiseOthers_head (n : Notice) (p : Port) (h' : HeadId) : (s.raiseOthers n p).head h' = s.head h' := by
  simp [State.head]
@[simp] theorem State.raiseOthers_fan (n : Notice) (p : Port) (n' : FanId) : (s.raiseOthers n p).fan n' = s.fan n' := by
  simp [State.fan]
@[simp] theorem State.raiseOthers_extractOf (n : Notice) (p : Port) (z' : ZoneId) : (s.raiseOthers n p).extractOf z' = s.extractOf z' := by
  simp [State.extractOf]
@[simp] theorem State.raiseOthers_makeUpOf (n : Notice) (p : Port) (z' : ZoneId) : (s.raiseOthers n p).makeUpOf z' = s.makeUpOf z' := by
  simp [State.makeUpOf]

/-! ### State.raiseAlarm -/
@[simp] theorem State.raiseAlarm_partTime (k : AlarmKey) (d : Option FanDetail) : (s.raiseAlarm k d).partTime = s.partTime := by unfold State.raiseAlarm; split <;> rfl
@[simp] theorem State.raiseAlarm_zones (k : AlarmKey) (d : Option FanDetail) : (s.raiseAlarm k d).zones = s.zones := by unfold State.raiseAlarm; split <;> rfl
@[simp] theorem State.raiseAlarm_heads (k : AlarmKey) (d : Option FanDetail) : (s.raiseAlarm k d).heads = s.heads := by unfold State.raiseAlarm; split <;> rfl
@[simp] theorem State.raiseAlarm_plan (k : AlarmKey) (d : Option FanDetail) : (s.raiseAlarm k d).plan = s.plan := by unfold State.raiseAlarm; split <;> rfl
@[simp] theorem State.raiseAlarm_resolver (k : AlarmKey) (d : Option FanDetail) : (s.raiseAlarm k d).resolver = s.resolver := by unfold State.raiseAlarm; split <;> rfl
@[simp] theorem State.raiseAlarm_fans (k : AlarmKey) (d : Option FanDetail) : (s.raiseAlarm k d).fans = s.fans := by unfold State.raiseAlarm; split <;> rfl
@[simp] theorem State.raiseAlarm_duty (k : AlarmKey) (d : Option FanDetail) : (s.raiseAlarm k d).duty = s.duty := by unfold State.raiseAlarm; split <;> rfl
@[simp] theorem State.raiseAlarm_grace (k : AlarmKey) (d : Option FanDetail) : (s.raiseAlarm k d).grace = s.grace := by unfold State.raiseAlarm; split <;> rfl
@[simp] theorem State.raiseAlarm_extract (k : AlarmKey) (d : Option FanDetail) : (s.raiseAlarm k d).extract = s.extract := by unfold State.raiseAlarm; split <;> rfl
@[simp] theorem State.raiseAlarm_makeUp (k : AlarmKey) (d : Option FanDetail) : (s.raiseAlarm k d).makeUp = s.makeUp := by unfold State.raiseAlarm; split <;> rfl
@[simp] theorem State.raiseAlarm_pathProven (k : AlarmKey) (d : Option FanDetail) : (s.raiseAlarm k d).pathProven = s.pathProven := by unfold State.raiseAlarm; split <;> rfl
@[simp] theorem State.raiseAlarm_indications (k : AlarmKey) (d : Option FanDetail) : (s.raiseAlarm k d).indications = s.indications := by unfold State.raiseAlarm; split <;> rfl
@[simp] theorem State.raiseAlarm_alloc (k : AlarmKey) (d : Option FanDetail) : (s.raiseAlarm k d).alloc = s.alloc := by unfold State.raiseAlarm; split <;> rfl
@[simp] theorem State.raiseAlarm_line (k : AlarmKey) (d : Option FanDetail) : (s.raiseAlarm k d).line = s.line := by unfold State.raiseAlarm; split <;> rfl
@[simp] theorem State.raiseAlarm_store (k : AlarmKey) (d : Option FanDetail) : (s.raiseAlarm k d).store = s.store := by unfold State.raiseAlarm; split <;> rfl
@[simp] theorem State.raiseAlarm_pending (k : AlarmKey) (d : Option FanDetail) : (s.raiseAlarm k d).pending = s.pending := by unfold State.raiseAlarm; split <;> rfl
@[simp] theorem State.raiseAlarm_zone (k : AlarmKey) (d : Option FanDetail) (z' : ZoneId) : (s.raiseAlarm k d).zone z' = s.zone z' := by
  simp [State.zone]
@[simp] theorem State.raiseAlarm_head (k : AlarmKey) (d : Option FanDetail) (h' : HeadId) : (s.raiseAlarm k d).head h' = s.head h' := by
  simp [State.head]
@[simp] theorem State.raiseAlarm_fan (k : AlarmKey) (d : Option FanDetail) (n' : FanId) : (s.raiseAlarm k d).fan n' = s.fan n' := by
  simp [State.fan]
@[simp] theorem State.raiseAlarm_extractOf (k : AlarmKey) (d : Option FanDetail) (z' : ZoneId) : (s.raiseAlarm k d).extractOf z' = s.extractOf z' := by
  simp [State.extractOf]
@[simp] theorem State.raiseAlarm_makeUpOf (k : AlarmKey) (d : Option FanDetail) (z' : ZoneId) : (s.raiseAlarm k d).makeUpOf z' = s.makeUpOf z' := by
  simp [State.makeUpOf]

/-! ### State.enqueue -/
@[simp] theorem State.enqueue_partTime (o : Order) : (s.enqueue o).partTime = s.partTime := by unfold State.enqueue; split <;> rfl
@[simp] theorem State.enqueue_zones (o : Order) : (s.enqueue o).zones = s.zones := by unfold State.enqueue; split <;> rfl
@[simp] theorem State.enqueue_heads (o : Order) : (s.enqueue o).heads = s.heads := by unfold State.enqueue; split <;> rfl
@[simp] theorem State.enqueue_plan (o : Order) : (s.enqueue o).plan = s.plan := by unfold State.enqueue; split <;> rfl
@[simp] theorem State.enqueue_resolver (o : Order) : (s.enqueue o).resolver = s.resolver := by unfold State.enqueue; split <;> rfl
@[simp] theorem State.enqueue_fans (o : Order) : (s.enqueue o).fans = s.fans := by unfold State.enqueue; split <;> rfl
@[simp] theorem State.enqueue_duty (o : Order) : (s.enqueue o).duty = s.duty := by unfold State.enqueue; split <;> rfl
@[simp] theorem State.enqueue_grace (o : Order) : (s.enqueue o).grace = s.grace := by unfold State.enqueue; split <;> rfl
@[simp] theorem State.enqueue_extract (o : Order) : (s.enqueue o).extract = s.extract := by unfold State.enqueue; split <;> rfl
@[simp] theorem State.enqueue_makeUp (o : Order) : (s.enqueue o).makeUp = s.makeUp := by unfold State.enqueue; split <;> rfl
@[simp] theorem State.enqueue_pathProven (o : Order) : (s.enqueue o).pathProven = s.pathProven := by unfold State.enqueue; split <;> rfl
@[simp] theorem State.enqueue_indications (o : Order) : (s.enqueue o).indications = s.indications := by unfold State.enqueue; split <;> rfl
@[simp] theorem State.enqueue_alloc (o : Order) : (s.enqueue o).alloc = s.alloc := by unfold State.enqueue; split <;> rfl
@[simp] theorem State.enqueue_alarms (o : Order) : (s.enqueue o).alarms = s.alarms := by unfold State.enqueue; split <;> rfl
@[simp] theorem State.enqueue_ports (o : Order) : (s.enqueue o).ports = s.ports := by unfold State.enqueue; split <;> rfl
@[simp] theorem State.enqueue_store (o : Order) : (s.enqueue o).store = s.store := by unfold State.enqueue; split <;> rfl
@[simp] theorem State.enqueue_pending (o : Order) : (s.enqueue o).pending = s.pending := by unfold State.enqueue; split <;> rfl
@[simp] theorem State.enqueue_zone (o : Order) (z' : ZoneId) : (s.enqueue o).zone z' = s.zone z' := by
  simp [State.zone]
@[simp] theorem State.enqueue_head (o : Order) (h' : HeadId) : (s.enqueue o).head h' = s.head h' := by
  simp [State.head]
@[simp] theorem State.enqueue_fan (o : Order) (n' : FanId) : (s.enqueue o).fan n' = s.fan n' := by
  simp [State.fan]
@[simp] theorem State.enqueue_extractOf (o : Order) (z' : ZoneId) : (s.enqueue o).extractOf z' = s.extractOf z' := by
  simp [State.extractOf]
@[simp] theorem State.enqueue_makeUpOf (o : Order) (z' : ZoneId) : (s.enqueue o).makeUpOf z' = s.makeUpOf z' := by
  simp [State.makeUpOf]
@[simp] theorem State.enqueue_port (o : Order) (p' : Port) : (s.enqueue o).port p' = s.port p' := by
  simp [State.port]

/-! ### What an update changes -/

@[simp] theorem State.modLine_line (f : FieldLine → FieldLine) : (s.modLine f).line = f s.line := rfl
@[simp] theorem State.modPlan_plan (f : PlanControl → PlanControl) : (s.modPlan f).plan = f s.plan := rfl
@[simp] theorem State.modResolver_resolver (f : Resolver → Resolver) : (s.modResolver f).resolver = f s.resolver := rfl
@[simp] theorem State.trigger_record : s.trigger.alloc.record = s.alloc.record := rfl
@[simp] theorem State.trigger_supply : s.trigger.alloc.supply = s.alloc.supply := rfl
@[simp] theorem State.trigger_normal : s.trigger.alloc.normal = s.alloc.normal := rfl
@[simp] theorem State.trigger_standby : s.trigger.alloc.standby = s.alloc.standby := rfl
@[simp] theorem State.trigger_window : s.trigger.alloc.window = s.alloc.window := rfl
@[simp] theorem State.trigger_stageDown : s.trigger.alloc.stageDown = s.alloc.stageDown := rfl
@[simp] theorem State.triggerIf_record (b : Bool) : (s.triggerIf b).alloc.record = s.alloc.record := by cases b <;> rfl
@[simp] theorem State.triggerIf_supply (b : Bool) : (s.triggerIf b).alloc.supply = s.alloc.supply := by cases b <;> rfl
@[simp] theorem State.triggerIf_normal (b : Bool) : (s.triggerIf b).alloc.normal = s.alloc.normal := by cases b <;> rfl
@[simp] theorem State.triggerIf_standby (b : Bool) : (s.triggerIf b).alloc.standby = s.alloc.standby := by cases b <;> rfl
@[simp] theorem State.triggerIf_window (b : Bool) : (s.triggerIf b).alloc.window = s.alloc.window := by cases b <;> rfl
@[simp] theorem State.triggerIf_stageDown (b : Bool) : (s.triggerIf b).alloc.stageDown = s.alloc.stageDown := by
  cases b <;> rfl
@[simp] theorem State.raiseAll_ports (n : Notice) : (s.raiseAll n).ports = s.ports.map (PortState.raise n) := rfl
@[simp] theorem State.clearAlarm_alarms (k : AlarmKey) : (s.clearAlarm k).alarms = s.alarms.clear k s.partTime := rfl
@[simp] theorem State.raiseAlarm_alarms (k : AlarmKey) (d : Option FanDetail) :
    (s.raiseAlarm k d).alarms = s.alarms.raise k d s.partTime := by
  unfold State.raiseAlarm; split <;> rfl

end Sys2Proof.Machine
end

