-- ==== Sys2Proof/Laws/Tables.lean ====
section
/-! SUPPORT. The entry of a table after the change of one entry, for vectors, for the three ports and for the objects of
the state. -/

namespace Sys2Proof

-- One proof at a time: with a thread for each the package as one text would not fit in memory.
set_option Elab.async false

theorem upd_get {α : Type} {n : Nat} (v : Vector α n) (i j : Fin n) (f : α → α) :
    (upd v i f)[j.val] = if j = i then f v[i.val] else v[j.val] := by
  unfold upd
  rw [Vector.getElem_set]
  split <;> rename_i h
  · rw [if_pos (Fin.ext h.symm)]
  · rw [if_neg fun e => h (congrArg Fin.val e).symm]

@[simp] theorem upd_get_self {α : Type} {n : Nat} (v : Vector α n) (i : Fin n) (f : α → α) :
    (upd v i f)[i.val] = f v[i.val] := by rw [upd_get, if_pos rfl]

theorem upd_get_other {α : Type} {n : Nat} (v : Vector α n) {i j : Fin n} (f : α → α) (h : j ≠ i) :
    (upd v i f)[j.val] = v[j.val] := by rw [upd_get, if_neg h]

/-- A projection that the change keeps is the same table of projections. -/
theorem upd_map {α β : Type} {n : Nat} (v : Vector α n) (i : Fin n) (f : α → α) (g : α → β)
    (h : g (f v[i.val]) = g v[i.val]) : (upd v i f).map g = v.map g := by
  apply Vector.ext
  intro j hj
  have := upd_get v i ⟨j, hj⟩ f
  simp only at this
  rw [Vector.getElem_map, Vector.getElem_map, this]
  split
  · rename_i e; cases e; exact h
  · rfl

namespace Machine

@[simp] theorem PerPort.get_upd_self {α : Type} (v : PerPort α) (p : Port) (f : α → α) :
    (v.upd p f).get p = f (v.get p) := by cases p <;> rfl

theorem PerPort.get_upd_other {α : Type} (v : PerPort α) {p q : Port} (f : α → α) (h : q ≠ p) :
    (v.upd p f).get q = v.get q := by cases p <;> cases q <;> first | rfl | exact absurd rfl h

@[simp] theorem PerPort.get_map {α β : Type} (f : α → β) (v : PerPort α) (p : Port) :
    (v.map f).get p = f (v.get p) := by cases p <;> rfl

theorem PerPort.ext_get {α : Type} {v w : PerPort α} (h : ∀ p, v.get p = w.get p) : v = w := by
  cases v; cases w
  have h1 := h .building
  have h2 := h .alarm
  have h3 := h .override
  simp only [PerPort.get] at h1 h2 h3
  rw [h1, h2, h3]

theorem PerPort.map_upd {α β : Type} (g : α → β) (v : PerPort α) (p : Port) (f : α → α)
    (h : g (f (v.get p)) = g (v.get p)) : (v.upd p f).map g = v.map g := by
  cases p <;> simp only [PerPort.upd, PerPort.map, PerPort.get] at * <;> rw [h]

variable (s : State)

@[simp] theorem State.modZone_zone_self (z : ZoneId) (f : Zone → Zone) : (s.modZone z f).zone z = f (s.zone z) := by
  simp [State.zone, State.modZone]
theorem State.modZone_zone_other {z w : ZoneId} (f : Zone → Zone) (h : w ≠ z) : (s.modZone z f).zone w = s.zone w := by
  simp [State.zone, State.modZone, upd_get_other _ _ h]
@[simp] theorem State.modHead_head_self (h : HeadId) (f : Head → Head) : (s.modHead h f).head h = f (s.head h) := by
  simp [State.head, State.modHead]
theorem State.modHead_head_other {h k : HeadId} (f : Head → Head) (e : k ≠ h) : (s.modHead h f).head k = s.head k := by
  simp [State.head, State.modHead, upd_get_other _ _ e]
@[simp] theorem State.modFan_fan_self (n : FanId) (f : Fan → Fan) : (s.modFan n f).fan n = f (s.fan n) := by
  simp [State.fan, State.modFan]
theorem State.modFan_fan_other {n m : FanId} (f : Fan → Fan) (h : m ≠ n) : (s.modFan n f).fan m = s.fan m := by
  simp [State.fan, State.modFan, upd_get_other _ _ h]
@[simp] theorem State.modPort_port_self (p : Port) (f : PortState → PortState) : (s.modPort p f).port p = f (s.port p) := by
  simp [State.port, State.modPort]
theorem State.modPort_port_other {p q : Port} (f : PortState → PortState) (h : q ≠ p) :
    (s.modPort p f).port q = s.port q := by simp [State.port, State.modPort, PerPort.get_upd_other _ _ h]
@[simp] theorem State.raiseAll_port (n : Notice) (p : Port) : (s.raiseAll n).port p = (s.port p).raise n := by
  simp [State.port]

end Machine
end Sys2Proof
end

