-- ==== Sys2Proof/Laws/Lasting.lean ====
section
/-! SUPPORT. A pass, its handover and the choice of an exchange keep all that Lasting holds (R113: the blocks that a pass
reads from do not change their state in its course). One lemma per operation; `finish_lasting` is the one to cite. -/

namespace Sys2Proof.Machine

-- One proof at a time: with a thread for each the package as one text would not fit in memory.
set_option Elab.async false

variable (s : State)

/-! ### The updates -/

@[simp] theorem PortState.raise_lasting (n : Notice) (q : PortState) : (q.raise n).lasting = q.lasting := rfl

@[simp] theorem PerPort.raise_lasting (n : Notice) (v : PerPort PortState) :
    (v.map (PortState.raise n)).map PortState.lasting = v.map PortState.lasting := rfl

theorem State.modFan_lasting (n : FanId) (f : Fan → Fan) (h : ∀ q, (f q).config = q.config) :
    (s.modFan n f).lasting = s.lasting := by
  have e : (upd s.fans n f).map Fan.config = s.fans.map Fan.config := upd_map _ _ _ _ (h _)
  simp only [State.lasting, State.modFan, e]

@[simp] theorem State.modLine_lasting (f : FieldLine → FieldLine) : (s.modLine f).lasting = s.lasting := rfl
@[simp] theorem State.trigger_lasting : s.trigger.lasting = s.lasting := rfl
@[simp] theorem State.triggerIf_lasting (b : Bool) : (s.triggerIf b).lasting = s.lasting := by cases b <;> rfl
@[simp] theorem State.raiseAll_lasting (n : Notice) : (s.raiseAll n).lasting = s.lasting := rfl
@[simp] theorem State.clearAlarm_lasting (k : AlarmKey) : (s.clearAlarm k).lasting = s.lasting := rfl
@[simp] theorem State.raiseAlarm_lasting (k : AlarmKey) (d : Option FanDetail) :
    (s.raiseAlarm k d).lasting = s.lasting := by unfold State.raiseAlarm; split <;> rfl
@[simp] theorem State.enqueue_lasting (o : Order) : (s.enqueue o).lasting = s.lasting := by
  unfold State.enqueue; split <;> rfl
@[simp] theorem State.raiseOthers_lasting (n : Notice) (p : Port) : (s.raiseOthers n p).lasting = s.lasting := by
  cases p <;> rfl
@[simp] theorem State.indicate_lasting (z : ZoneId) : (s.indicate z).lasting = s.lasting := rfl
@[simp] theorem State.modExtract_lasting (z : ZoneId) (f : ExtractDamper → ExtractDamper) :
    (s.modExtract z f).lasting = s.lasting := rfl
@[simp] theorem State.modMakeUp_lasting (z : ZoneId) (f : MakeUpDamper → MakeUpDamper) :
    (s.modMakeUp z f).lasting = s.lasting := rfl

/-! ### Fans -/

@[simp] theorem State.enterState_lasting (n : FanId) (st : FanState) (t : Option Nat) :
    (s.enterState n st t).lasting = s.lasting := by
  rw [State.enterState, State.triggerIf_lasting]
  exact State.modFan_lasting _ _ _ fun _ => rfl
@[simp] theorem State.queueRun_lasting (n : FanId) : (s.queueRun n).lasting = s.lasting := by
  rw [State.queueRun, State.enqueue_lasting]
  exact State.modFan_lasting _ _ _ fun _ => rfl
@[simp] theorem State.queueStop_lasting (n : FanId) : (s.queueStop n).lasting = s.lasting := by
  rw [State.queueStop, State.enqueue_lasting]
  exact State.modFan_lasting _ _ _ fun _ => rfl
@[simp] theorem State.startFan_lasting (n : FanId) : (s.startFan n).lasting = s.lasting := by
  rw [State.startFan, State.queueRun_lasting, State.enterState_lasting]
  exact State.modFan_lasting _ _ _ fun _ => rfl
@[simp] theorem State.startIfAllowed_lasting (n : FanId) : (s.startIfAllowed n).lasting = s.lasting := by
  unfold State.startIfAllowed; split <;> simp
@[simp] theorem State.enterReady_lasting (n : FanId) : (s.enterReady n).lasting = s.lasting := by simp [State.enterReady]
@[simp] theorem State.stopFan_lasting (n : FanId) : (s.stopFan n).lasting = s.lasting := by simp [State.stopFan]
@[simp] theorem State.enterEnrolHold_lasting (n : FanId) : (s.enterEnrolHold n).lasting = s.lasting := by
  simp [State.enterEnrolHold]
@[simp] theorem State.tripFan_lasting (n : FanId) (d : FanDetail) : (s.tripFan n d).lasting = s.lasting := by
  unfold State.tripFan
  simp only [State.raiseAll_lasting, State.raiseAlarm_lasting, State.queueStop_lasting, State.enterState_lasting]
  exact State.modFan_lasting _ _ _ fun _ => rfl
@[simp] theorem State.loseFan_lasting (n : FanId) : (s.loseFan n).lasting = s.lasting := by
  unfold State.loseFan
  split
  · rfl
  · simp only [State.raiseAll_lasting, State.raiseAlarm_lasting, State.enterState_lasting]
    exact State.modFan_lasting _ _ _ fun _ => rfl
@[simp] theorem State.enterEnrolling_lasting (n : FanId) : (s.enterEnrolling n).lasting = s.lasting := by
  rw [State.enterEnrolling, State.enqueue_lasting, State.enterState_lasting]
  exact State.modFan_lasting _ _ _ fun _ => rfl
@[simp] theorem State.completeEnrolment_lasting (n : FanId) (a : Ability) (r : DriveReport) :
    (s.completeEnrolment n a r).lasting = s.lasting := by
  have h : (s.modFan n fun f => f.resolve a).lasting = s.lasting := State.modFan_lasting _ _ _ fun _ => rfl
  unfold State.completeEnrolment
  simp only
  split
  · simp [h]
  · split <;> simp [h]
@[simp] theorem State.restFan_lasting (n : FanId) : (s.restFan n).lasting = s.lasting := by
  unfold State.restFan; simp only; split <;> simp
@[simp] theorem State.fanStopped_lasting (n : FanId) : (s.fanStopped n).lasting = s.lasting := by
  unfold State.fanStopped
  split
  · rw [State.enterEnrolHold_lasting]
    exact State.modFan_lasting _ _ _ fun _ => rfl
  · split <;> simp
@[simp] theorem State.commandOff_lasting (n : FanId) (r : DriveReport) : (s.commandOff n r).lasting = s.lasting := by
  unfold State.commandOff; split <;> simp
@[simp] theorem State.plainAnswer_lasting (n : FanId) (r : DriveReport) : (s.plainAnswer n r).lasting = s.lasting := by
  have h : (s.modFan n fun f => { f with plainAnswers := f.plainAnswers + 1 }).lasting = s.lasting :=
    State.modFan_lasting _ _ _ fun _ => rfl
  unfold State.plainAnswer; simp only; split <;> simp [h]
@[simp] theorem State.enrollingReply_lasting (n : FanId) (r : DriveReport) (k : Option Order) (a : Option Ability) :
    (s.enrollingReply n r k a).lasting = s.lasting := by
  unfold State.enrollingReply
  split
  · simp
  · split <;> simp
@[simp] theorem State.startingReply_lasting (n : FanId) (r : DriveReport) : (s.startingReply n r).lasting = s.lasting := by
  unfold State.startingReply; split <;> simp
@[simp] theorem State.runningReply_lasting (n : FanId) (r : DriveReport) : (s.runningReply n r).lasting = s.lasting := by
  unfold State.runningReply; split <;> simp
theorem State.unlessFault_lasting (n : FanId) (r : DriveReport) (next : State) (h : next.lasting = s.lasting) :
    (s.unlessFault n r next).lasting = s.lasting := by
  unfold State.unlessFault; split <;> simp [h]
@[simp] theorem State.reportTaken_lasting (n : FanId) (r : DriveReport) (k : Option Order) (a : Option Ability) :
    (s.reportTaken n r k a).lasting = s.lasting := by
  unfold State.reportTaken
  split
  · rfl
  · simp
  · split <;> simp
  · exact State.unlessFault_lasting _ _ _ _ (by simp)
  · exact State.unlessFault_lasting _ _ _ _ (by simp)
  · exact State.unlessFault_lasting _ _ _ _ (by simp)
  · exact State.unlessFault_lasting _ _ _ _ (by simp)
  · exact State.unlessFault_lasting _ _ _ _ (by split <;> simp)
  · rfl
  · simp
@[simp] theorem State.driveReply_lasting (n : FanId) (run speed fault : Byte) (k : Option Order) (a : Option Ability) :
    (s.driveReply n run speed fault k a).lasting = s.lasting := by
  rw [State.driveReply, State.reportTaken_lasting]
  exact State.modFan_lasting _ _ _ fun _ => rfl

theorem foldl_lasting {α : Type} (l : List α) (f : State → α → State) (h : ∀ s a, (f s a).lasting = s.lasting) :
    (l.foldl f s).lasting = s.lasting := by
  induction l generalizing s with
  | nil => rfl
  | cons a l ih => rw [List.foldl_cons, ih, h]

theorem State.eachFan_lasting (f : State → FanId → State) (h : ∀ s n, (f s n).lasting = s.lasting) :
    (s.eachFan f).lasting = s.lasting := foldl_lasting s _ f h
theorem State.eachZone_lasting (f : State → ZoneId → State) (h : ∀ s z, (f s z).lasting = s.lasting) :
    (s.eachZone f).lasting = s.lasting := foldl_lasting s _ f h

@[simp] theorem State.smokeBegins_lasting : s.smokeBegins.lasting = s.lasting := by
  rw [State.smokeBegins, State.eachFan_lasting _ _ fun s n => by split <;> simp]; rfl
@[simp] theorem State.smokeEnds_lasting : s.smokeEnds.lasting = s.lasting := by
  unfold State.smokeEnds; split <;> rfl
@[simp] theorem State.pathGained_lasting : s.pathGained.lasting = s.lasting := by
  rw [State.pathGained, State.eachFan_lasting _ _ fun s n => by split <;> simp]; rfl
@[simp] theorem State.pathLost_lasting : s.pathLost.lasting = s.lasting := by
  unfold State.pathLost
  split
  · split <;> rfl
  · rfl
@[simp] theorem State.graceStop_lasting (n : FanId) : (s.graceStop n).lasting = s.lasting := by
  unfold State.graceStop
  split
  · refine Eq.trans ?_ (State.queueStop_lasting s n)
    exact State.modFan_lasting _ _ _ fun _ => rfl
  · rfl
@[simp] theorem State.graceExpired_lasting : s.graceExpired.lasting = s.lasting := by
  rw [State.graceExpired, State.eachFan_lasting _ _ fun s n => State.graceStop_lasting s n]; rfl
@[simp] theorem State.calledFor_lasting (n : FanId) : (s.calledFor n).lasting = s.lasting := by
  have h : (s.modFan n fun f => { f with startPending := true }).lasting = s.lasting := State.modFan_lasting _ _ _ fun _ => rfl
  unfold State.calledFor
  split
  · rw [State.startIfAllowed_lasting, h]
  · simp only; split
    · rw [State.enterReady_lasting, h]
    · exact h
  · split
    · exact State.queueRun_lasting _ _
    · rfl
  · split
    · exact State.queueRun_lasting _ _
    · rfl
  · rfl
@[simp] theorem State.notCalledFor_lasting (n : FanId) : (s.notCalledFor n).lasting = s.lasting := by
  unfold State.notCalledFor
  split
  · exact State.modFan_lasting _ _ _ fun _ => rfl
  · exact State.modFan_lasting _ _ _ fun _ => rfl
  · exact State.modFan_lasting _ _ _ fun _ => rfl
  · exact State.stopFan_lasting _ _
  · exact State.stopFan_lasting _ _
  · rfl
@[simp] theorem State.fanTakes_lasting (n : FanId) : (s.fanTakes n).lasting = s.lasting := by
  unfold State.fanTakes; split <;> simp
@[simp] theorem State.turnDuty_lasting (old : AllocRecord) : (s.turnDuty old).lasting = s.lasting := by
  unfold State.turnDuty; split <;> rfl
@[simp] theorem State.takeRunSet_lasting (old : AllocRecord) : (s.takeRunSet old).lasting = s.lasting := by
  rw [State.takeRunSet, State.turnDuty_lasting, State.eachFan_lasting _ _ fun s n => State.fanTakes_lasting s n]

/-! ### Dampers -/

@[simp] theorem State.reprove_lasting : s.reprove.lasting = s.lasting := by
  unfold State.reprove
  split
  · rfl
  · split <;> rw [State.trigger_lasting] <;> simp <;> rfl
@[simp] theorem State.damperFault_lasting (k : AlarmKey) : (s.damperFault k).lasting = s.lasting := by
  simp [State.damperFault]
@[simp] theorem State.driveExtract_lasting (z : ZoneId) : (s.driveExtract z).lasting = s.lasting := by
  simp [State.driveExtract]
@[simp] theorem State.faultExtract_lasting (z : ZoneId) : (s.faultExtract z).lasting = s.lasting := by
  simp [State.faultExtract]
@[simp] theorem State.settleExtract_lasting (z : ZoneId) : (s.settleExtract z).lasting = s.lasting := by
  simp [State.settleExtract]
@[simp] theorem State.judgeExtract_lasting (z : ZoneId) : (s.judgeExtract z).lasting = s.lasting := by
  unfold State.judgeExtract
  simp only
  split
  · simp
  all_goals (split <;> try split) <;> simp
@[simp] theorem State.storeExtract_lasting (z : ZoneId) (p f : Byte) : (s.storeExtract z p f).lasting = s.lasting := by
  simp [State.storeExtract]
@[simp] theorem State.extractReplied_lasting (z : ZoneId) (p f : Byte) : (s.extractReplied z p f).lasting = s.lasting := by
  simp [State.extractReplied]
@[simp] theorem State.loseExtract_lasting (z : ZoneId) : (s.loseExtract z).lasting = s.lasting := by
  unfold State.loseExtract; split <;> simp
@[simp] theorem State.commandExtract_lasting (z : ZoneId) (c : Nat) : (s.commandExtract z c).lasting = s.lasting := by
  unfold State.commandExtract
  split
  · rfl
  · split <;> simp
@[simp] theorem State.driveMakeUp_lasting (z : ZoneId) : (s.driveMakeUp z).lasting = s.lasting := by
  simp [State.driveMakeUp]
@[simp] theorem State.faultMakeUp_lasting (z : ZoneId) : (s.faultMakeUp z).lasting = s.lasting := by
  simp [State.faultMakeUp]
@[simp] theorem State.settleMakeUp_lasting (z : ZoneId) : (s.settleMakeUp z).lasting = s.lasting := by
  simp [State.settleMakeUp]
@[simp] theorem State.straysMakeUp_lasting (z : ZoneId) : (s.straysMakeUp z).lasting = s.lasting := by
  unfold State.straysMakeUp; split <;> simp
@[simp] theorem State.judgeMakeUp_lasting (z : ZoneId) : (s.judgeMakeUp z).lasting = s.lasting := by
  unfold State.judgeMakeUp
  simp only
  split
  · simp
  · split
    · split <;> simp
    · split <;> simp
@[simp] theorem State.storeMakeUp_lasting (z : ZoneId) (o c f : Byte) : (s.storeMakeUp z o c f).lasting = s.lasting := by
  simp [State.storeMakeUp]
@[simp] theorem State.makeUpReplied_lasting (z : ZoneId) (o c f : Byte) : (s.makeUpReplied z o c f).lasting = s.lasting := by
  simp [State.makeUpReplied]
@[simp] theorem State.loseMakeUp_lasting (z : ZoneId) : (s.loseMakeUp z).lasting = s.lasting := by
  unfold State.loseMakeUp; split <;> simp
@[simp] theorem State.commandMakeUp_lasting (z : ZoneId) (c : MakeUpCommand) : (s.commandMakeUp z c).lasting = s.lasting := by
  unfold State.commandMakeUp
  split
  · rfl
  · split <;> simp
@[simp] theorem State.extractTakes_lasting (z : ZoneId) : (s.extractTakes z).lasting = s.lasting := by
  unfold State.extractTakes; split <;> simp
@[simp] theorem State.makeUpTakes_lasting (z : ZoneId) : (s.makeUpTakes z).lasting = s.lasting := by
  unfold State.makeUpTakes; split <;> simp
@[simp] theorem State.takeCommands_lasting : s.takeCommands.lasting = s.lasting := by
  rw [State.takeCommands, State.reprove_lasting, State.eachZone_lasting _ _ fun s z => State.makeUpTakes_lasting s z,
    State.eachZone_lasting _ _ fun s z => State.extractTakes_lasting s z]

/-! ### The pass, its chain and the end of a step -/

@[simp] theorem State.putRecord_lasting (r : AllocRecord) (t : Option Nat) : (s.putRecord r t).lasting = s.lasting := by
  unfold State.putRecord; simp only; split <;> rfl
@[simp] theorem State.pass_lasting (b : Bool) : (s.pass b).lasting = s.lasting := by simp [State.pass]
@[simp] theorem State.chain_lasting (k : Nat) : (s.chain k).lasting = s.lasting := by
  induction k generalizing s with
  | zero => rfl
  | succ k ih => unfold State.chain; split <;> simp [ih]
@[simp] theorem State.chooseExchange_lasting : s.chooseExchange.lasting = s.lasting := rfl
@[simp] theorem State.finish_lasting : s.finish.lasting = s.lasting := by simp [State.finish, State.settle]
@[simp] theorem State.finishExpiry_lasting : s.finishExpiry.lasting = s.lasting := by simp [State.finishExpiry]

/-! ### The fields of Lasting -/

variable {s t : State}

theorem zones_of_lasting (h : t.lasting = s.lasting) : t.zones = s.zones := congrArg Lasting.zones h
theorem heads_of_lasting (h : t.lasting = s.lasting) : t.heads = s.heads := congrArg Lasting.heads h
theorem plan_of_lasting (h : t.lasting = s.lasting) : t.plan = s.plan := congrArg Lasting.plan h
theorem resolver_of_lasting (h : t.lasting = s.lasting) : t.resolver = s.resolver := congrArg Lasting.resolver h
theorem store_of_lasting (h : t.lasting = s.lasting) : t.store = s.store := congrArg Lasting.store h
theorem pending_of_lasting (h : t.lasting = s.lasting) : t.pending = s.pending := congrArg Lasting.pending h
theorem partTime_of_lasting (h : t.lasting = s.lasting) : t.partTime = s.partTime := congrArg Lasting.partTime h
theorem port_of_lasting (h : t.lasting = s.lasting) (p : Port) : (t.port p).lasting = (s.port p).lasting := by
  have := congrArg (fun l => (Lasting.ports l).get p) h
  simpa [State.lasting, State.port] using this
theorem config_of_lasting (h : t.lasting = s.lasting) (n : FanId) : (t.fan n).config = (s.fan n).config := by
  have h1 : t.fans.map Fan.config = s.fans.map Fan.config := congrArg Lasting.fanConfigs h
  have h2 := congrArg (fun v : Vector FanConfig 8 => v[n.val]) h1
  simpa [State.fan] using h2

end Sys2Proof.Machine
end

