-- ==== Sys2Proof/Laws/Notices.lean ====
section
/-! SUPPORT. The marks of a notice through every update that can reach a port (R161 to R164): a raise sets the pending mark
and clears the seen mark, and no other raise undoes it. -/

namespace Sys2Proof.Machine

-- One proof at a time: with a thread for each the package as one text would not fit in memory.
set_option Elab.async false

theorem Notice.place_lt (n : Notice) : n.place < 16 := by cases n <;> decide

theorem Notice.place_inj {n m : Notice} (h : n.place = m.place) : n = m := by
  cases n <;> cases m <;> first | rfl | exact absurd h (by decide)

/-- R172: the notice set of one notice holds its bit alone. -/
theorem Notice.getLsbD_mark (n : Notice) (i : Nat) : n.mark.getLsbD i = decide (i = n.place) := by
  have h : ∀ i : Fin 16, n.mark.getLsbD i.val = decide (i.val = n.place) := by cases n <;> decide
  by_cases hi : i < 16
  · exact h ⟨i, hi⟩
  · rw [BitVec.getLsbD_of_ge _ _ (by omega)]
    have := n.place_lt
    exact (decide_eq_false (by omega)).symm

variable (s : State)

/-! ### One port -/

theorem PortState.raise_pending (n : Notice) (q : PortState) (i : Nat) :
    (q.raise n).pending.getLsbD i = (q.pending.getLsbD i || decide (i = n.place)) := by
  simp [PortState.raise, PortState.formLine, Notice.getLsbD_mark]

theorem PortState.raise_seen (n : Notice) (q : PortState) (i : Nat) :
    (q.raise n).seen.getLsbD i = (q.seen.getLsbD i && !decide (i = n.place)) := by
  by_cases hi : i < 16
  · simp only [PortState.raise, PortState.formLine, BitVec.getLsbD_and, BitVec.getLsbD_not, hi, decide_true,
      Bool.true_and, Notice.getLsbD_mark]
  · rw [BitVec.getLsbD_of_ge _ _ (by omega), BitVec.getLsbD_of_ge _ _ (by omega)]; rfl

@[simp] theorem PortState.raise_line (n : Notice) (q : PortState) : (q.raise n).line = (q.raise n).lineWanted := rfl

/-! ### The three ports -/

/-- t has every notice of s that is pending and not seen, on every port. -/
def State.KeepsNotices (s t : State) : Prop := ∀ n p, s.noticed n p → t.noticed n p

theorem State.KeepsNotices.refl : s.KeepsNotices s := fun _ _ h => h

theorem State.KeepsNotices.trans {s t u : State} (h : s.KeepsNotices t) (k : t.KeepsNotices u) : s.KeepsNotices u :=
  fun n p e => k n p (h n p e)

theorem State.KeepsNotices.of_ports {s t : State} (h : t.ports = s.ports) : s.KeepsNotices t := fun n p e => by
  simpa [State.noticed, State.port, h] using e

/-- R161: a raise on all three ports. -/
theorem State.raiseAll_noticedByAll (n : Notice) : (s.raiseAll n).noticedByAll n := fun p => by
  simp [State.noticed, PortState.raise_pending, PortState.raise_seen]

theorem State.raiseAll_keepsNotices (n : Notice) : s.KeepsNotices (s.raiseAll n) := fun m p h => by
  obtain ⟨h1, h2⟩ := h
  simp [State.noticed, PortState.raise_pending, PortState.raise_seen, h1, h2]

/-- R161: a raise on the two ports other than the one named. -/
theorem State.raiseOthers_noticed (n : Notice) {p q : Port} (h : q ≠ p) : (s.raiseOthers n p).noticed n q := by
  cases p <;> cases q <;> first
    | exact absurd rfl h
    | simp [State.raiseOthers, State.noticed, State.port, PerPort.get, PerPort.upd, State.modPort,
        PortState.raise_pending, PortState.raise_seen]

theorem State.raiseOthers_keepsNotices (n : Notice) (p : Port) : s.KeepsNotices (s.raiseOthers n p) := fun m q h => by
  obtain ⟨h1, h2⟩ := h
  cases p <;> cases q <;>
    simp_all [State.raiseOthers, State.noticed, State.port, PerPort.get, PerPort.upd, State.modPort,
        PortState.raise_pending, PortState.raise_seen]

theorem State.raiseAlarm_keepsNotices (k : AlarmKey) (d : Option FanDetail) : s.KeepsNotices (s.raiseAlarm k d) := by
  unfold State.raiseAlarm
  split
  · exact State.KeepsNotices.trans (State.KeepsNotices.of_ports (t := { s with alarms := s.alarms.raise k d s.partTime }) rfl)
      (State.raiseAll_keepsNotices _ _)
  · exact State.KeepsNotices.of_ports rfl

/-- A port change that keeps the pending marks and adds no seen mark. -/
theorem State.modPort_keepsNotices (p : Port) (f : PortState → PortState) (h1 : (f (s.port p)).pending = (s.port p).pending)
    (h2 : (f (s.port p)).seen = (s.port p).seen) : s.KeepsNotices (s.modPort p f) := fun m q h => by
  by_cases e : q = p
  · subst e; simpa [State.noticed, h1, h2] using h
  · simpa [State.noticed, State.modPort_port_other s f e] using h

end Sys2Proof.Machine
end

