-- ==== Sys2Proof/Laws/Alarms.lean ====
section
/-! SUPPORT. The alarm list through each of its operations (R133 to R140): the laws of the list are kept, and which kinds and
sources have an ACTIVE entry afterwards. -/

namespace Sys2Proof.Machine

-- One proof at a time: with a thread for each the package as one text would not fit in memory.
set_option Elab.async false

/-! ### The sequence counter (R134) -/

theorem nextSequence_range {n : Nat} (h : 1 ≤ n ∧ n ≤ Config.lastSequence) :
    1 ≤ nextSequence n ∧ nextSequence n ≤ Config.lastSequence := by
  unfold nextSequence; split <;> simp only [Config.lastSequence] at * <;> omega

/-- The value i steps after one, with the counter continuing at 1 after the last. -/
theorem nextSequence_iterate {n : Nat} (h : 1 ≤ n ∧ n ≤ Config.lastSequence) (i : Nat) :
    nextSequence^[i] n = (n - 1 + i) % Config.lastSequence + 1 := by
  induction i with
  | zero => simp only [Config.lastSequence] at *; simp; omega
  | succ i ih =>
    rw [Function.iterate_succ_apply', ih]
    unfold nextSequence; split <;> simp only [Config.lastSequence] at * <;> omega

/-- The search ends at a value no entry holds, or every value it tried is held. -/
theorem freeSequence_cases (es : List AlarmEntry) (k n : Nat) :
    (∃ i < k, freeSequence es k n = nextSequence^[i] n ∧ ∀ e ∈ es, e.sequence ≠ freeSequence es k n) ∨
      ∀ i < k, ∃ e ∈ es, e.sequence = nextSequence^[i] n := by
  induction k generalizing n with
  | zero => exact .inr fun i h => absurd h (by omega)
  | succ k ih =>
    unfold freeSequence
    split
    · rename_i h
      obtain ⟨e, he, hn⟩ := List.any_eq_true.1 h
      rcases ih (nextSequence n) with ⟨i, hi, h1, h2⟩ | h'
      · exact .inl ⟨i + 1, by omega, h1, h2⟩
      · refine .inr fun i hi => ?_
        cases i with
        | zero => exact ⟨e, he, by simpa using hn⟩
        | succ i => exact h' i (by omega)
    · rename_i h
      refine .inl ⟨0, by omega, rfl, fun e he hn => h (List.any_eq_true.2 ⟨e, he, by simpa using hn⟩)⟩

/-- R134: a list of at most 32 entries leaves a free value within 33 steps. -/
theorem freeSequence_free {es : List AlarmEntry} {n : Nat} (hl : es.length ≤ Config.listSize)
    (h : 1 ≤ n ∧ n ≤ Config.lastSequence) :
    (∀ e ∈ es, e.sequence ≠ freeSequence es (Config.listSize + 1) n) ∧
      1 ≤ freeSequence es (Config.listSize + 1) n ∧ freeSequence es (Config.listSize + 1) n ≤ Config.lastSequence := by
  rcases freeSequence_cases es (Config.listSize + 1) n with ⟨i, _, h1, h2⟩ | h'
  · refine ⟨h2, ?_⟩
    rw [h1, nextSequence_iterate h]
    have := Nat.mod_lt (n - 1 + i) (show 0 < Config.lastSequence by decide)
    omega
  · exfalso
    have hsub : (Finset.range (Config.listSize + 1)).image (fun i => nextSequence^[i] n) ⊆
        (es.map AlarmEntry.sequence).toFinset := by
      intro x hx
      obtain ⟨i, hi, rfl⟩ := Finset.mem_image.1 hx
      obtain ⟨e, he, hn⟩ := h' i (by simpa using hi)
      simp only [List.mem_toFinset, List.mem_map]
      exact ⟨e, he, hn⟩
    have hinj : Set.InjOn (fun i => nextSequence^[i] n) (Finset.range (Config.listSize + 1)) := by
      intro i hi j hj hij
      simp only [Finset.coe_range, Set.mem_Iio, Config.listSize] at hi hj
      simp only [nextSequence_iterate h, Config.lastSequence] at hij h
      omega
    have hc := Finset.card_le_card hsub
    rw [Finset.card_image_of_injOn hinj, Finset.card_range] at hc
    have := List.toFinset_card_le (es.map AlarmEntry.sequence)
    rw [List.length_map] at this
    omega

variable {a : AlarmList}

theorem AlarmList.Sound.nextFree (h : a.Sound) :
    (∀ e ∈ a.entries, e.sequence ≠ a.nextFree) ∧ 1 ≤ a.nextFree ∧ a.nextFree ≤ Config.lastSequence :=
  freeSequence_free h.length h.counter

theorem freeSequence_same {es : List AlarmEntry} {n : Nat} (h : ∀ e ∈ es, e.sequence ≠ n) (k : Nat) :
    freeSequence es k n = n := by
  cases k with
  | zero => rfl
  | succ k =>
    unfold freeSequence
    rw [if_neg]
    simp only [List.any_eq_true, not_exists, not_and]
    intro e he; simpa using h e he

/-- R134: the counter of a sound list is the sequence of the next raise. -/
theorem AlarmList.Sound.nextFree_eq (h : a.Sound) : a.nextFree = a.counter := freeSequence_same h.free _

/-! ### Sound lists stay sound -/

theorem AlarmList.Sound.advance {a : AlarmList} {es : List AlarmEntry} {given : Nat} (he : ∀ e ∈ es, e.Sound)
    (hl : es.length ≤ Config.listSize) (hk : es.Pairwise fun e f => e.key ≠ f.key)
    (hs : es.Pairwise fun e f => e.sequence ≠ f.sequence) (hg : 1 ≤ given ∧ given ≤ Config.lastSequence)
    (hc : ∀ p, a.cursors.get p ≤ es.length) : (AlarmList.advance { a with entries := es } given).Sound := by
  have h := freeSequence_free hl (nextSequence_range hg)
  exact ⟨he, hl, hk, hs, h.2, h.1, hc⟩

theorem AlarmEntry.Sound.again {e : AlarmEntry} (h : e.Sound) {seq : Nat} (hs : 1 ≤ seq ∧ seq ≤ Config.lastSequence)
    (d : Option FanDetail) (t : Nat) : (e.again seq d t).Sound := by
  refine ⟨by simp [AlarmEntry.again], by simp [AlarmEntry.again], ?_, hs⟩
  have := h.count
  unfold AlarmEntry.again bump
  constructor <;> simp only <;> split <;> simp only [Config.lastRaise] at * <;> omega

theorem AlarmList.Sound.raiseInPlace (h : a.Sound) (k : AlarmKey) (d : Option FanDetail) (t : Nat) :
    (a.raiseInPlace k d t).Sound := by
  have hf := h.nextFree
  refine AlarmList.Sound.advance ?_ (by simpa using h.length) ?_ ?_ hf.2 (by simpa using h.cursors)
  · intro e he
    obtain ⟨x, hx, rfl⟩ := List.mem_map.1 he
    split
    · exact (h.entries x hx).again hf.2 d t
    · exact h.entries x hx
  · rw [List.pairwise_map]
    refine h.keys.imp fun {e f} hef => ?_
    split <;> split <;> simpa [AlarmEntry.again] using hef
  · rw [List.pairwise_map]
    refine List.Pairwise.imp_of_mem (R := fun e f : AlarmEntry => e.key ≠ f.key ∧ e.sequence ≠ f.sequence) ?_
      (h.keys.and h.sequences)
    rintro e f he hfm ⟨h1, h2⟩
    split <;> split
    · rename_i h3 h4; exact absurd (h3.trans h4.symm) h1
    · exact fun e' => hf.1 f hfm e'.symm
    · exact hf.1 e he
    · exact h2

theorem AlarmList.Sound.append (h : a.Sound) {k : AlarmKey} (hk : a.has k = false) (hl : a.entries.length < Config.listSize)
    (d : Option FanDetail) (t : Nat) : (a.append k d t).Sound := by
  have hf := h.nextFree
  have hk' : ∀ e ∈ a.entries, e.key ≠ k := by simpa [AlarmList.has] using hk
  refine AlarmList.Sound.advance ?_ (by simpa using hl) ?_ ?_ hf.2 fun p => ?_
  · intro e he
    rcases List.mem_append.1 he with he | he
    · exact h.entries e he
    · obtain rfl := List.mem_singleton.1 he
      exact ⟨by simp, by simp, ⟨le_refl _, by simp [Config.lastRaise]⟩, hf.2⟩
  · refine List.pairwise_append.2 ⟨h.keys, List.pairwise_singleton _ _, ?_⟩
    intro e he f hfm; obtain rfl := List.mem_singleton.1 hfm; exact hk' e he
  · refine List.pairwise_append.2 ⟨h.sequences, List.pairwise_singleton _ _, ?_⟩
    intro e he f hfm; obtain rfl := List.mem_singleton.1 hfm; exact hf.1 e he
  · have := h.cursors p; simp; omega

theorem AlarmList.Sound.leave (h : a.Sound) (p : Nat) : (a.leave p).Sound := by
  have hsub : (a.entries.eraseIdx p).Sublist a.entries := List.eraseIdx_sublist _ _
  refine ⟨fun e he => h.entries e (hsub.mem he), hsub.length_le.trans h.length, h.keys.sublist hsub,
    h.sequences.sublist hsub, h.counter, fun e he => h.free e (hsub.mem he), fun q => ?_⟩
  have := h.cursors q
  simp only [AlarmList.leave, PerPort.get_map, cursorAfterLeaving]
  by_cases hp : p < a.entries.length
  · rw [List.length_eraseIdx_of_lt hp]; split <;> omega
  · rw [List.eraseIdx_of_length_le (by omega)]; split <;> omega

theorem AlarmList.leave_has {k : AlarmKey} (p : Nat) (h : a.has k = false) : (a.leave p).has k = false := by
  simp only [AlarmList.has, List.any_eq_false] at *
  exact fun e he => h e ((List.eraseIdx_sublist _ _).mem he)

/-- R135, R137: a raise. -/
theorem AlarmList.Sound.raise (h : a.Sound) (k : AlarmKey) (d : Option FanDetail) (t : Nat) : (a.raise k d t).Sound := by
  unfold AlarmList.raise
  split
  · exact h.raiseInPlace k d t
  · rename_i hk
    have hk : a.has k = false := by simpa using hk
    split
    · rename_i hl; exact h.append hk hl d t
    · split
      · rename_i hl hv
        simp only [Bool.and_eq_true, decide_eq_true_eq] at hv
        refine (h.leave _).append (AlarmList.leave_has _ hk) ?_ d t
        have := h.length
        simp only [AlarmList.leave, List.length_eraseIdx_of_lt hv.2]; omega
      · exact h

/-- R136: a clear. -/
theorem AlarmList.Sound.clear (h : a.Sound) (k : AlarmKey) (t : Nat) : (a.clear k t).Sound := by
  unfold AlarmList.clear
  split
  · exact h.leave _
  · rename_i hn
    simp only [List.any_eq_true, not_exists, not_and, Bool.and_eq_true, beq_iff_eq] at hn
    have hg : ∀ e : AlarmEntry, (if e.key = k ∧ e.state = .active then e.clear t else e).key = e.key := by
      intro e; split <;> rfl
    have hq : ∀ e : AlarmEntry, (if e.key = k ∧ e.state = .active then e.clear t else e).sequence = e.sequence := by
      intro e; split <;> rfl
    refine ⟨fun e he => ?_, by simpa using h.length, ?_, ?_, h.counter, fun e he => ?_, by simpa using h.cursors⟩
    · obtain ⟨x, hx, rfl⟩ := List.mem_map.1 he
      have hs := h.entries x hx
      split
      · rename_i hk
        exact ⟨by simp [AlarmEntry.clear], fun hc => hn x hx hk (by simpa [AlarmEntry.clear] using hc.2), hs.count, hs.sequence⟩
      · exact hs
    · rw [List.pairwise_map]; exact h.keys.imp fun {e f} hef => by rw [hg, hg]; exact hef
    · rw [List.pairwise_map]; exact h.sequences.imp fun {e f} hef => by rw [hq, hq]; exact hef
    · obtain ⟨x, hx, rfl⟩ := List.mem_map.1 he; rw [hq]; exact h.free x hx

/-- R138: an acknowledgement. -/
theorem AlarmList.Sound.acknowledge (h : a.Sound) (seq : Nat) (p : Port) : (a.acknowledge seq p).Sound := by
  unfold AlarmList.acknowledge
  split
  · exact h.leave _
  · rename_i hn
    simp only [List.any_eq_true, not_exists, not_and, Bool.and_eq_true, beq_iff_eq] at hn
    have hg : ∀ e : AlarmEntry, (if e.sequence = seq then { e with ackBy := some p } else e).key = e.key := by
      intro e; split <;> rfl
    have hq : ∀ e : AlarmEntry, (if e.sequence = seq then { e with ackBy := some p } else e).sequence = e.sequence := by
      intro e; split <;> rfl
    refine ⟨fun e he => ?_, by simpa using h.length, ?_, ?_, h.counter, fun e he => ?_, by simpa using h.cursors⟩
    · obtain ⟨x, hx, rfl⟩ := List.mem_map.1 he
      have hs := h.entries x hx
      split
      · rename_i hk
        exact ⟨hs.cleared, fun hc => hn x hx hk hc.1, hs.count, hs.sequence⟩
      · exact hs
    · rw [List.pairwise_map]; exact h.keys.imp fun {e f} hef => by rw [hg, hg]; exact hef
    · rw [List.pairwise_map]; exact h.sequences.imp fun {e f} hef => by rw [hq, hq]; exact hef
    · obtain ⟨x, hx, rfl⟩ := List.mem_map.1 he; rw [hq]; exact h.free x hx

theorem AlarmList.Sound.withCursors (h : a.Sound) {c : PerPort Nat} (hc : ∀ p, c.get p ≤ a.entries.length) :
    AlarmList.Sound { a with cursors := c } := ⟨h.entries, h.length, h.keys, h.sequences, h.counter, h.free, hc⟩

/-- R139: a page turned. -/
theorem AlarmList.Sound.turnPage (h : a.Sound) (p : Port) : (a.turnPage p).Sound := by
  refine h.withCursors fun q => ?_
  by_cases e : q = p
  · subst e
    have := h.cursors q
    simp only [PerPort.get_upd_self, AlarmList.page, List.length_take, List.length_drop]; omega
  · rw [PerPort.get_upd_other _ _ e]; exact h.cursors q

/-- R140: a PING. -/
theorem AlarmList.Sound.rewind (h : a.Sound) (p : Port) : (a.rewind p).Sound := by
  refine h.withCursors fun q => ?_
  by_cases e : q = p
  · subst e; simp
  · rw [PerPort.get_upd_other _ _ e]; exact h.cursors q

/-! ### Which entries are ACTIVE -/

theorem AlarmList.hasActive_iff {k : AlarmKey} :
    a.hasActive k = true ↔ ∃ e ∈ a.entries, e.key = k ∧ e.state = .active := by
  simp [AlarmList.hasActive, List.any_eq_true]

/-- R135, R137: a raise that finds its entry or room leaves its entry ACTIVE, with the detail given. -/
theorem AlarmList.raise_listed {k : AlarmKey} (h : a.has k = true ∨ a.entries.length < Config.listSize)
    (d : Option FanDetail) (t : Nat) :
    ∃ e ∈ (a.raise k d t).entries, e.key = k ∧ e.state = .active ∧ e.detail = d := by
  unfold AlarmList.raise
  split
  · rename_i hk
    obtain ⟨x, hx, hxk⟩ := List.any_eq_true.1 hk
    have hxk : x.key = k := by simpa using hxk
    refine ⟨x.again a.nextFree d t, List.mem_map.2 ⟨x, hx, if_pos hxk⟩, hxk, rfl, rfl⟩
  · rename_i hk
    rw [if_pos (h.resolve_left hk)]
    exact ⟨_, List.mem_append.2 (.inr (List.mem_singleton.2 rfl)), rfl, rfl, rfl⟩

/-- Two members of a list whose figures differ pairwise are one where the figures agree. -/
theorem eq_of_pairwise_ne {α β : Type} {l : List α} {g : α → β} (h : l.Pairwise fun e f => g e ≠ g f) {e f : α}
    (he : e ∈ l) (hf : f ∈ l) (hk : g e = g f) : e = f := by
  obtain ⟨i, hi, rfl⟩ := List.mem_iff_getElem.1 he
  obtain ⟨j, hj, rfl⟩ := List.mem_iff_getElem.1 hf
  have hp := List.pairwise_iff_getElem.1 h
  rcases Nat.lt_trichotomy i j with hij | rfl | hij
  · exact absurd hk (hp i j hi hj hij)
  · rfl
  · exact absurd hk.symm (hp j i hj hi hij)

/-- Two entries of a sound list with one key, or with one sequence, are one. -/
theorem AlarmList.Sound.eq_of_key (h : a.Sound) {e f : AlarmEntry} (he : e ∈ a.entries) (hf : f ∈ a.entries)
    (hk : e.key = f.key) : e = f := eq_of_pairwise_ne h.keys he hf hk
theorem AlarmList.Sound.eq_of_sequence (h : a.Sound) {e f : AlarmEntry} (he : e ∈ a.entries) (hf : f ∈ a.entries)
    (hk : e.sequence = f.sequence) : e = f := eq_of_pairwise_ne h.sequences he hf hk

/-- The entry at a position found by a test is the only one lost at its leaving. -/
theorem mem_eraseIdx_findIdx {α : Type} {l : List α} {q : α → Bool} {x : α} (hx : x ∈ l) (hq : q x = false) :
    x ∈ l.eraseIdx (l.findIdx q) := by
  obtain ⟨i, hi, rfl⟩ := List.mem_iff_getElem.1 hx
  refine List.mem_eraseIdx_iff_getElem.2 ⟨i, hi, ?_, rfl⟩
  rintro rfl
  rw [List.findIdx_getElem (w := hi)] at hq
  exact absurd hq (by simp)

theorem AlarmList.leave_hasActive {q : AlarmEntry → Bool} {k : AlarmKey} (hq : ∀ e ∈ a.entries, e.key = k → e.state = .active → q e = false) :
    (a.leave (a.entries.findIdx q)).hasActive k = a.hasActive k := by
  rw [Bool.eq_iff_iff, AlarmList.hasActive_iff, AlarmList.hasActive_iff]
  constructor
  · rintro ⟨e, he, h⟩; exact ⟨e, (List.eraseIdx_sublist _ _).mem he, h⟩
  · rintro ⟨e, he, h1, h2⟩; exact ⟨e, mem_eraseIdx_findIdx he (hq e he h1 h2), h1, h2⟩

/-- R135, R137: a raise of one kind and source leaves the ACTIVE entries of every other, but for the one a FIRE raise into a
full list evicts, which is not a FIRE entry. -/
theorem AlarmList.raise_hasActive_other {k j : AlarmKey} (hj : j ≠ k) (hf : k.isFire = false ∨ j.isFire = true)
    (d : Option FanDetail) (t : Nat) : (a.raise k d t).hasActive j = a.hasActive j := by
  have happ : ∀ b : AlarmList, (b.append k d t).hasActive j = b.hasActive j := by
    intro b; simp [AlarmList.hasActive, AlarmList.append, AlarmList.advance, List.any_append, hj.symm]
  unfold AlarmList.raise
  split
  · rw [Bool.eq_iff_iff, AlarmList.hasActive_iff, AlarmList.hasActive_iff]
    constructor
    · rintro ⟨e, he, h1, h2⟩
      obtain ⟨x, hx, rfl⟩ := List.mem_map.1 he
      split at h1
      · rename_i hk; exact absurd (h1.symm.trans hk) hj
      · rename_i hk; rw [if_neg hk] at h2; exact ⟨x, hx, h1, h2⟩
    · rintro ⟨e, he, h1, h2⟩
      exact ⟨e, List.mem_map.2 ⟨e, he, if_neg (by rw [h1]; exact hj)⟩, h1, h2⟩
  · split
    · exact happ a
    · split
      · rename_i hv
        simp only [Bool.and_eq_true] at hv
        rw [happ]
        refine AlarmList.leave_hasActive fun e _ he _ => ?_
        rcases hf with hf | hf
        · rw [hf] at hv; exact absurd hv.1 (by simp)
        · simp [he, hf]
      · rfl

/-- R137: a list of 32 entries holds one that is not a FIRE entry, since the sources of those are the sixteen zones. -/
theorem AlarmList.Sound.oldestOther_lt (h : a.Sound) (hl : 16 < a.entries.length) : a.oldestOther < a.entries.length := by
  rw [AlarmList.oldestOther, List.findIdx_lt_length]
  by_contra hn
  simp only [not_exists, not_and] at hn
  have hfire : ∀ e ∈ a.entries, ∃ z : ZoneId, e.key = .fire z := by
    intro e he
    have := hn e he
    cases hk : e.key <;> simp [hk, AlarmKey.isFire] at this ⊢
  have hnd : (a.entries.map AlarmEntry.key).Nodup := by
    rw [List.nodup_iff_pairwise_ne, List.pairwise_map]; exact h.keys
  have hsub : (a.entries.map AlarmEntry.key).toFinset ⊆ (Finset.univ : Finset ZoneId).image AlarmKey.fire := by
    intro k hk
    obtain ⟨e, he, rfl⟩ := List.mem_map.1 (List.mem_toFinset.1 hk)
    obtain ⟨z, hz⟩ := hfire e he
    exact Finset.mem_image.2 ⟨z, Finset.mem_univ _, hz.symm⟩
  have h1 := Finset.card_le_card hsub
  rw [List.toFinset_card_of_nodup hnd, List.length_map] at h1
  have h2 := Finset.card_image_le (s := (Finset.univ : Finset ZoneId)) (f := AlarmKey.fire)
  simp only [Finset.card_univ, Fintype.card_fin] at h2
  omega

/-- R137: a FIRE raise is always entered. -/
theorem AlarmList.Sound.raise_fire_active (h : a.Sound) (z : ZoneId) (d : Option FanDetail) (t : Nat) :
    (a.raise (.fire z) d t).hasActive (.fire z) = true := by
  by_cases hr : a.has (.fire z) = true ∨ a.entries.length < Config.listSize
  · obtain ⟨e, he, h1, h2, _⟩ := AlarmList.raise_listed hr d t
    exact AlarmList.hasActive_iff.2 ⟨e, he, h1, h2⟩
  · obtain ⟨h1, h2⟩ := not_or.1 hr
    have hp := h.oldestOther_lt (by simp only [Config.listSize] at h2; omega)
    unfold AlarmList.raise
    rw [if_neg h1, if_neg h2, if_pos (by simp [AlarmKey.isFire, hp])]
    exact AlarmList.hasActive_iff.2 ⟨_, List.mem_append.2 (.inr (List.mem_singleton.2 rfl)), rfl, rfl⟩

/-- R136: after a clear no entry of its kind and source is ACTIVE. -/
theorem AlarmList.Sound.clear_hasActive (h : a.Sound) (k : AlarmKey) (t : Nat) : (a.clear k t).hasActive k = false := by
  rw [Bool.eq_false_iff]
  intro hc
  obtain ⟨e, he, h1, h2⟩ := AlarmList.hasActive_iff.1 hc
  unfold AlarmList.clear at he
  split at he
  · rename_i hn
    obtain ⟨x, hx, hxk⟩ := List.any_eq_true.1 hn
    simp only [Bool.and_eq_true, beq_iff_eq] at hxk
    have hlt : a.entries.findIdx (fun e => e.key == k) < a.entries.length :=
      List.findIdx_lt_length.2 ⟨x, hx, by simp [hxk.1.1]⟩
    obtain ⟨i, hi, hne, rfl⟩ := List.mem_eraseIdx_iff_getElem.1 he
    have h3 := List.findIdx_getElem (w := hlt)
    have h4 : a.entries[i] = a.entries[a.entries.findIdx fun e => e.key == k] :=
      h.eq_of_key (List.getElem_mem hi) (List.getElem_mem hlt) (by rw [h1, beq_iff_eq.1 h3])
    have h5 := List.pairwise_iff_getElem.1 h.keys
    rcases Nat.lt_or_gt_of_ne hne with hlt' | hlt'
    · exact h5 _ _ hi hlt hlt' (by rw [h4])
    · exact h5 _ _ hlt hi hlt' (by rw [h4])
  · obtain ⟨x, hx, rfl⟩ := List.mem_map.1 he
    split at h2
    · exact absurd h2 (by simp [AlarmEntry.clear])
    · rename_i hk
      rw [if_neg hk] at h1; exact hk ⟨h1, h2⟩

/-- R136: a clear leaves the ACTIVE entries of every other kind and source. -/
theorem AlarmList.clear_hasActive_other {k j : AlarmKey} (hj : j ≠ k) (t : Nat) :
    (a.clear k t).hasActive j = a.hasActive j := by
  unfold AlarmList.clear
  split
  · exact AlarmList.leave_hasActive fun e _ he _ => by simp [he, hj]
  · rw [Bool.eq_iff_iff, AlarmList.hasActive_iff, AlarmList.hasActive_iff]
    constructor
    · rintro ⟨e, he, h1, h2⟩
      obtain ⟨x, hx, rfl⟩ := List.mem_map.1 he
      split at h2
      · exact absurd h2 (by simp [AlarmEntry.clear])
      · rename_i hk; rw [if_neg hk] at h1; exact ⟨x, hx, h1, h2⟩
    · rintro ⟨e, he, h1, h2⟩
      exact ⟨e, List.mem_map.2 ⟨e, he, if_neg fun hk => hj (h1.symm.trans hk.1)⟩, h1, h2⟩

/-- R138: an acknowledgement leaves the ACTIVE entries. -/
theorem AlarmList.Sound.acknowledge_hasActive (h : a.Sound) (seq : Nat) (p : Port) (j : AlarmKey) :
    (a.acknowledge seq p).hasActive j = a.hasActive j := by
  unfold AlarmList.acknowledge
  split
  · rename_i hn
    obtain ⟨x, hx, hxk⟩ := List.any_eq_true.1 hn
    simp only [Bool.and_eq_true, beq_iff_eq] at hxk
    refine AlarmList.leave_hasActive fun e he _ hs => ?_
    by_contra hc
    have : e = x := h.eq_of_sequence he hx ((by simpa using hc : e.sequence = seq).trans hxk.1.symm)
    subst this
    rw [hs] at hxk; exact absurd hxk.2 (by simp)
  · rw [Bool.eq_iff_iff, AlarmList.hasActive_iff, AlarmList.hasActive_iff]
    constructor
    · rintro ⟨e, he, h1, h2⟩
      obtain ⟨x, hx, rfl⟩ := List.mem_map.1 he
      refine ⟨x, hx, ?_, ?_⟩
      · split at h1 <;> exact h1
      · split at h2 <;> exact h2
    · rintro ⟨e, he, h1, h2⟩
      refine ⟨_, List.mem_map.2 ⟨e, he, rfl⟩, ?_, ?_⟩ <;> split <;> assumption

end Sys2Proof.Machine
end

