-- ==== Sys2Proof/Laws/Moves.lean ====
section
/-! SUPPORT. What the operations do, said once: each is a chain of a few kinds of move, and an invariant that every kind of
move keeps is kept by them all. The moves marked `true` are those of the commands beside the passes. -/

namespace Sys2Proof.Machine

-- One proof at a time: with a thread for each the package as one text would not fit in memory.
set_option Elab.async false

/-! ### What a move looks at -/

/-- The kinds of entry that the devices' owners raise in a pass. -/
def AlarmKey.ofDevice : AlarmKey → Bool
  | .fanFault _ | .damperFault _ => true
  | .fire _ | .gasHigh _ _ | .headFault _ | .linkLost _ | .storeFault _ => false

theorem AlarmKey.not_fire_of_device {k : AlarmKey} (h : k.ofDevice = true) : k.isFire = false := by
  cases k <;> simp_all [AlarmKey.ofDevice, AlarmKey.isFire]

/-- R100: the travel timer of an extract damper is as its state says. -/
def ExtractDamper.Timed (fitted : Bool) (d : ExtractDamper) : Prop := d.timer.isSome = (fitted && d.state == .moving)

/-- R102: the travel timer of a make-up damper is as its state says. -/
def MakeUpDamper.Timed (fitted : Bool) (m : MakeUpDamper) : Prop :=
  m.timer.isSome = (fitted && (m.state == .opening || m.state == .closing))

/-- R146 to R153: the laws of the line but for the idle one, which holds once the next exchange has been chosen. -/
structure State.LineFit (s : State) : Prop where
  polls : s.line.pollList = s.fittedDevices
  position : s.line.pollList ≠ [] → ∃ d, s.line.position = some d ∧ d ∈ s.line.pollList
  once : s.line.queue.Pairwise fun a b => a.device ≠ b.device
  queued : ∀ o ∈ s.line.queue, s.deviceFitted o.device = true ∧ (s.link o.device).lost = false
  row : s.line.row ≤ Config.commandsInRow
  links : ∀ d, (s.link d).misses ≤ Config.missLimit ∧ ((s.link d).lost = true ↔ (s.link d).misses = Config.missLimit)
  flight : ∀ x, s.line.inFlight = some x → x.disowned = false → s.deviceFitted x.device = true

theorem State.LineSound.fit {s : State} (h : s.LineSound) : s.LineFit :=
  ⟨h.polls, h.position, h.once, h.queued, h.row, h.links, h.flight⟩

/-- t differs from s in what no fan, damper, device, port or entry has: the rows of the zones and heads but for their
fitted flags, the plan but for the fire set, the resolver, the store, the budgets, the clock. -/
structure State.Beside (s t : State) : Prop where
  fans : t.fans = s.fans
  duty : t.duty = s.duty
  extract : t.extract = s.extract
  makeUp : t.makeUp = s.makeUp
  line : t.line = s.line
  alarms : t.alarms = s.alarms
  ports : t.ports = s.ports
  record : t.alloc.record = s.alloc.record
  fireSet : t.plan.fireSet = s.plan.fireSet
  zones : ∀ z, (t.zone z).config.fitted = (s.zone z).config.fitted
  heads : ∀ h, (t.head h).config.fitted = (s.head h).config.fitted

/-- One move. -/
inductive State.Move : Bool → State → State → Prop
  /-- one fan's record, less its configuration -/
  | fan {w : Bool} (s : State) (n : FanId) (f : Fan → Fan) (hc : (f (s.fan n)).config = (s.fan n).config)
      (hs : (s.fan n).Sound → (f (s.fan n)).Sound) : Move w s (s.modFan n f)
  /-- the field line -/
  | line {w : Bool} (s : State) (f : FieldLine → FieldLine) (h : s.LineFit → (s.modLine f).LineFit) : Move w s (s.modLine f)
  /-- the allocation record, the stage-down timer and the mark of a trigger -/
  | alloc {w : Bool} (s : State) (r : AllocRecord) (t : Option Nat) (b : Bool) (h : s.DutySound → r.runSet.Nodup) :
      Move w s { s with alloc := { s.alloc with record := r, stageDown := t, due := b } }
  | notice {w : Bool} (s : State) (n : Notice) : Move w s (s.raiseAll n)
  | listed {w : Bool} (s : State) (k : AlarmKey) (d : Option FanDetail) (h : k.ofDevice = true ∨ (w = true ∧ k.isFire = false)) :
      Move w s { s with alarms := s.alarms.raise k d s.partTime }
  | cleared {w : Bool} (s : State) (k : AlarmKey) (h : k.ofDevice = true ∨ (w = true ∧ k.isFire = false)) :
      Move w s (s.clearAlarm k)
  | grace {w : Bool} (s : State) (g : Option Nat) : Move w s { s with grace := g }
  | extract {w : Bool} (s : State) (z : ZoneId) (f : ExtractDamper → ExtractDamper)
      (h : (s.extractOf z).Timed (s.zone z).config.fitted → (f (s.extractOf z)).Timed (s.zone z).config.fitted) :
      Move w s (s.modExtract z f)
  | makeUp {w : Bool} (s : State) (z : ZoneId) (f : MakeUpDamper → MakeUpDamper)
      (h : (s.makeUpOf z).Timed (s.zone z).config.fitted → (f (s.makeUpOf z)).Timed (s.zone z).config.fitted) :
      Move w s (s.modMakeUp z f)
  | path {w : Bool} (s : State) (b : Bool) : Move w s { s with pathProven := b }
  | turn {w : Bool} (s : State) : Move w s { s with duty := turnOver s.duty }
  /-- what stands beside the devices, the ports and the list -/
  | beside (s t : State) (h : s.Beside t) : Move true s t
  /-- a port, less its pending and seen marks -/
  | port (s : State) (p : Port) (f : PortState → PortState) (hs : (s.port p).Sound → (f (s.port p)).Sound)
      (hp : (f (s.port p)).pending = (s.port p).pending) (hn : (f (s.port p)).seen = (s.port p).seen) :
      Move true s (s.modPort p f)
  /-- a notice on one port -/
  | told (s : State) (p : Port) (n : Notice) : Move true s (s.modPort p (PortState.raise n))
  /-- the alarm list, less what is ACTIVE in it -/
  | alarms (s : State) (a : AlarmList) (h : s.alarms.Sound → a.Sound ∧ ∀ k, a.hasActive k = s.alarms.hasActive k) :
      Move true s { s with alarms := a }
  /-- a zone joins the fire set with its FIRE entry raised (R40) -/
  | burn (s : State) (z : ZoneId) :
      Move true s { s with alarms := s.alarms.raise (.fire z) none s.partTime,
                           plan := { s.plan with fireSet := s.plan.fireSet ||| fireMark z } }
  /-- the fire set is emptied with its FIRE entries cleared (R47) -/
  | douse (s : State) (a : AlarmList) (h1 : s.alarms.Sound → a.Sound)
      (h2 : s.alarms.Sound → s.FiresListed → ∀ z, a.hasActive (.fire z) = false) :
      Move true s { s with alarms := a, plan := { s.plan with fireSet := 0 } }

/-- A chain of moves. -/
def State.Moves (w : Bool) : State → State → Prop := Relation.ReflTransGen (State.Move w)

variable {w : Bool} {s t u : State}

theorem State.Moves.refl (s : State) : State.Moves w s s := Relation.ReflTransGen.refl
theorem State.Moves.trans (h : State.Moves w s t) (k : State.Moves w t u) : State.Moves w s u := Relation.ReflTransGen.trans h k
theorem State.Move.moves (h : State.Move w s t) : State.Moves w s t := Relation.ReflTransGen.single h

theorem State.Move.wide (h : State.Move w s t) : State.Move true s t := by
  cases h with
  | fan _ n f hc hs => exact .fan s n f hc hs
  | line _ f h => exact .line s f h
  | alloc _ r t b h => exact .alloc s r t b h
  | notice _ n => exact .notice s n
  | listed _ k d h => exact .listed s k d (.inr ⟨rfl, h.elim AlarmKey.not_fire_of_device And.right⟩)
  | cleared _ k h => exact .cleared s k (.inr ⟨rfl, h.elim AlarmKey.not_fire_of_device And.right⟩)
  | grace _ g => exact .grace s g
  | extract _ z f h => exact .extract s z f h
  | makeUp _ z f h => exact .makeUp s z f h
  | path _ b => exact .path s b
  | turn => exact .turn s
  | beside _ _ h => exact .beside s t h
  | port _ p f hs hp hn => exact .port s p f hs hp hn
  | told _ p n => exact .told s p n
  | alarms _ a h => exact .alarms s a h
  | burn _ z => exact .burn s z
  | douse _ a h1 h2 => exact .douse s a h1 h2

theorem State.Moves.wide (h : State.Moves w s t) : State.Moves true s t := by
  induction h with
  | refl => exact .refl _
  | tail _ h ih => exact ih.trans h.wide.moves

/-- What every move keeps, a chain keeps. -/
theorem State.Moves.keeps {P : State → Prop} (hP : ∀ s t, State.Move w s t → P s → P t) (h : State.Moves w s t) (hs : P s) :
    P t := by
  induction h with
  | refl => exact hs
  | tail _ h ih => exact hP _ _ h ih

/-! ### What the moves keep -/

/-- The moves of a pass keep all that Lasting holds. -/
theorem State.Moves.lasting (h : State.Moves false s t) : t.lasting = s.lasting := by
  refine h.keeps (P := fun t => t.lasting = s.lasting) (fun s t h => ?_) rfl
  intro e
  rw [← e]
  generalize hw : false = w at h
  cases h with
  | fan _ n f hc hs =>
    have := upd_map s.fans n f Fan.config hc
    simp only [State.lasting, State.modFan, this]
  | beside => cases hw
  | port => cases hw
  | told => cases hw
  | alarms => cases hw
  | burn => cases hw
  | douse => cases hw
  | _ => rfl

theorem State.Move.alarms_sound (h : State.Move w s t) (hs : s.alarms.Sound) : t.alarms.Sound := by
  cases h with
  | listed _ k d h => exact hs.raise _ _ _
  | cleared _ k h => exact hs.clear _ _
  | beside _ _ h => rw [h.alarms]; exact hs
  | alarms _ a h => exact (h hs).1
  | burn _ z => exact hs.raise _ _ _
  | douse _ a h1 h2 => exact h1 hs
  | _ => exact hs

theorem State.Moves.alarms_sound (h : State.Moves w s t) (hs : s.alarms.Sound) : t.alarms.Sound :=
  h.keeps (P := fun s => s.alarms.Sound) (fun _ _ h => h.alarms_sound) hs

/-- R36: joining sets the zone's mark and no other. -/
theorem burning_join (c : BitVec 16) (z y : ZoneId) :
    (c ||| fireMark z).getLsbD y.val = (decide (y = z) || c.getLsbD y.val) := by
  have h : (fireMark z).getLsbD y.val = decide (y = z) := by
    revert z y; decide
  rw [BitVec.getLsbD_or, h, Bool.or_comm]

theorem State.Move.firesListed (h : State.Move w s t) (hs : s.alarms.Sound) (hl : s.FiresListed) : t.FiresListed := by
  have hf : ∀ k : AlarmKey, k.ofDevice = true ∨ (w = true ∧ k.isFire = false) → k.isFire = false :=
    fun k h => h.elim AlarmKey.not_fire_of_device And.right
  have hne : ∀ (z : ZoneId) (k : AlarmKey), k.isFire = false → AlarmKey.fire z ≠ k := by rintro z k hk rfl; cases hk
  intro z
  cases h with
  | listed _ k d h => exact (AlarmList.raise_hasActive_other (hne z k (hf k h)) (.inl (hf k h)) _ _).trans (hl z)
  | cleared _ k h => exact (AlarmList.clear_hasActive_other (hne z k (hf k h)) _).trans (hl z)
  | beside _ _ h => rw [h.alarms, hl z]; simp only [State.burning, h.fireSet]
  | alarms _ a h => exact ((h hs).2 _).trans (hl z)
  | burn _ y =>
    have hb := burning_join s.plan.fireSet y z
    by_cases e : z = y
    · subst e
      rw [hs.raise_fire_active]; simp only [State.burning]; rw [hb]; simp
    · rw [AlarmList.raise_hasActive_other (by simpa using e) (.inr rfl), hl z]
      simp only [State.burning]; rw [hb]; simp [e]
  | douse _ a h1 h2 => rw [h2 hs hl z]; simp [State.burning]
  | _ => exact hl z

/-- R40: moves keep the FIRE entries that stand for the fire set. -/
theorem State.Moves.firesListed (h : State.Moves w s t) (hs : s.alarms.Sound) (hl : s.FiresListed) : t.FiresListed :=
  (h.keeps (P := fun s => s.alarms.Sound ∧ s.FiresListed)
    (fun _ _ h e => ⟨h.alarms_sound e.1, h.firesListed e.1 e.2⟩) ⟨hs, hl⟩).2

/-- The kinds and sources a pass does not touch stay as they are. -/
theorem State.Moves.hasActive (h : State.Moves false s t) {k : AlarmKey} (hk : k.ofDevice = false) :
    t.alarms.hasActive k = s.alarms.hasActive k := by
  refine h.keeps (P := fun t => t.alarms.hasActive k = s.alarms.hasActive k) (fun s t h e => ?_) rfl
  rw [← e]
  generalize hw : false = w at h
  have hne : ∀ j : AlarmKey, j.ofDevice = true → k ≠ j := by rintro j hj rfl; rw [hk] at hj; cases hj
  cases h with
  | listed _ j d h =>
    have h := h.resolve_right (by simp [← hw])
    exact AlarmList.raise_hasActive_other (hne j h) (.inl (AlarmKey.not_fire_of_device h)) _ _
  | cleared _ j h =>
    have h := h.resolve_right (by simp [← hw])
    exact AlarmList.clear_hasActive_other (hne j h) _
  | beside => cases hw
  | port => cases hw
  | told => cases hw
  | alarms => cases hw
  | burn => cases hw
  | douse => cases hw
  | _ => rfl

theorem State.Move.keepsNotices (h : State.Move w s t) : s.KeepsNotices t := by
  cases h with
  | notice _ n => exact State.raiseAll_keepsNotices _ _
  | beside _ _ h => exact .of_ports h.ports
  | port _ p f hs hp hn => exact State.modPort_keepsNotices _ _ _ hp hn
  | told _ p n =>
    intro m q e
    by_cases hq : q = p
    · subst hq
      obtain ⟨h1, h2⟩ := e
      simp [State.noticed, PortState.raise_pending, PortState.raise_seen, h1, h2]
    · simpa [State.noticed, State.modPort_port_other s _ hq] using e
  | _ => exact .of_ports rfl

/-- R161: moves keep the notices that are pending and not seen. -/
theorem State.Moves.keepsNotices (h : State.Moves w s t) : s.KeepsNotices t :=
  h.keeps (P := fun t => s.KeepsNotices t) (fun _ _ h e => e.trans h.keepsNotices) (.refl s)

theorem PortState.Sound.raise {q : PortState} (h : q.Sound) (n : Notice) : (q.raise n).Sound := ⟨h.silence, rfl⟩

/-- R159, R164. -/
theorem State.Moves.portsSound (h : State.Moves w s t) (hs : s.PortsSound) : t.PortsSound := by
  refine h.keeps (P := State.PortsSound) (fun s t h e p => ?_) hs
  cases h with
  | notice _ n => rw [State.raiseAll_port]; exact (e p).raise n
  | beside _ _ h => simpa [State.port, h.ports] using e p
  | port _ q f hs hp hn =>
    by_cases hq : p = q
    · subst hq; rw [State.modPort_port_self]; exact hs (e p)
    · rw [State.modPort_port_other s f hq]; exact e p
  | told _ q n =>
    by_cases hq : p = q
    · subst hq; rw [State.modPort_port_self]; exact (e p).raise n
    · rw [State.modPort_port_other s _ hq]; exact e p
  | _ => exact e p

theorem State.Move.config (h : State.Move w s t) (n : FanId) : (t.fan n).config = (s.fan n).config := by
  cases h with
  | fan _ m f hc hs =>
    by_cases e : n = m
    · subst e; rw [State.modFan_fan_self]; exact hc
    · rw [State.modFan_fan_other s f e]
  | beside _ _ h => simp [State.fan, h.fans]
  | _ => rfl

/-- R74, R76. -/
theorem State.Moves.fansSound (h : State.Moves w s t) (hs : s.FansSound) : t.FansSound := by
  refine h.keeps (P := State.FansSound) (fun s t h e n => ?_) hs
  cases h with
  | fan _ m f hc hs =>
    by_cases hm : n = m
    · subst hm; rw [State.modFan_fan_self]; exact hs (e n)
    · rw [State.modFan_fan_other s f hm]; exact e n
  | beside _ _ h => simpa [State.fan, h.fans] using e n
  | _ => exact e n

theorem turnOver_perm (l : List FanId) : (turnOver l).Perm l := by
  cases l with
  | nil => exact .nil
  | cons n l => exact (List.perm_append_comm (l₁ := l) (l₂ := [n]))

/-- R92, R111. -/
theorem State.Moves.dutySound (h : State.Moves w s t) (hs : s.DutySound) : t.DutySound := by
  refine h.keeps (P := State.DutySound) (fun s t h e => ?_) hs
  have hc := h.config
  cases h with
  | fan _ m f hc' hs => exact ⟨e.once, fun n => by rw [hc n]; exact e.fitted n, e.runSet⟩
  | alloc _ r t b h => exact ⟨e.once, e.fitted, h e⟩
  | turn =>
    exact ⟨(turnOver_perm s.duty).nodup_iff.2 e.once, fun n => ((turnOver_perm s.duty).mem_iff).trans (e.fitted n), e.runSet⟩
  | beside _ _ h => exact ⟨h.duty ▸ e.once, fun n => by rw [hc n, h.duty]; exact e.fitted n, h.record ▸ e.runSet⟩
  | _ => exact ⟨e.once, e.fitted, e.runSet⟩

theorem State.Move.zoneFitted (h : State.Move w s t) (z : ZoneId) : (t.zone z).config.fitted = (s.zone z).config.fitted := by
  cases h with
  | beside _ _ h => exact h.zones z
  | _ => rfl

theorem State.Move.headFitted (h : State.Move w s t) (k : HeadId) : (t.head k).config.fitted = (s.head k).config.fitted := by
  cases h with
  | beside _ _ h => exact h.heads k
  | _ => rfl

theorem State.Move.deviceFitted (h : State.Move w s t) (d : Device) : t.deviceFitted d = s.deviceFitted d := by
  cases d with
  | head k => exact h.headFitted k
  | drive n => exact congrArg FanConfig.fitted (h.config n)
  | extract z => exact h.zoneFitted z
  | makeUp z => exact h.zoneFitted z

theorem State.Moves.deviceFitted (h : State.Moves w s t) (d : Device) : t.deviceFitted d = s.deviceFitted d :=
  h.keeps (P := fun t => t.deviceFitted d = s.deviceFitted d) (fun _ _ h e => (h.deviceFitted d).trans e) rfl

theorem State.Moves.zoneFitted (h : State.Moves w s t) (z : ZoneId) : (t.zone z).config.fitted = (s.zone z).config.fitted :=
  h.deviceFitted (.extract z)

theorem State.LineFit.of_line (h : s.LineFit) (hl : t.line = s.line) (hf : ∀ d, t.deviceFitted d = s.deviceFitted d) :
    t.LineFit := by
  have h1 : t.fittedDevices = s.fittedDevices := by
    simp only [State.fittedDevices]; congr 1; exact funext hf
  have h2 : ∀ d, t.link d = s.link d := fun d => by simp [State.link, hl]
  exact ⟨by rw [hl, h1]; exact h.polls, by rw [hl]; exact h.position, by rw [hl]; exact h.once,
    fun o ho => by rw [hf, h2]; exact h.queued o (hl ▸ ho), by rw [hl]; exact h.row, fun d => by rw [h2]; exact h.links d,
    fun x hx hd => by rw [hf]; exact h.flight x (hl ▸ hx) hd⟩

/-- R146 to R153. -/
theorem State.Moves.lineFit (h : State.Moves w s t) (hs : s.LineFit) : t.LineFit := by
  refine h.keeps (P := State.LineFit) (fun s t h e => ?_) hs
  have hd := h.deviceFitted
  cases h with
  | line _ f h => exact h e
  | beside _ _ h => exact e.of_line h.line hd
  | _ => exact e.of_line rfl hd

/-- R100, R102: the travel timers of both kinds of damper are as the states say. -/
def State.Timed (s : State) : Prop :=
  (∀ z, (s.extractOf z).Timed (s.zone z).config.fitted) ∧ ∀ z, (s.makeUpOf z).Timed (s.zone z).config.fitted

theorem State.indicate_extractOf (s : State) (z y : ZoneId) : (s.indicate z).extractOf y = s.extractOf y := rfl

theorem State.modExtract_extractOf (s : State) (z y : ZoneId) (f : ExtractDamper → ExtractDamper) :
    (s.modExtract z f).extractOf y = if y = z then f (s.extractOf z) else s.extractOf y := upd_get _ _ _ _
theorem State.modMakeUp_makeUpOf (s : State) (z y : ZoneId) (f : MakeUpDamper → MakeUpDamper) :
    (s.modMakeUp z f).makeUpOf y = if y = z then f (s.makeUpOf z) else s.makeUpOf y := upd_get _ _ _ _

theorem State.Moves.timed (h : State.Moves w s t) (hs : s.Timed) : t.Timed := by
  refine h.keeps (P := State.Timed) (fun s t h e => ?_) hs
  have hz := h.zoneFitted
  cases h with
  | extract _ z f h =>
    refine ⟨fun y => ?_, fun y => e.2 y⟩
    rw [State.modExtract_extractOf]
    split
    · rename_i hy; subst hy; exact h (e.1 y)
    · exact e.1 y
  | makeUp _ z f h =>
    refine ⟨fun y => e.1 y, fun y => ?_⟩
    rw [State.modMakeUp_makeUpOf]
    split
    · rename_i hy; subst hy; exact h (e.2 y)
    · exact e.2 y
  | beside _ _ h =>
    refine ⟨fun y => ?_, fun y => ?_⟩
    · rw [hz]; simpa [State.extractOf, h.extract] using e.1 y
    · rw [hz]; simpa [State.makeUpOf, h.makeUp] using e.2 y
  | _ => exact e

/-- R109: the indications are those of the roles and the dampers. -/
def State.Indicated (s : State) : Prop :=
  ∀ z : ZoneId, s.indications[z.val] = indicationOf (s.role z) (s.extractOf z) (s.makeUpOf z)

theorem State.Indicated.indicate {s u : State} (e : s.Indicated) (z : ZoneId) (hi : u.indications = s.indications)
    (hr : ∀ y, u.role y = s.role y) (h1 : ∀ y, y ≠ z → u.extractOf y = s.extractOf y)
    (h2 : ∀ y, y ≠ z → u.makeUpOf y = s.makeUpOf y) : (u.indicate z).Indicated := by
  intro y
  have : (u.indicate z).indications[y.val] =
      if y = z then indicationOf (u.role z) (u.extractOf z) (u.makeUpOf z) else u.indications[y.val] := upd_get _ _ _ _
  rw [this]
  split
  · rename_i hy; subst hy; rfl
  · rename_i hy
    have := e y
    rw [← hr y, ← h1 y hy, ← h2 y hy] at this
    simp only [hi]; exact this

/-- R109: the moves of a pass keep the indications in step. -/
theorem State.Moves.indicated (h : State.Moves false s t) (hs : s.Indicated) : t.Indicated := by
  refine h.keeps (P := State.Indicated) (fun s t h e => ?_) hs
  generalize hw : false = w at h
  cases h with
  | extract _ z f h =>
    refine e.indicate z rfl (fun _ => rfl) (fun y hy => ?_) fun _ _ => rfl
    exact upd_get_other _ _ hy
  | makeUp _ z f h =>
    refine e.indicate z rfl (fun _ => rfl) (fun _ _ => rfl) fun y hy => ?_
    exact upd_get_other _ _ hy
  | beside => cases hw
  | port => cases hw
  | told => cases hw
  | alarms => cases hw
  | burn => cases hw
  | douse => cases hw
  | _ => exact e

end Sys2Proof.Machine
end

