-- ==== Sys2Proof/Laws/Passes.lean ====
section
/-! SUPPORT. Every operation of the fan sequencer, the damper supervisor and the allocation pass is a chain of the moves of
a pass; `State.finish_moves` says it of the end of a step. -/

namespace Sys2Proof.Machine

-- One proof at a time: with a thread for each the package as one text would not fit in memory.
set_option Elab.async false

variable {w : Bool} (s : State)

/-! ### The line -/

theorem mem_allDevices (d : Device) : d ∈ allDevices := by
  simp only [allDevices, List.mem_append, List.mem_map, List.mem_finRange, true_and]
  cases d <;> simp

theorem State.mem_fittedDevices {d : Device} : d ∈ s.fittedDevices ↔ s.deviceFitted d = true := by
  simp [State.fittedDevices, mem_allDevices]

theorem mem_enter {q : List Order} {o x : Order} (h : x ∈ enter q o) : x = o ∨ x ∈ q := by
  unfold enter at h
  split at h
  · obtain ⟨y, hy, rfl⟩ := List.mem_map.1 h
    split
    · exact .inl rfl
    · exact .inr hy
  · rcases List.mem_append.1 h with h | h
    · exact .inr h
    · exact .inl (List.mem_singleton.1 h)

/-- R147: the command queued last for a device is in the queue. -/
theorem self_mem_enter (q : List Order) (o : Order) : o ∈ enter q o := by
  unfold enter
  split
  · rename_i h
    obtain ⟨x, hx, hd⟩ := List.any_eq_true.1 h
    exact List.mem_map.2 ⟨x, hx, if_pos (by simpa using hd)⟩
  · exact List.mem_append.2 (.inr (List.mem_singleton.2 rfl))

/-- R147: the commands of the other devices keep their places. -/
theorem mem_enter_other {q : List Order} {o x : Order} (h : x.device ≠ o.device) : x ∈ enter q o ↔ x ∈ q := by
  constructor
  · intro hx
    rcases mem_enter hx with rfl | hx
    · exact absurd rfl h
    · exact hx
  · intro hx
    unfold enter
    split
    · exact List.mem_map.2 ⟨x, hx, if_neg h⟩
    · exact List.mem_append.2 (.inl hx)

theorem enter_once {q : List Order} (h : q.Pairwise fun a b => a.device ≠ b.device) (o : Order) :
    (enter q o).Pairwise fun a b => a.device ≠ b.device := by
  unfold enter
  split
  · rw [List.pairwise_map]
    refine h.imp fun {a b} hab => ?_
    split <;> split <;> simp_all
  · rename_i hn
    refine List.pairwise_append.2 ⟨h, List.pairwise_singleton _ _, fun a ha b hb => ?_⟩
    obtain rfl := List.mem_singleton.1 hb
    simp only [List.any_eq_true, not_exists, not_and, beq_iff_eq] at hn
    exact hn a ha

theorem State.LineFit.enter {s : State} (h : s.LineFit) {o : Order} (h1 : s.deviceFitted o.device = true)
    (h2 : (s.link o.device).lost = false) : (s.modLine fun l => { l with queue := Machine.enter l.queue o }).LineFit := by
  refine ⟨h.polls, h.position, enter_once h.once o, fun x hx => ?_, h.row, h.links, h.flight⟩
  rcases mem_enter hx with rfl | hx
  · exact ⟨h1, h2⟩
  · exact h.queued x hx

theorem State.enqueue_moves (o : Order) : State.Moves w s (s.enqueue o) := by
  unfold State.enqueue
  split
  · rename_i h
    simp only [Bool.and_eq_true, Bool.not_eq_true'] at h
    exact (State.Move.line s _ fun hl => hl.enter h.1 h.2).moves
  · exact .refl _

/-- R146: the position of a poll list that is not empty is one of its devices. -/
theorem firstAbove_mem {l : List Device} (h : l ≠ []) : ∀ d, ∃ x, firstAbove l d = some x ∧ x ∈ l := by
  intro d
  have hh : ∃ x, l.head? = some x ∧ x ∈ l := by
    cases l with
    | nil => exact absurd rfl h
    | cons a l => exact ⟨a, rfl, List.mem_cons_self⟩
  cases d with
  | none => exact hh
  | some d =>
    simp only [firstAbove]
    cases hx : l.find? fun x => decide (d.address < x.address) with
    | none => simp only; exact hh
    | some x => simp only; exact ⟨x, rfl, List.mem_of_find?_eq_some hx⟩

/-- R148: the choice of the next exchange keeps the laws of the line and leaves none idle. -/
theorem State.LineFit.choose {s : State} (h : s.LineFit) : s.chooseExchange.LineSound := by
  have hp : ∀ u : State, u.line.inFlight = none → u.LineFit → (u.line.queue ≠ [] → u.line.pollList ≠ []) := by
    intro u _ hu hq
    obtain ⟨o, q, ho⟩ := List.exists_cons_of_ne_nil hq
    have := (hu.queued o (by rw [ho]; exact List.mem_cons_self)).1
    have hm := u.mem_fittedDevices.2 this
    rw [← hu.polls] at hm
    exact List.ne_nil_of_mem hm
  have hpoll : s.line.inFlight = none → (s.modLine FieldLine.pollOrIdle).LineSound := by
    intro hn
    by_cases he : s.line.pollList = []
    · have hq : s.line.queue = [] := by
        by_contra hq; exact hp s hn h hq he
      have : s.modLine FieldLine.pollOrIdle = s := by simp [State.modLine, FieldLine.pollOrIdle, he]
      rw [this]
      exact ⟨h.polls, h.position, h.once, h.queued, h.row, h.links, h.flight, fun _ => ⟨hq, he⟩⟩
    · obtain ⟨d, hd, hm⟩ := h.position he
      obtain ⟨a, l, hl⟩ := List.exists_cons_of_ne_nil he
      have : s.modLine FieldLine.pollOrIdle = s.modLine fun l => l.sendPoll d := by
        simp [State.modLine, FieldLine.pollOrIdle, hl, hd]
      rw [this]
      refine ⟨h.polls, fun _ => firstAbove_mem he (some d), h.once, h.queued, Nat.zero_le _, h.links, fun x hx _ => ?_,
        fun hx => by cases hx⟩
      obtain rfl : _ = x := Option.some.inj hx
      rw [h.polls] at hm
      exact s.mem_fittedDevices.1 hm
  unfold State.chooseExchange
  rcases hf : s.line.inFlight with _ | x
  · rcases hq : s.line.queue.find? fun o => !s.holdsBack o with _ | o
    · have : s.modLine (FieldLine.choose s.holdsBack) = s.modLine FieldLine.pollOrIdle := by
        simp only [State.modLine, FieldLine.choose, hf, hq]
      rw [this]; exact hpoll hf
    · by_cases hr : s.line.row < Config.commandsInRow
      · have : s.modLine (FieldLine.choose s.holdsBack) = s.modLine fun l => l.sendCommand o (l.queue.erase o) := by
          simp only [State.modLine, FieldLine.choose, hf, hq, hr, if_true]
        rw [this]
        have hs : (s.line.queue.erase o).Sublist s.line.queue := List.erase_sublist
        refine ⟨h.polls, h.position, h.once.sublist hs, fun x hx => h.queued x (hs.subset hx), hr, h.links, fun x hx _ => ?_,
          fun hx => by cases hx⟩
        obtain rfl : _ = x := Option.some.inj hx
        exact (h.queued o (List.mem_of_find?_eq_some hq)).1
      · have : s.modLine (FieldLine.choose s.holdsBack) = s.modLine FieldLine.pollOrIdle := by
          simp only [State.modLine, FieldLine.choose, hf, hq, hr, if_false]
        rw [this]; exact hpoll hf
  · have : s.modLine (FieldLine.choose s.holdsBack) = s := by simp only [State.modLine, FieldLine.choose, hf]
    rw [this]
    exact ⟨h.polls, h.position, h.once, h.queued, h.row, h.links, h.flight, fun hn => by rw [hf] at hn; cases hn⟩

/-- R80: the choice of the next exchange sends no command that is held back. -/
theorem State.chooseExchange_sends {s : State} {x : Exchange} {o : Order} (h : s.line.inFlight = none)
    (hx : s.chooseExchange.line.inFlight = some x) (ho : x.order = some o) : o ∈ s.line.queue ∧ s.holdsBack o = false := by
  have hp : ∀ l : FieldLine, l.inFlight = none → l.pollOrIdle.inFlight = some x → x.order = none := by
    intro l hl hx
    unfold FieldLine.pollOrIdle at hx; split at hx
    · obtain rfl : _ = x := Option.some.inj hx; rfl
    · rw [hl] at hx; cases hx
  unfold State.chooseExchange State.modLine FieldLine.choose at hx
  simp only [h] at hx
  split at hx
  · rename_i c hc
    split at hx
    · obtain rfl : _ = x := Option.some.inj hx
      obtain rfl : c = o := Option.some.inj ho
      exact ⟨List.mem_of_find?_eq_some hc, by simpa using List.find?_some hc⟩
    · rw [hp _ h hx] at ho; cases ho
  · rw [hp _ h hx] at ho; cases ho

theorem State.chooseExchange_moves : State.Moves w s s.chooseExchange :=
  (State.Move.line s _ fun h => h.choose.fit).moves

/-! ### Notices, entries, triggers -/

theorem State.trigger_moves : State.Moves w s s.trigger :=
  (State.Move.alloc s s.alloc.record s.alloc.stageDown true fun h => h.runSet).moves
theorem State.triggerIf_moves (b : Bool) : State.Moves w s (s.triggerIf b) := by
  unfold State.triggerIf; split
  · exact s.trigger_moves
  · exact .refl _
theorem State.raiseAll_moves (n : Notice) : State.Moves w s (s.raiseAll n) := (State.Move.notice s n).moves
theorem State.raiseAlarm_moves (k : AlarmKey) (d : Option FanDetail) (h : k.ofDevice = true ∨ (w = true ∧ k.isFire = false)) :
    State.Moves w s (s.raiseAlarm k d) := by
  unfold State.raiseAlarm
  split
  · exact (State.Move.listed s k d h).moves.trans (State.raiseAll_moves _ _)
  · exact (State.Move.listed s k d h).moves
theorem State.clearAlarm_moves (k : AlarmKey) (h : k.ofDevice = true ∨ (w = true ∧ k.isFire = false)) :
    State.Moves w s (s.clearAlarm k) := (State.Move.cleared s k h).moves

/-! ### Fans -/

/-- R74: the fan is fitted and an enrolment has resolved it. -/
def Fan.Able (f : Fan) : Prop :=
  f.config.fitted = true ∧ f.ability.isSome = true ∧ f.mode.isSome = true ∧ f.cls.isSome = true ∧ f.minSpeed.isSome = true

theorem Fan.Sound.able {f : Fan} (h : f.Sound) (he : f.state.enrolled = true) : f.Able := by
  refine ⟨?_, h.resolved he⟩
  by_contra hc
  have := h.absent.2 (by simpa using hc)
  rw [this] at he; cases he

theorem Fan.Sound.fitted {f : Fan} (h : f.Sound) (he : f.state ≠ .absent) : f.config.fitted = true := by
  by_contra hc; exact he (h.absent.2 (by simpa using hc))

/-- A change of fields that no law of a fan speaks of. -/
theorem State.modFan_moves (n : FanId) (f : Fan → Fan) (h : ∀ q : Fan, (f q).config = q.config ∧ (f q).state = q.state ∧
    (f q).timer = q.timer ∧ (f q).ability = q.ability ∧ (f q).mode = q.mode ∧ (f q).cls = q.cls ∧ (f q).minSpeed = q.minSpeed
      := by intro q; exact ⟨rfl, rfl, rfl, rfl, rfl, rfl, rfl⟩) :
    State.Moves w s (s.modFan n f) := by
  refine (State.Move.fan s n f (h _).1 fun hs => ?_).moves
  obtain ⟨h1, h2, h3, h4, h5, h6, h7⟩ := h (s.fan n)
  exact ⟨by rw [h1, h2]; exact hs.absent, by rw [h2, h3]; exact hs.timer,
    fun e => by rw [h4, h5, h6, h7]; exact hs.resolved (h2 ▸ e)⟩

/-- R74: a fan that is able enters one of the states of an enrolled fan, with the timer the state has. -/
theorem State.enterState_moves (n : FanId) {st : FanState} {timer : Option Nat} (he : st.enrolled = true)
    (ht : timer.isSome = st.timed) (h : (s.fan n).Sound → (s.fan n).Able) : State.Moves w s (s.enterState n st timer) := by
  refine .trans ((State.Move.fan s n _ rfl fun hs => ?_).moves) (State.triggerIf_moves _ _)
  obtain ⟨h1, h2⟩ := h hs
  exact ⟨⟨fun e => (by rw [show st = .absent from e] at he; cases he),
    fun e => (by rw [show (s.fan n).config.fitted = false from e] at h1; cases h1)⟩, ht, fun _ => h2⟩

/-- R74: a fan leaves for a state that is not of an enrolled fan. -/
theorem State.enterState_moves_unable (n : FanId) {st : FanState} (he : st.enrolled = false) (ht : st.timed = false)
    (ha : st ≠ .absent) (h : (s.fan n).Sound → (s.fan n).config.fitted = true) :
    State.Moves w s (s.enterState n st none) := by
  refine .trans ((State.Move.fan s n _ rfl fun hs => ?_).moves) (State.triggerIf_moves _ _)
  have h1 := h hs
  exact ⟨⟨fun e => absurd e ha, fun e => (by rw [show (s.fan n).config.fitted = false from e] at h1; cases h1)⟩,
    (by simp [ht]), fun e => (by rw [show st.enrolled = true from e] at he; cases he)⟩

@[simp] theorem State.enterState_fan (n : FanId) (st : FanState) (t : Option Nat) :
    (s.enterState n st t).fan n = { s.fan n with state := st, timer := t } := by
  unfold State.enterState State.triggerIf
  split <;> exact State.modFan_fan_self s n _

theorem State.queueRun_moves (n : FanId) : State.Moves w s (s.queueRun n) :=
  (State.modFan_moves s n _).trans (State.enqueue_moves _ _)
theorem State.queueStop_moves (n : FanId) : State.Moves w s (s.queueStop n) :=
  (State.modFan_moves s n _).trans (State.enqueue_moves _ _)

@[simp] theorem State.queueStop_fan (n : FanId) :
    (s.queueStop n).fan n = { s.fan n with speedCmd := 0, smokeSent := false } := by
  unfold State.queueStop; rw [State.enqueue_fan, State.modFan_fan_self]
@[simp] theorem State.queueRun_fan (n : FanId) :
    (s.queueRun n).fan n = { s.fan n with speedCmd := (s.fan n).runSpeed s.alloc.record.speed, smokeSent := s.alloc.record.smoke } := by
  unfold State.queueRun; rw [State.enqueue_fan, State.modFan_fan_self]

theorem State.startFan_moves (n : FanId) (h : (s.fan n).Sound → (s.fan n).Able) : State.Moves w s (s.startFan n) := by
  refine .trans ?_ (State.queueRun_moves _ _)
  refine (State.modFan_moves s n _).trans (State.enterState_moves _ n rfl rfl fun hs => ?_)
  rw [State.modFan_fan_self] at hs ⊢
  exact h ⟨hs.absent, hs.timer, hs.resolved⟩
theorem State.startIfAllowed_moves (n : FanId) (h : (s.fan n).Sound → (s.fan n).Able) : State.Moves w s (s.startIfAllowed n) := by
  unfold State.startIfAllowed
  split
  · exact s.startFan_moves n h
  · exact .refl _
theorem State.enterReady_moves (n : FanId) (h : (s.fan n).Sound → (s.fan n).Able) : State.Moves w s (s.enterReady n) := by
  refine ((State.enterState_moves s n rfl rfl h).trans (State.clearAlarm_moves _ _ (.inl rfl))).trans
    (State.startIfAllowed_moves _ n fun hs => hs.able ?_)
  rw [State.clearAlarm_fan, State.enterState_fan]; rfl
theorem State.stopFan_moves (n : FanId) (h : (s.fan n).Sound → (s.fan n).Able) : State.Moves w s (s.stopFan n) := by
  refine (s.queueStop_moves n).trans (State.enterState_moves _ n rfl rfl fun hs => ?_)
  rw [State.queueStop_fan] at hs ⊢
  exact h ⟨hs.absent, hs.timer, hs.resolved⟩
theorem State.enterEnrolHold_moves (n : FanId) (h : (s.fan n).Sound → (s.fan n).Able) : State.Moves w s (s.enterEnrolHold n) :=
  State.enterState_moves s n rfl rfl h
theorem State.tripFan_moves (n : FanId) (d : FanDetail) (h : (s.fan n).Sound → (s.fan n).Able) :
    State.Moves w s (s.tripFan n d) := by
  refine .trans (.trans (.trans (.trans ?_ (State.enterState_moves _ n rfl rfl fun hs => ?_)) (State.queueStop_moves _ n))
    (State.raiseAlarm_moves _ _ _ (.inl rfl))) (State.raiseAll_moves _ _)
  · exact State.modFan_moves s n _
  · rw [State.modFan_fan_self] at hs ⊢
    exact h ⟨hs.absent, hs.timer, hs.resolved⟩
theorem State.loseFan_moves (n : FanId) : State.Moves w s (s.loseFan n) := by
  unfold State.loseFan
  split
  · exact .refl _
  · rename_i hn
    refine .trans (.trans (.trans (State.modFan_moves s n _)
      (State.enterState_moves_unable _ n rfl rfl (by decide) fun hs => ?_)) (State.raiseAlarm_moves _ _ _ (.inl rfl)))
      (State.raiseAll_moves _ _)
    rw [State.modFan_fan_self] at hs ⊢
    exact Fan.Sound.fitted (f := s.fan n) ⟨hs.absent, hs.timer, hs.resolved⟩ fun e => hn (.inl e)

theorem State.enterEnrolling_moves (n : FanId) (h : (s.fan n).Sound → (s.fan n).config.fitted = true) :
    State.Moves w s (s.enterEnrolling n) := by
  refine .trans ?_ (State.enqueue_moves _ _)
  -- the resolved fields and the state go together: one move
  have e : ((s.modFan n fun f => { f with ability := none, mode := none, cls := none, minSpeed := none, plainAnswers := 0 }).enterState
      n .enrolling none) = (s.modFan n fun f =>
        { f with ability := none, mode := none, cls := none, minSpeed := none, plainAnswers := 0, state := .enrolling, timer := none }).triggerIf
          (eligibilityMove s.resolver.smoke (s.fan n).state .enrolling) := by
    unfold State.enterState
    rw [State.modFan_fan_self]
    congr 1
    simp only [State.modFan, upd, Vector.set_set]
    congr 2
    simp
  rw [e]
  refine .trans (State.Move.fan s n _ rfl fun hs => ?_).moves (State.triggerIf_moves _ _)
  have h1 := h hs
  exact ⟨⟨fun e => (nomatch e), fun e => (by rw [show (s.fan n).config.fitted = false from e] at h1; cases h1)⟩, rfl, fun e => (nomatch e)⟩

theorem State.completeEnrolment_moves (n : FanId) (a : Ability) (r : DriveReport) (h : (s.fan n).state = .enrolling) :
    State.Moves w s (s.completeEnrolment n a r) := by
  have hm : State.Moves w s (s.modFan n fun f => f.resolve a).trigger := by
    refine .trans (State.Move.fan s n _ rfl fun hs => ?_).moves (State.trigger_moves _)
    exact ⟨hs.absent, hs.timer, fun _ => ⟨rfl, rfl, rfl, rfl⟩⟩
  have ha : ((s.modFan n fun f => f.resolve a).trigger.fan n).Sound → ((s.modFan n fun f => f.resolve a).trigger.fan n).Able := by
    intro hs
    rw [State.trigger_fan, State.modFan_fan_self] at hs ⊢
    refine ⟨hs.fitted ?_, rfl, rfl, rfl, rfl⟩
    show (s.fan n).state ≠ .absent
    rw [h]; decide
  unfold State.completeEnrolment
  simp only
  split
  · exact hm.trans (State.tripFan_moves _ _ _ ha)
  · split
    · exact hm.trans (State.enterReady_moves _ _ ha)
    · exact hm.trans (State.stopFan_moves _ _ ha)

/-! ### A drive's reply -/

theorem State.restFan_moves (n : FanId) (h : (s.fan n).Sound → (s.fan n).Able) : State.Moves w s (s.restFan n) := by
  have h1 : State.Moves w s (s.enterState n .restartHold (some (s.fan n).config.restartHold)) := State.enterState_moves s n rfl rfl h
  unfold State.restFan
  simp only
  split
  · exact h1.trans (State.enterReady_moves _ n fun hs => hs.able (by rw [State.enterState_fan]; rfl))
  · exact h1
theorem State.fanStopped_moves (n : FanId) (h : (s.fan n).Sound → (s.fan n).Able) : State.Moves w s (s.fanStopped n) := by
  unfold State.fanStopped
  split
  · refine (State.modFan_moves s n _).trans (State.enterEnrolHold_moves _ n fun hs => ?_)
    rw [State.modFan_fan_self] at hs ⊢
    exact h ⟨hs.absent, hs.timer, hs.resolved⟩
  · split
    · exact s.restFan_moves n h
    · exact s.enterReady_moves n h
theorem State.commandOff_moves (n : FanId) (r : DriveReport) : State.Moves w s (s.commandOff n r) := by
  unfold State.commandOff
  split
  · exact s.queueStop_moves n
  · exact .refl _
theorem State.plainAnswer_moves (n : FanId) (r : DriveReport) (h : (s.fan n).state = .enrolling) :
    State.Moves w s (s.plainAnswer n r) := by
  have h1 : State.Moves w s (s.modFan n fun f => { f with plainAnswers := f.plainAnswers + 1 }) :=
    State.modFan_moves s n _
  unfold State.plainAnswer
  simp only
  split
  · exact h1.trans (State.enqueue_moves _ _)
  · exact h1.trans (State.completeEnrolment_moves _ n _ r (by rw [State.modFan_fan_self]; exact h))
theorem State.enrollingReply_moves (n : FanId) (r : DriveReport) (k : Option Order) (a : Option Ability)
    (h : (s.fan n).state = .enrolling) : State.Moves w s (s.enrollingReply n r k a) := by
  unfold State.enrollingReply
  split
  · exact s.completeEnrolment_moves n _ r h
  · split
    · exact s.plainAnswer_moves n r h
    · exact .refl _
theorem State.unlessFault_moves (n : FanId) (r : DriveReport) (next : State) (h : (s.fan n).Sound → (s.fan n).Able)
    (hn : State.Moves w s next) : State.Moves w s (s.unlessFault n r next) := by
  unfold State.unlessFault
  split
  · exact s.tripFan_moves n _ h
  · exact hn
theorem State.reportTaken_moves (n : FanId) (r : DriveReport) (k : Option Order) (a : Option Ability) :
    State.Moves w s (s.reportTaken n r k a) := by
  have ha : (s.fan n).state.enrolled = true → (s.fan n).Sound → (s.fan n).Able := fun e hs => hs.able e
  unfold State.reportTaken
  split <;> rename_i hst
  · exact .refl _
  · exact s.enrollingReply_moves n r k a hst
  · split
    · exact .refl _
    · exact s.commandOff_moves n r
  · exact s.unlessFault_moves n r _ (ha (by rw [hst]; rfl)) (s.commandOff_moves n r)
  · exact s.unlessFault_moves n r _ (ha (by rw [hst]; rfl)) (s.commandOff_moves n r)
  · refine s.unlessFault_moves n r _ (ha (by rw [hst]; rfl)) ?_
    unfold State.startingReply
    split
    · exact State.enterState_moves s n rfl rfl (ha (by rw [hst]; rfl))
    · exact .refl _
  · refine s.unlessFault_moves n r _ (ha (by rw [hst]; rfl)) ?_
    unfold State.runningReply
    split
    · exact s.tripFan_moves n _ (ha (by rw [hst]; rfl))
    · exact .refl _
  · refine s.unlessFault_moves n r _ (ha (by rw [hst]; rfl)) ?_
    split
    · exact s.fanStopped_moves n (ha (by rw [hst]; rfl))
    · exact .refl _
  · exact .refl _
  · exact s.enterEnrolling_moves n fun hs => hs.fitted (by rw [hst]; decide)
/-- R77 to R90: a drive's reply. -/
theorem State.driveReply_moves (n : FanId) (run speed fault : Byte) (k : Option Order) (a : Option Ability) :
    State.Moves w s (s.driveReply n run speed fault k a) :=
  (State.modFan_moves s n _).trans (State.reportTaken_moves _ _ _ _ _)

/-! ### Smoke service, the path and the grace timer -/

theorem foldl_moves {α : Type} (l : List α) (f : State → α → State) (h : ∀ s a, State.Moves w s (f s a)) :
    State.Moves w s (l.foldl f s) := by
  induction l generalizing s with
  | nil => exact .refl _
  | cons a l ih => exact (h s a).trans (ih _)
theorem State.eachFan_moves (f : State → FanId → State) (h : ∀ s n, State.Moves w s (f s n)) : State.Moves w s (s.eachFan f) :=
  foldl_moves s _ f h
theorem State.eachZone_moves (f : State → ZoneId → State) (h : ∀ s z, State.Moves w s (f s z)) : State.Moves w s (s.eachZone f) :=
  foldl_moves s _ f h

theorem State.smokeBegins_moves : State.Moves w s s.smokeBegins := by
  refine (State.Move.grace s none).moves.trans (State.eachFan_moves _ _ fun s n => ?_)
  split
  · rename_i h; exact s.enterReady_moves n fun hs => hs.able (by rw [h]; rfl)
  · exact .refl _
theorem State.smokeEnds_moves : State.Moves w s s.smokeEnds := by
  unfold State.smokeEnds
  split
  · exact (State.Move.grace s _).moves
  · exact .refl _
theorem State.pathGained_moves : State.Moves w s s.pathGained := by
  refine (State.Move.grace s none).moves.trans (State.eachFan_moves _ _ fun s n => ?_)
  split
  · rename_i h; exact s.startIfAllowed_moves n fun hs => hs.able (by rw [h]; rfl)
  · exact .refl _
theorem State.pathLost_moves : State.Moves w s s.pathLost := by
  unfold State.pathLost
  split
  · split
    · exact s.raiseAll_moves _
    · exact (s.raiseAll_moves _).trans (State.Move.grace _ _).moves
  · exact .refl _

theorem FanState.turning_enrolled {st : FanState} (h : st.turning = true) : st.enrolled = true := by cases st <;> simp_all [FanState.turning, FanState.enrolled]

theorem State.graceStop_moves (n : FanId) : State.Moves w s (s.graceStop n) := by
  unfold State.graceStop
  split
  · rename_i h
    refine (s.queueStop_moves n).trans (State.Move.fan _ n _ rfl fun hs => ?_).moves
    rw [State.queueStop_fan] at hs ⊢
    have ha : Fan.Able (s.fan n) := Fan.Sound.able (f := s.fan n) ⟨hs.absent, hs.timer, hs.resolved⟩ (FanState.turning_enrolled h)
    exact ⟨⟨fun e => (nomatch e), fun e => (by have := ha.1; rw [show (s.fan n).config.fitted = false from e] at this; cases this)⟩,
      rfl, fun _ => ha.2⟩
  · exact .refl _
/-- R90: the expiry of the grace timer. -/
theorem State.graceExpired_moves : State.Moves w s s.graceExpired :=
  (State.Move.grace s none).moves.trans (State.eachFan_moves _ _ fun s n => s.graceStop_moves n)

theorem State.calledFor_moves (n : FanId) : State.Moves w s (s.calledFor n) := by
  have h1 : State.Moves w s (s.modFan n fun f => { f with startPending := true }) :=
    State.modFan_moves s n _
  unfold State.calledFor
  split <;> rename_i h
  · exact h1.trans (State.startIfAllowed_moves _ n fun hs => hs.able (by rw [State.modFan_fan_self]; show (s.fan n).state.enrolled = true; rw [h]; rfl))
  · simp only
    split
    · exact h1.trans (State.enterReady_moves _ n fun hs => hs.able (by rw [State.modFan_fan_self]; show (s.fan n).state.enrolled = true; rw [h]; rfl))
    · exact h1
  · split
    · exact s.queueRun_moves n
    · exact .refl _
  · split
    · exact s.queueRun_moves n
    · exact .refl _
  · exact .refl _
theorem State.notCalledFor_moves (n : FanId) : State.Moves w s (s.notCalledFor n) := by
  unfold State.notCalledFor
  split <;> rename_i h
  · exact State.modFan_moves s n _
  · exact State.modFan_moves s n _
  · exact State.modFan_moves s n _
  · exact s.stopFan_moves n fun hs => hs.able (by rw [h]; rfl)
  · exact s.stopFan_moves n fun hs => hs.able (by rw [h]; rfl)
  · exact .refl _
/-- R82, R93: the sequencer takes a record. -/
theorem State.takeRunSet_moves (old : AllocRecord) : State.Moves w s (s.takeRunSet old) := by
  refine (State.eachFan_moves s State.fanTakes fun s n => ?_).trans ?_
  · unfold State.fanTakes
    split
    · exact s.calledFor_moves n
    · exact s.notCalledFor_moves n
  · show State.Moves w (s.eachFan State.fanTakes) ((s.eachFan State.fanTakes).turnDuty old)
    unfold State.turnDuty
    split
    · exact (State.Move.turn _).moves
    · exact .refl _

/-! ### Dampers -/

theorem State.reprove_moves : State.Moves w s s.reprove := by
  unfold State.reprove
  split
  · exact .refl _
  · split
    · exact ((State.Move.path s true).moves.trans (State.pathGained_moves _)).trans (State.trigger_moves _)
    · exact ((State.Move.path s false).moves.trans (State.pathLost_moves _)).trans (State.trigger_moves _)
theorem State.damperFault_moves (k : AlarmKey) (h : k.ofDevice = true) : State.Moves w s (s.damperFault k) :=
  (State.raiseAlarm_moves s k none (.inl h)).trans (State.raiseAll_moves _ _)
theorem State.driveExtract_moves (z : ZoneId) (h : (s.zone z).config.fitted = true) : State.Moves w s (s.driveExtract z) :=
  (State.Move.extract s z _ fun _ => by simp [ExtractDamper.Timed, State.travelTime, h]).moves.trans (State.enqueue_moves _ _)
theorem State.faultExtract_moves (z : ZoneId) : State.Moves w s (s.faultExtract z) :=
  (State.Move.extract s z _ fun _ => by simp [ExtractDamper.Timed]).moves.trans (State.damperFault_moves _ _ rfl)
theorem State.settleExtract_moves (z : ZoneId) : State.Moves w s (s.settleExtract z) :=
  (State.Move.extract s z _ fun _ => by simp [ExtractDamper.Timed]).moves.trans (State.clearAlarm_moves _ _ (.inl rfl))
theorem State.judgeExtract_moves (z : ZoneId) (h : (s.zone z).config.fitted = true) : State.Moves w s (s.judgeExtract z) := by
  unfold State.judgeExtract
  simp only
  split
  · exact s.driveExtract_moves z h
  · split
    · exact s.faultExtract_moves z
    · split
      · exact s.settleExtract_moves z
      · exact .refl _
  · split
    · exact s.faultExtract_moves z
    · split
      · exact .refl _
      · exact s.driveExtract_moves z h
  · split
    · exact .refl _
    · split
      · exact s.settleExtract_moves z
      · exact .refl _
/-- R98, R101: an extract damper's reply. -/
theorem State.extractReplied_moves (z : ZoneId) (position flag : Byte) (h : (s.zone z).config.fitted = true) :
    State.Moves w s (s.extractReplied z position flag) :=
  ((State.Move.extract s z _ fun e => e).moves.trans (State.judgeExtract_moves _ z h)).trans (State.reprove_moves _)
theorem State.loseExtract_moves (z : ZoneId) : State.Moves w s (s.loseExtract z) := by
  unfold State.loseExtract
  split
  · exact .refl _
  · exact ((State.Move.extract s z _ fun _ => by simp [ExtractDamper.Timed]).moves.trans (State.damperFault_moves _ _ rfl)).trans
      (State.reprove_moves _)
theorem State.commandExtract_moves (z : ZoneId) (c : Nat) (h : (s.zone z).config.fitted = true) :
    State.Moves w s (s.commandExtract z c) := by
  have h1 : State.Moves w s (s.modExtract z fun d => { d with command := c }) := (State.Move.extract s z _ fun e => e).moves
  unfold State.commandExtract
  split
  · exact .refl _
  · split
    · exact h1
    · exact h1.trans (State.driveExtract_moves _ z h)

theorem MakeUpCommand.travelling_timed (c : MakeUpCommand) :
    (c.travelling == .opening || c.travelling == .closing) = true := by cases c <;> rfl
theorem MakeUpCommand.end_timed (c : MakeUpCommand) : (c.end_ == .opening || c.end_ == .closing) = false := by cases c <;> rfl

theorem State.driveMakeUp_moves (z : ZoneId) (h : (s.zone z).config.fitted = true) : State.Moves w s (s.driveMakeUp z) :=
  (State.Move.makeUp s z _ fun _ => by
    simp only [MakeUpDamper.Timed, h, Bool.true_and, MakeUpCommand.travelling_timed]; rfl).moves.trans (State.enqueue_moves _ _)
theorem State.faultMakeUp_moves (z : ZoneId) : State.Moves w s (s.faultMakeUp z) :=
  (State.Move.makeUp s z _ fun _ => by simp [MakeUpDamper.Timed]).moves.trans (State.damperFault_moves _ _ rfl)
theorem State.settleMakeUp_moves (z : ZoneId) : State.Moves w s (s.settleMakeUp z) :=
  (State.Move.makeUp s z _ fun _ => by
    simp only [MakeUpDamper.Timed, MakeUpCommand.end_timed, Bool.and_false]; rfl).moves.trans (State.clearAlarm_moves _ _ (.inl rfl))
theorem State.judgeMakeUp_moves (z : ZoneId) (h : (s.zone z).config.fitted = true) : State.Moves w s (s.judgeMakeUp z) := by
  unfold State.judgeMakeUp
  simp only
  split
  · exact s.driveMakeUp_moves z h
  · split
    · split
      · exact .refl _
      · exact s.faultMakeUp_moves z
    · split
      · exact s.settleMakeUp_moves z
      · unfold State.straysMakeUp
        split
        · exact s.driveMakeUp_moves z h
        · exact s.driveMakeUp_moves z h
        · exact .refl _
        · exact .refl _
        · exact .refl _
        · exact .refl _
/-- R103, R105: a make-up damper's reply. -/
theorem State.makeUpReplied_moves (z : ZoneId) (o c flag : Byte) (h : (s.zone z).config.fitted = true) :
    State.Moves w s (s.makeUpReplied z o c flag) :=
  (State.Move.makeUp s z _ fun e => e).moves.trans (State.judgeMakeUp_moves _ z h)
theorem State.loseMakeUp_moves (z : ZoneId) : State.Moves w s (s.loseMakeUp z) := by
  unfold State.loseMakeUp
  split
  · exact .refl _
  · exact (State.Move.makeUp s z _ fun _ => by simp [MakeUpDamper.Timed]).moves.trans (State.damperFault_moves _ _ rfl)
theorem State.commandMakeUp_moves (z : ZoneId) (c : MakeUpCommand) (h : (s.zone z).config.fitted = true) :
    State.Moves w s (s.commandMakeUp z c) := by
  have h1 : State.Moves w s (s.modMakeUp z fun m => { m with command := c }) := (State.Move.makeUp s z _ fun e => e).moves
  unfold State.commandMakeUp
  split
  · exact .refl _
  · split
    · exact h1
    · exact h1.trans (State.driveMakeUp_moves _ z h)

/-! ### The commands of a pass -/

/-- R111: the record has entries for fitted zones alone. -/
def State.EntriesFit (s : State) : Prop := ∀ z : ZoneId, s.alloc.record.zones[z.val] ≠ none → (s.zone z).config.fitted = true

theorem State.commandExtract_alloc (z : ZoneId) (c : Nat) : (s.commandExtract z c).alloc = s.alloc := by
  unfold State.commandExtract
  split
  · rfl
  · split
    · rfl
    · unfold State.driveExtract; rw [State.enqueue_alloc]; rfl
theorem State.commandMakeUp_alloc (z : ZoneId) (c : MakeUpCommand) : (s.commandMakeUp z c).alloc = s.alloc := by
  unfold State.commandMakeUp
  split
  · rfl
  · split
    · rfl
    · unfold State.driveMakeUp; rw [State.enqueue_alloc]; rfl
theorem State.extractTakes_alloc (z : ZoneId) : (s.extractTakes z).alloc = s.alloc := by
  unfold State.extractTakes; split
  · exact State.commandExtract_alloc _ _ _
  · rfl
theorem State.makeUpTakes_alloc (z : ZoneId) : (s.makeUpTakes z).alloc = s.alloc := by
  unfold State.makeUpTakes; split
  · exact State.commandMakeUp_alloc _ _ _
  · rfl

theorem foldl_moves_while {α : Type} {P : State → Prop} (l : List α) (f : State → α → State)
    (h : ∀ s a, P s → State.Moves w s (f s a) ∧ P (f s a)) (hs : P s) : State.Moves w s (l.foldl f s) ∧ P (l.foldl f s) := by
  induction l generalizing s with
  | nil => exact ⟨.refl _, hs⟩
  | cons a l ih =>
    obtain ⟨h1, h2⟩ := h s a hs
    obtain ⟨h3, h4⟩ := ih _ h2
    exact ⟨h1.trans h3, h4⟩

/-- R99, R104, R108: the damper supervisor takes a record's commands. -/
theorem State.takeCommands_moves (h : s.EntriesFit) : State.Moves w s s.takeCommands := by
  have step : ∀ (u v : State), u.EntriesFit → State.Moves w u v → v.alloc = u.alloc → v.EntriesFit := by
    intro u v hu hm ha z hz
    rw [hm.zoneFitted]; rw [ha] at hz; exact hu z hz
  have h1 : ∀ (u : State) (z : ZoneId), u.EntriesFit → State.Moves w u (u.extractTakes z) := by
    intro u z hu
    unfold State.extractTakes
    split
    · rename_i e he; exact u.commandExtract_moves z _ (hu z (by rw [he]; simp))
    · exact .refl _
  have h2 : ∀ (u : State) (z : ZoneId), u.EntriesFit → State.Moves w u (u.makeUpTakes z) := by
    intro u z hu
    unfold State.makeUpTakes
    split
    · rename_i e he; exact u.commandMakeUp_moves z _ (hu z (by rw [he]; simp))
    · exact .refl _
  obtain ⟨h3, h4⟩ := foldl_moves_while (w := w) (P := State.EntriesFit) s (List.finRange 16) State.extractTakes
    (fun u z hu => ⟨h1 u z hu, step u _ hu (h1 u z hu) (u.extractTakes_alloc z)⟩) h
  obtain ⟨h5, _⟩ := foldl_moves_while (w := w) (P := State.EntriesFit) _ (List.finRange 16) State.makeUpTakes
    (fun u z hu => ⟨h2 u z hu, step u _ hu (h2 u z hu) (u.makeUpTakes_alloc z)⟩) h4
  exact (h3.trans h5).trans (State.reprove_moves _)

/-! ### The pass and the end of a step -/

theorem State.lowerOrDrop_sublist (e : List FanId) (r b k : Nat) : (s.lowerOrDrop e r b k).fans.Sublist e := by
  induction k with
  | zero => exact List.nil_sublist _
  | succ k ih =>
    unfold State.lowerOrDrop
    split
    · exact List.take_sublist _ _
    · split
      · exact List.take_sublist _ _
      · exact ih

/-- R118, R121: the stage selection takes eligible fans in duty order. -/
theorem State.selectStage_sublist : s.selectStage.fans.Sublist s.eligibleFans := by
  unfold State.selectStage
  simp only
  split
  · exact List.nil_sublist _
  · split
    · exact List.take_sublist _ _
    · exact s.lowerOrDrop_sublist _ _ _ _

/-- R111: a run set is in duty order. -/
theorem State.stage_sublist (b : Bool) : (s.stage b).fans.Sublist s.duty := by
  unfold State.stage
  split
  · exact List.filter_sublist
  · exact s.selectStage_sublist.trans List.filter_sublist

theorem State.newRecord_zones (b : Bool) (z : ZoneId) : (s.newRecord b).zones[z.val] = s.entry (s.stage b) z := by
  simp [State.newRecord]

theorem State.putRecord_moves (b : Bool) : State.Moves w s (s.putRecord (s.newRecord b) (s.newStageDown b)) := by
  unfold State.putRecord
  simp only
  have h := (State.Move.alloc (w := w) s (s.newRecord b) (s.newStageDown b) false fun h => (s.stage_sublist b).nodup h.once).moves
  split
  · exact h.trans (State.raiseAll_moves _ _)
  · exact h

@[simp] theorem State.putRecord_record (r : AllocRecord) (t : Option Nat) : (s.putRecord r t).alloc.record = r := by
  unfold State.putRecord; simp only; split <;> rfl
@[simp] theorem State.putRecord_zone (r : AllocRecord) (t : Option Nat) (z : ZoneId) : (s.putRecord r t).zone z = s.zone z := by
  unfold State.putRecord; simp only; split <;> rfl

/-- R131: one pass and its handover. -/
theorem State.pass_moves (b : Bool) : State.Moves w s (s.pass b) := by
  refine ((s.putRecord_moves b).trans (State.takeCommands_moves _ fun z hz => ?_)).trans (State.takeRunSet_moves _ _)
  rw [State.putRecord_record, State.newRecord_zones, State.entry] at hz
  rw [State.putRecord_zone]
  by_contra hc
  rw [if_neg hc] at hz
  exact hz rfl

theorem State.chain_moves (k : Nat) : State.Moves w s (s.chain k) := by
  induction k generalizing s with
  | zero => exact .refl _
  | succ k ih =>
    unfold State.chain
    split
    · exact (s.pass_moves false).trans (ih _)
    · exact .refl _
theorem State.settle_moves : State.Moves w s s.settle := s.chain_moves _
/-- The end of a step is a chain of the moves of a pass. -/
theorem State.finish_moves : State.Moves w s s.finish := s.settle_moves.trans (State.chooseExchange_moves _)
theorem State.finishExpiry_moves : State.Moves w s s.finishExpiry := (s.pass_moves true).trans (State.finish_moves _)

/-- R148: with the laws of the line but the idle one, the end of a step has them all. -/
theorem State.LineFit.finish {s : State} (h : s.LineFit) : s.finish.LineSound :=
  State.LineFit.choose ((s.settle_moves (w := true)).lineFit h)

end Sys2Proof.Machine
end

