-- ==== Sys2Proof/Laws/Fans.lean ====
section
/-! SUPPORT. The operations on one fan (R74 to R90): each touches that fan's record, the queue, the alarm list, notices and
the mark of a trigger alone, and the record it leaves is written out. -/

namespace Sys2Proof.Machine

-- One proof at a time: with a thread for each the package as one text would not fit in memory.
set_option Elab.async false

variable (s : State) {u v : State} {n : FanId}

/-! ### Only one fan -/

theorem State.OnlyFan.refl (s : State) (n : FanId) : s.OnlyFan s n := ⟨rfl, rfl, fun _ _ => rfl, fun _ _ => rfl⟩

theorem State.OnlyFan.trans {s : State} (h : s.OnlyFan u n) (k : u.OnlyFan v n) : s.OnlyFan v n :=
  ⟨k.lasting.trans h.lasting, k.plant.trans h.plant, fun m hm => (k.others m hm).trans (h.others m hm),
    fun d hd => (k.links d hd).trans (h.links d hd)⟩

theorem State.modFan_onlyFan (n : FanId) (f : Fan → Fan) (h : ∀ q : Fan, (f q).config = q.config := by intro q; rfl) :
    s.OnlyFan (s.modFan n f) n :=
  ⟨State.modFan_lasting s n f h, rfl, fun _ hm => State.modFan_fan_other s f hm, fun _ _ => rfl⟩
@[simp] theorem State.enqueue_link (o : Order) (d : Device) : (s.enqueue o).link d = s.link d := by
  unfold State.enqueue; split <;> rfl
theorem State.enqueue_plant (o : Order) : (s.enqueue o).plant = s.plant := by unfold State.enqueue; split <;> rfl
theorem State.enqueue_onlyFan (n : FanId) (o : Order) : s.OnlyFan (s.enqueue o) n :=
  ⟨State.enqueue_lasting s o, s.enqueue_plant o, fun _ _ => State.enqueue_fan s o _, fun _ _ => s.enqueue_link o _⟩
theorem State.trigger_onlyFan (n : FanId) : s.OnlyFan s.trigger n := ⟨rfl, rfl, fun _ _ => rfl, fun _ _ => rfl⟩
theorem State.triggerIf_onlyFan (n : FanId) (b : Bool) : s.OnlyFan (s.triggerIf b) n := by
  unfold State.triggerIf; split
  · exact s.trigger_onlyFan n
  · exact .refl _ _
theorem State.raiseAll_onlyFan (n : FanId) (m : Notice) : s.OnlyFan (s.raiseAll m) n :=
  ⟨rfl, rfl, fun _ _ => rfl, fun _ _ => rfl⟩
theorem State.raiseAlarm_onlyFan (n : FanId) (k : AlarmKey) (d : Option FanDetail) : s.OnlyFan (s.raiseAlarm k d) n := by
  unfold State.raiseAlarm; split <;> exact ⟨rfl, rfl, fun _ _ => rfl, fun _ _ => rfl⟩
theorem State.clearAlarm_onlyFan (n : FanId) (k : AlarmKey) : s.OnlyFan (s.clearAlarm k) n :=
  ⟨rfl, rfl, fun _ _ => rfl, fun _ _ => rfl⟩
theorem State.enterState_onlyFan (n : FanId) (st : FanState) (t : Option Nat) : s.OnlyFan (s.enterState n st t) n :=
  (s.modFan_onlyFan n _).trans (State.triggerIf_onlyFan _ n _)
theorem State.queueRun_onlyFan (n : FanId) : s.OnlyFan (s.queueRun n) n :=
  (s.modFan_onlyFan n _).trans (State.enqueue_onlyFan _ n _)
theorem State.queueStop_onlyFan (n : FanId) : s.OnlyFan (s.queueStop n) n :=
  (s.modFan_onlyFan n _).trans (State.enqueue_onlyFan _ n _)
theorem State.startFan_onlyFan (n : FanId) : s.OnlyFan (s.startFan n) n :=
  ((s.modFan_onlyFan n _).trans (State.enterState_onlyFan _ n _ _)).trans (State.queueRun_onlyFan _ n)
theorem State.startIfAllowed_onlyFan (n : FanId) : s.OnlyFan (s.startIfAllowed n) n := by
  unfold State.startIfAllowed; split
  · exact s.startFan_onlyFan n
  · exact .refl _ _
theorem State.enterReady_onlyFan (n : FanId) : s.OnlyFan (s.enterReady n) n :=
  ((s.enterState_onlyFan n _ _).trans (State.clearAlarm_onlyFan _ n _)).trans (State.startIfAllowed_onlyFan _ n)
theorem State.stopFan_onlyFan (n : FanId) : s.OnlyFan (s.stopFan n) n :=
  (s.queueStop_onlyFan n).trans (State.enterState_onlyFan _ n _ _)
theorem State.enterEnrolHold_onlyFan (n : FanId) : s.OnlyFan (s.enterEnrolHold n) n := s.enterState_onlyFan n _ _
theorem State.tripFan_onlyFan (n : FanId) (d : FanDetail) : s.OnlyFan (s.tripFan n d) n :=
  ((((s.modFan_onlyFan n _).trans (State.enterState_onlyFan _ n _ _)).trans (State.queueStop_onlyFan _ n)).trans
    (State.raiseAlarm_onlyFan _ n _ _)).trans (State.raiseAll_onlyFan _ n _)
theorem State.loseFan_onlyFan (n : FanId) : s.OnlyFan (s.loseFan n) n := by
  unfold State.loseFan
  split
  · exact .refl _ _
  · exact (((s.modFan_onlyFan n _).trans (State.enterState_onlyFan _ n _ _)).trans (State.raiseAlarm_onlyFan _ n _ _)).trans
      (State.raiseAll_onlyFan _ n _)
theorem State.enterEnrolling_onlyFan (n : FanId) : s.OnlyFan (s.enterEnrolling n) n :=
  ((s.modFan_onlyFan n _).trans (State.enterState_onlyFan _ n _ _)).trans (State.enqueue_onlyFan _ n _)
theorem State.completeEnrolment_onlyFan (n : FanId) (a : Ability) (r : DriveReport) : s.OnlyFan (s.completeEnrolment n a r) n := by
  have h : s.OnlyFan (s.modFan n fun f => f.resolve a).trigger n := (s.modFan_onlyFan n _).trans (State.trigger_onlyFan _ n)
  unfold State.completeEnrolment
  simp only
  split
  · exact h.trans (State.tripFan_onlyFan _ n _)
  · split
    · exact h.trans (State.enterReady_onlyFan _ n)
    · exact h.trans (State.stopFan_onlyFan _ n)
theorem State.restFan_onlyFan (n : FanId) : s.OnlyFan (s.restFan n) n := by
  unfold State.restFan
  simp only
  split
  · exact (s.enterState_onlyFan n _ _).trans (State.enterReady_onlyFan _ n)
  · exact s.enterState_onlyFan n _ _
theorem State.fanStopped_onlyFan (n : FanId) : s.OnlyFan (s.fanStopped n) n := by
  unfold State.fanStopped
  split
  · exact (s.modFan_onlyFan n _).trans (State.enterEnrolHold_onlyFan _ n)
  · split
    · exact s.restFan_onlyFan n
    · exact s.enterReady_onlyFan n
theorem State.commandOff_onlyFan (n : FanId) (r : DriveReport) : s.OnlyFan (s.commandOff n r) n := by
  unfold State.commandOff; split
  · exact s.queueStop_onlyFan n
  · exact .refl _ _
theorem State.plainAnswer_onlyFan (n : FanId) (r : DriveReport) : s.OnlyFan (s.plainAnswer n r) n := by
  unfold State.plainAnswer
  simp only
  split
  · exact (s.modFan_onlyFan n _).trans (State.enqueue_onlyFan _ n _)
  · exact (s.modFan_onlyFan n _).trans (State.completeEnrolment_onlyFan _ n _ _)
theorem State.enrollingReply_onlyFan (n : FanId) (r : DriveReport) (k : Option Order) (a : Option Ability) :
    s.OnlyFan (s.enrollingReply n r k a) n := by
  unfold State.enrollingReply
  split
  · exact s.completeEnrolment_onlyFan n _ r
  · split
    · exact s.plainAnswer_onlyFan n r
    · exact .refl _ _
theorem State.unlessFault_onlyFan (n : FanId) (r : DriveReport) {next : State} (h : s.OnlyFan next n) :
    s.OnlyFan (s.unlessFault n r next) n := by
  unfold State.unlessFault; split
  · exact s.tripFan_onlyFan n _
  · exact h
theorem State.reportTaken_onlyFan (n : FanId) (r : DriveReport) (k : Option Order) (a : Option Ability) :
    s.OnlyFan (s.reportTaken n r k a) n := by
  unfold State.reportTaken
  split
  · exact .refl _ _
  · exact s.enrollingReply_onlyFan n r k a
  · split
    · exact .refl _ _
    · exact s.commandOff_onlyFan n r
  · exact s.unlessFault_onlyFan n r (s.commandOff_onlyFan n r)
  · exact s.unlessFault_onlyFan n r (s.commandOff_onlyFan n r)
  · refine s.unlessFault_onlyFan n r ?_
    unfold State.startingReply; split
    · exact s.enterState_onlyFan n _ _
    · exact .refl _ _
  · refine s.unlessFault_onlyFan n r ?_
    unfold State.runningReply; split
    · exact s.tripFan_onlyFan n _
    · exact .refl _ _
  · refine s.unlessFault_onlyFan n r ?_
    split
    · exact s.fanStopped_onlyFan n
    · exact .refl _ _
  · exact .refl _ _
  · exact s.enterEnrolling_onlyFan n
/-- R77 to R90: a drive's reply. -/
theorem State.driveReply_onlyFan (n : FanId) (run speed fault : Byte) (k : Option Order) (a : Option Ability) :
    s.OnlyFan (s.driveReply n run speed fault k a) n := (s.modFan_onlyFan n _).trans (State.reportTaken_onlyFan _ n _ _ _)
theorem State.graceStop_onlyFan (n : FanId) : s.OnlyFan (s.graceStop n) n := by
  unfold State.graceStop; split
  · exact (s.queueStop_onlyFan n).trans (State.modFan_onlyFan _ n _)
  · exact .refl _ _
theorem State.calledFor_onlyFan (n : FanId) : s.OnlyFan (s.calledFor n) n := by
  unfold State.calledFor
  split
  · exact (s.modFan_onlyFan n _).trans (State.startIfAllowed_onlyFan _ n)
  · simp only; split
    · exact (s.modFan_onlyFan n _).trans (State.enterReady_onlyFan _ n)
    · exact s.modFan_onlyFan n _
  · split
    · exact s.queueRun_onlyFan n
    · exact .refl _ _
  · split
    · exact s.queueRun_onlyFan n
    · exact .refl _ _
  · exact .refl _ _
theorem State.notCalledFor_onlyFan (n : FanId) : s.OnlyFan (s.notCalledFor n) n := by
  unfold State.notCalledFor
  split
  · exact s.modFan_onlyFan n _
  · exact s.modFan_onlyFan n _
  · exact s.modFan_onlyFan n _
  · exact s.stopFan_onlyFan n
  · exact s.stopFan_onlyFan n
  · exact .refl _ _
theorem State.fanTakes_onlyFan (n : FanId) : s.OnlyFan (s.fanTakes n) n := by
  unfold State.fanTakes; split
  · exact s.calledFor_onlyFan n
  · exact s.notCalledFor_onlyFan n

/-! ### The record of the fan -/

@[simp] theorem State.enterState_plant (n : FanId) (st : FanState) (t : Option Nat) : (s.enterState n st t).plant = s.plant :=
  (s.enterState_onlyFan n st t).plant

theorem State.OnlyFan.pathProven {s : State} (h : s.OnlyFan u n) : u.pathProven = s.pathProven := congrArg Plant.pathProven h.plant
theorem State.OnlyFan.record {s : State} (h : s.OnlyFan u n) : u.alloc.record = s.alloc.record := congrArg Plant.record h.plant
theorem State.OnlyFan.duty {s : State} (h : s.OnlyFan u n) : u.duty = s.duty := congrArg Plant.duty h.plant
theorem State.OnlyFan.grace {s : State} (h : s.OnlyFan u n) : u.grace = s.grace := congrArg Plant.grace h.plant
theorem State.OnlyFan.extract {s : State} (h : s.OnlyFan u n) : u.extract = s.extract := congrArg Plant.extract h.plant
theorem State.OnlyFan.makeUp {s : State} (h : s.OnlyFan u n) : u.makeUp = s.makeUp := congrArg Plant.makeUp h.plant
theorem State.OnlyFan.indications {s : State} (h : s.OnlyFan u n) : u.indications = s.indications := congrArg Plant.indications h.plant
theorem State.OnlyFan.resolver {s : State} (h : s.OnlyFan u n) : u.resolver = s.resolver := resolver_of_lasting h.lasting
theorem State.OnlyFan.zone {s : State} (h : s.OnlyFan u n) (z : ZoneId) : u.zone z = s.zone z := by
  simp [State.zone, zones_of_lasting h.lasting]

theorem State.startFan_fan (n : FanId) :
    (s.startFan n).fan n =
      { s.fan n with state := .starting, timer := some (s.fan n).config.startLimit, startPending := false,
                     starts := bump Config.lastCount (s.fan n).starts,
                     speedCmd := (s.fan n).runSpeed s.alloc.record.speed, smokeSent := s.alloc.record.smoke } := by
  have h := ((s.modFan_onlyFan n fun f => { f with startPending := false, starts := bump Config.lastCount f.starts }).trans
    (State.enterState_onlyFan _ n .starting (some (s.fan n).config.startLimit))).record
  unfold State.startFan
  rw [State.queueRun_fan, h, State.enterState_fan, State.modFan_fan_self]
  rfl

theorem State.startIfAllowed_fan (n : FanId) (h : (s.fan n).state = .ready) (ht : (s.fan n).timer = none) :
    (s.startIfAllowed n).fan n = (s.fan n).readied s.pathProven s.alloc.record := by
  unfold State.startIfAllowed Fan.readied
  by_cases hp : (s.fan n).startPending = true ∧ s.pathProven = true
  · rw [if_pos hp, if_pos (by simpa using hp), State.startFan_fan]; rfl
  · rw [if_neg hp, if_neg (by simpa using hp)]
    rw [← h, ← ht]

/-- R83. -/
theorem State.enterReady_fan (n : FanId) : (s.enterReady n).fan n = (s.fan n).readied s.pathProven s.alloc.record := by
  have h := (s.enterState_onlyFan n .ready none).trans (State.clearAlarm_onlyFan _ n (.fanFault n))
  have hf : ((s.enterState n .ready none).clearAlarm (.fanFault n)).fan n = { s.fan n with state := .ready, timer := none } := by
    rw [State.clearAlarm_fan, State.enterState_fan]
  unfold State.enterReady
  rw [State.startIfAllowed_fan _ n (by rw [hf]) (by rw [hf]), hf, h.pathProven, h.record]
  rfl
/-- R85. -/
theorem State.stopFan_fan (n : FanId) : (s.stopFan n).fan n = (s.fan n).stopped := by
  unfold State.stopFan; rw [State.enterState_fan, State.queueStop_fan]; rfl
theorem State.enterEnrolHold_fan (n : FanId) : (s.enterEnrolHold n).fan n = { s.fan n with state := .enrolHold, timer := some 10 } :=
  State.enterState_fan s n _ _
/-- R87. -/
theorem State.tripFan_fan (n : FanId) (d : FanDetail) : (s.tripFan n d).fan n = (s.fan n).tripped := by
  unfold State.tripFan
  rw [State.raiseAll_fan, State.raiseAlarm_fan, State.queueStop_fan, State.enterState_fan, State.modFan_fan_self]; rfl
/-- R89. -/
theorem State.loseFan_fan (n : FanId) (h : (s.fan n).state ≠ .absent) (h' : (s.fan n).state ≠ .lost) :
    (s.loseFan n).fan n = { s.fan n with
      state := .lost, timer := none, startPending := false, reenrolPending := false, plainAnswers := 0, speedCmd := 0,
      smokeSent := false } := by
  unfold State.loseFan
  rw [if_neg (by simp [h, h']), State.raiseAll_fan, State.raiseAlarm_fan, State.enterState_fan, State.modFan_fan_self]
/-- R78. -/
theorem State.enterEnrolling_fan (n : FanId) : (s.enterEnrolling n).fan n = (s.fan n).enrols := by
  unfold State.enterEnrolling
  rw [State.enqueue_fan, State.enterState_fan, State.modFan_fan_self]; rfl
/-- R90. -/
theorem State.graceStop_fan (n : FanId) :
    (s.graceStop n).fan n = if (s.fan n).state.turning then { (s.fan n).stopped with startPending := true } else s.fan n := by
  unfold State.graceStop
  split
  · rw [State.modFan_fan_self, State.queueStop_fan]; rfl
  · rfl

theorem FanState.turning_iff (st : FanState) : st.turning = true ↔ st = .starting ∨ st = .running := by cases st <;> decide

theorem runStateOf_eq (b : Byte) : runStateOf b =
    if b = 0 then some .stopped else if b = 1 then some .accelerating else if b = 2 then some .atSpeed
    else if b = 3 then some .decelerating else none := by
  have e : ∀ k : Nat, b.toNat = k → b = BitVec.ofNat 8 k := fun k h => by rw [← h]; simp
  unfold runStateOf
  split <;> rename_i h
  · rw [e _ h]; rfl
  · rw [e _ h]; rfl
  · rw [e _ h]; rfl
  · rw [e _ h]; rfl
  · rename_i h0 h1 h2
    rw [if_neg (by rintro rfl; exact h0 rfl), if_neg (by rintro rfl; exact h1 rfl), if_neg (by rintro rfl; exact h2 rfl),
      if_neg (by rintro rfl; exact h rfl)]

/-- R77: the report is the one Safety writes out. -/
theorem Fan.reportFrom_eq (f : Fan) (run speed fault : Byte) : f.reportFrom run speed fault = f.reported run speed fault := by
  have hle : (run.toNat ≤ 3) ↔ (run = 0 ∨ run = 1 ∨ run = 2 ∨ run = 3) := by
    constructor
    · intro h
      have h' : run.toNat = 0 ∨ run.toNat = 1 ∨ run.toNat = 2 ∨ run.toNat = 3 := by omega
      rcases h' with h | h | h | h
      · exact .inl (BitVec.eq_of_toNat_eq (by simpa using h))
      · exact .inr (.inl (BitVec.eq_of_toNat_eq (by simpa using h)))
      · exact .inr (.inr (.inl (BitVec.eq_of_toNat_eq (by simpa using h))))
      · exact .inr (.inr (.inr (BitVec.eq_of_toNat_eq (by simpa using h))))
    · rintro (rfl | rfl | rfl | rfl) <;> decide
  have hc : clampTo 0 100 speed.toNat = min 100 speed.toNat := by simp [clampTo, Nat.min_comm]
  unfold Fan.reportFrom Fan.reported
  rw [runStateOf_eq]
  by_cases h0 : run = 0
  · subst h0; simp [hc]
  · by_cases h1 : run = 1
    · subst h1; simp [hc]
    · by_cases h2 : run = 2
      · subst h2; simp [hc]
      · by_cases h3 : run = 3
        · subst h3; simp [hc]
        · simp only [h0, h1, h2, h3, if_false, hc]
          rw [if_neg (by rw [hle]; rintro (h | h | h | h) <;> contradiction)]

end Sys2Proof.Machine
end

