-- ==== Sys2Proof/Laws/Dampers.lean ====
section
/-! SUPPORT. The operations on one damper (R97 to R107) and the path (R108): each touches that damper's record and its zone's
indication, the queue, the alarm list and notices alone; after a handover the path is as the dampers say. -/

namespace Sys2Proof.Machine

-- One proof at a time: with a thread for each the package as one text would not fit in memory.
set_option Elab.async false

variable (s : State) {u v : State} {z : ZoneId}

/-! ### Only one extract damper -/

theorem State.OnlyExtract.refl (s : State) (z : ZoneId) : s.OnlyExtract s z :=
  ⟨rfl, rfl, rfl, rfl, fun _ _ => rfl, fun _ _ => rfl, fun _ _ => rfl⟩

theorem State.OnlyExtract.trans {s : State} (h : s.OnlyExtract u z) (k : u.OnlyExtract v z) : s.OnlyExtract v z := by
  refine ⟨k.lasting.trans h.lasting, ?_, k.fans.trans h.fans, k.alloc.trans h.alloc, fun w hw => (k.others w hw).trans (h.others w hw),
    fun w hw => (k.indications w hw).trans (h.indications w hw), fun d hd => (k.links d hd).trans (h.links d hd)⟩
  have h1 := k.plant
  have h2 := h.plant
  rw [← h2, ← h1]

theorem State.modExtract_onlyExtract (z : ZoneId) (f : ExtractDamper → ExtractDamper) : s.OnlyExtract (s.modExtract z f) z :=
  ⟨rfl, rfl, rfl, rfl, fun _ hw => upd_get_other _ _ hw, fun _ hw => upd_get_other _ _ hw, fun _ _ => rfl⟩
theorem State.enqueue_onlyExtract (z : ZoneId) (o : Order) : s.OnlyExtract (s.enqueue o) z := by
  unfold State.enqueue; split <;> exact ⟨rfl, rfl, rfl, rfl, fun _ _ => rfl, fun _ _ => rfl, fun _ _ => rfl⟩
theorem State.damperFault_onlyExtract (z : ZoneId) (k : AlarmKey) : s.OnlyExtract (s.damperFault k) z := by
  unfold State.damperFault State.raiseAlarm
  split <;> exact ⟨rfl, rfl, rfl, rfl, fun _ _ => rfl, fun _ _ => rfl, fun _ _ => rfl⟩
theorem State.clearAlarm_onlyExtract (z : ZoneId) (k : AlarmKey) : s.OnlyExtract (s.clearAlarm k) z :=
  ⟨rfl, rfl, rfl, rfl, fun _ _ => rfl, fun _ _ => rfl, fun _ _ => rfl⟩
theorem State.driveExtract_onlyExtract (z : ZoneId) : s.OnlyExtract (s.driveExtract z) z :=
  (s.modExtract_onlyExtract z _).trans (State.enqueue_onlyExtract _ z _)
theorem State.faultExtract_onlyExtract (z : ZoneId) : s.OnlyExtract (s.faultExtract z) z :=
  (s.modExtract_onlyExtract z _).trans (State.damperFault_onlyExtract _ z _)
theorem State.settleExtract_onlyExtract (z : ZoneId) : s.OnlyExtract (s.settleExtract z) z :=
  (s.modExtract_onlyExtract z _).trans (State.clearAlarm_onlyExtract _ z _)
theorem State.judgeExtract_onlyExtract (z : ZoneId) : s.OnlyExtract (s.judgeExtract z) z := by
  unfold State.judgeExtract
  simp only
  split
  · exact s.driveExtract_onlyExtract z
  · split
    · exact s.faultExtract_onlyExtract z
    · split
      · exact s.settleExtract_onlyExtract z
      · exact .refl _ _
  · split
    · exact s.faultExtract_onlyExtract z
    · split
      · exact .refl _ _
      · exact s.driveExtract_onlyExtract z
  · split
    · exact .refl _ _
    · split
      · exact s.settleExtract_onlyExtract z
      · exact .refl _ _
/-- R98: a reply's fields are stored and judged. -/
theorem State.judgedExtract_onlyExtract (z : ZoneId) (position flag : Byte) :
    s.OnlyExtract ((s.storeExtract z position flag).judgeExtract z) z :=
  (s.modExtract_onlyExtract z _).trans (State.judgeExtract_onlyExtract _ z)

@[simp] theorem State.damperFault_extractOf (k : AlarmKey) (y : ZoneId) : (s.damperFault k).extractOf y = s.extractOf y := by
  unfold State.damperFault State.raiseAlarm; split <;> rfl
@[simp] theorem State.damperFault_makeUpOf (k : AlarmKey) (y : ZoneId) : (s.damperFault k).makeUpOf y = s.makeUpOf y := by
  unfold State.damperFault State.raiseAlarm; split <;> rfl
@[simp] theorem State.modExtract_extractOf_self (z : ZoneId) (f : ExtractDamper → ExtractDamper) :
    (s.modExtract z f).extractOf z = f (s.extractOf z) := upd_get_self _ _ _
@[simp] theorem State.modMakeUp_makeUpOf_self (z : ZoneId) (f : MakeUpDamper → MakeUpDamper) :
    (s.modMakeUp z f).makeUpOf z = f (s.makeUpOf z) := upd_get_self _ _ _

theorem State.driveExtract_extractOf (z : ZoneId) :
    (s.driveExtract z).extractOf z = { s.extractOf z with state := .moving, timer := some (s.zone z).config.travelLimit } := by
  unfold State.driveExtract; rw [State.enqueue_extractOf, State.modExtract_extractOf_self]; rfl
theorem State.faultExtract_extractOf (z : ZoneId) :
    (s.faultExtract z).extractOf z = { s.extractOf z with state := .fault, timer := none } := by
  unfold State.faultExtract; rw [State.damperFault_extractOf, State.modExtract_extractOf_self]
theorem State.settleExtract_extractOf (z : ZoneId) :
    (s.settleExtract z).extractOf z = { s.extractOf z with state := .settled, timer := none } := by
  unfold State.settleExtract; exact State.modExtract_extractOf_self _ _ _

/-- R98, R101: the table of states and replies. -/
theorem State.judgeExtract_extractOf (z : ZoneId) :
    let d := s.extractOf z
    (s.judgeExtract z).extractOf z =
      match d.state with
      | .lost => { d with state := .moving, timer := some (s.zone z).config.travelLimit }
      | .moving => if d.fault then { d with state := .fault, timer := none }
          else if d.inBand then { d with state := .settled, timer := none } else d
      | .settled => if d.fault then { d with state := .fault, timer := none }
          else if d.inBand then d else { d with state := .moving, timer := some (s.zone z).config.travelLimit }
      | .fault => if d.fault then d else if d.inBand then { d with state := .settled, timer := none } else d := by
  intro d
  unfold State.judgeExtract
  simp only
  cases h : (s.extractOf z).state with
  | lost => simp only [d]; exact s.driveExtract_extractOf z
  | moving =>
    simp only [d]
    split
    · exact s.faultExtract_extractOf z
    · split
      · exact s.settleExtract_extractOf z
      · rfl
  | settled =>
    simp only [d]
    split
    · exact s.faultExtract_extractOf z
    · split
      · rfl
      · exact s.driveExtract_extractOf z
  | fault =>
    simp only [d]
    split
    · rfl
    · split
      · exact s.settleExtract_extractOf z
      · rfl

/-! ### Only one make-up damper -/

theorem State.OnlyMakeUp.refl (s : State) (z : ZoneId) : s.OnlyMakeUp s z :=
  ⟨rfl, rfl, rfl, rfl, fun _ _ => rfl, fun _ _ => rfl, fun _ _ => rfl⟩

theorem State.OnlyMakeUp.trans {s : State} (h : s.OnlyMakeUp u z) (k : u.OnlyMakeUp v z) : s.OnlyMakeUp v z := by
  refine ⟨k.lasting.trans h.lasting, ?_, k.fans.trans h.fans, k.alloc.trans h.alloc, fun w hw => (k.others w hw).trans (h.others w hw),
    fun w hw => (k.indications w hw).trans (h.indications w hw), fun d hd => (k.links d hd).trans (h.links d hd)⟩
  have h1 := k.plant
  have h2 := h.plant
  rw [← h2, ← h1]

theorem State.modMakeUp_onlyMakeUp (z : ZoneId) (f : MakeUpDamper → MakeUpDamper) : s.OnlyMakeUp (s.modMakeUp z f) z :=
  ⟨rfl, rfl, rfl, rfl, fun _ hw => upd_get_other _ _ hw, fun _ hw => upd_get_other _ _ hw, fun _ _ => rfl⟩
theorem State.enqueue_onlyMakeUp (z : ZoneId) (o : Order) : s.OnlyMakeUp (s.enqueue o) z := by
  unfold State.enqueue; split <;> exact ⟨rfl, rfl, rfl, rfl, fun _ _ => rfl, fun _ _ => rfl, fun _ _ => rfl⟩
theorem State.damperFault_onlyMakeUp (z : ZoneId) (k : AlarmKey) : s.OnlyMakeUp (s.damperFault k) z := by
  unfold State.damperFault State.raiseAlarm
  split <;> exact ⟨rfl, rfl, rfl, rfl, fun _ _ => rfl, fun _ _ => rfl, fun _ _ => rfl⟩
theorem State.clearAlarm_onlyMakeUp (z : ZoneId) (k : AlarmKey) : s.OnlyMakeUp (s.clearAlarm k) z :=
  ⟨rfl, rfl, rfl, rfl, fun _ _ => rfl, fun _ _ => rfl, fun _ _ => rfl⟩
theorem State.driveMakeUp_onlyMakeUp (z : ZoneId) : s.OnlyMakeUp (s.driveMakeUp z) z :=
  (s.modMakeUp_onlyMakeUp z _).trans (State.enqueue_onlyMakeUp _ z _)
theorem State.faultMakeUp_onlyMakeUp (z : ZoneId) : s.OnlyMakeUp (s.faultMakeUp z) z :=
  (s.modMakeUp_onlyMakeUp z _).trans (State.damperFault_onlyMakeUp _ z _)
theorem State.settleMakeUp_onlyMakeUp (z : ZoneId) : s.OnlyMakeUp (s.settleMakeUp z) z :=
  (s.modMakeUp_onlyMakeUp z _).trans (State.clearAlarm_onlyMakeUp _ z _)
theorem State.judgeMakeUp_onlyMakeUp (z : ZoneId) : s.OnlyMakeUp (s.judgeMakeUp z) z := by
  unfold State.judgeMakeUp
  simp only
  split
  · exact s.driveMakeUp_onlyMakeUp z
  · split
    · split
      · exact .refl _ _
      · exact s.faultMakeUp_onlyMakeUp z
    · split
      · exact s.settleMakeUp_onlyMakeUp z
      · unfold State.straysMakeUp
        split
        · exact s.driveMakeUp_onlyMakeUp z
        · exact s.driveMakeUp_onlyMakeUp z
        · exact .refl _ _
        · exact .refl _ _
        · exact .refl _ _
        · exact .refl _ _
/-- R103, R105: a make-up damper's reply. -/
theorem State.makeUpReplied_onlyMakeUp (z : ZoneId) (o c flag : Byte) : s.OnlyMakeUp (s.makeUpReplied z o c flag) z :=
  (s.modMakeUp_onlyMakeUp z _).trans (State.judgeMakeUp_onlyMakeUp _ z)

theorem State.driveMakeUp_makeUpOf (z : ZoneId) :
    (s.driveMakeUp z).makeUpOf z = { s.makeUpOf z with state := (s.makeUpOf z).command.travelling, timer := some 60 } := by
  unfold State.driveMakeUp; rw [State.enqueue_makeUpOf, State.modMakeUp_makeUpOf_self]; rfl
theorem State.faultMakeUp_makeUpOf (z : ZoneId) :
    (s.faultMakeUp z).makeUpOf z = { s.makeUpOf z with state := .fault, timer := none } := by
  unfold State.faultMakeUp; rw [State.damperFault_makeUpOf, State.modMakeUp_makeUpOf_self]
theorem State.settleMakeUp_makeUpOf (z : ZoneId) :
    (s.settleMakeUp z).makeUpOf z = { s.makeUpOf z with state := (s.makeUpOf z).command.end_, timer := none } :=
  State.modMakeUp_makeUpOf_self _ _ _

/-- R147: a command queued for a fitted device that is not lost is in the queue. -/
theorem State.enqueue_mem (o : Order) (h1 : s.deviceFitted o.device = true) (h2 : (s.link o.device).lost = false) :
    o ∈ (s.enqueue o).line.queue := by
  unfold State.enqueue
  rw [if_pos (by simp [h1, h2])]
  exact self_mem_enter _ _

/-! ### What the fans leave -/

/-- The dampers and the path, which no fan's operation touches. -/
structure State.SamePath (s t : State) : Prop where
  extract : t.extract = s.extract
  makeUp : t.makeUp = s.makeUp
  pathProven : t.pathProven = s.pathProven
  indications : t.indications = s.indications
  record : t.alloc.record = s.alloc.record
  lasting : t.lasting = s.lasting

theorem State.SamePath.refl (s : State) : s.SamePath s := ⟨rfl, rfl, rfl, rfl, rfl, rfl⟩
theorem State.SamePath.trans {s : State} (h : s.SamePath u) (k : u.SamePath v) : s.SamePath v :=
  ⟨k.extract.trans h.extract, k.makeUp.trans h.makeUp, k.pathProven.trans h.pathProven, k.indications.trans h.indications,
    k.record.trans h.record, k.lasting.trans h.lasting⟩
theorem State.OnlyFan.samePath {s : State} {n : FanId} (h : s.OnlyFan u n) : s.SamePath u :=
  ⟨h.extract, h.makeUp, h.pathProven, h.indications, h.record, h.lasting⟩
theorem State.SamePath.zone {s : State} (h : s.SamePath u) (z : ZoneId) : u.zone z = s.zone z := by
  simp [State.zone, zones_of_lasting h.lasting]
theorem State.SamePath.pathNow {s : State} (h : s.SamePath u) : u.pathNow = s.pathNow := by
  unfold State.pathNow State.proves State.extractOf
  simp only [h.zone, h.extract]
theorem State.eachFan_samePath (f : State → FanId → State) (h : ∀ (s : State) (n : FanId), s.SamePath (f s n)) : s.SamePath (s.eachFan f) := by
  unfold State.eachFan
  generalize List.finRange 8 = l
  induction l generalizing s with
  | nil => exact .refl _
  | cons n l ih => exact (h s n).trans (ih _)
theorem State.smokeBegins_samePath : s.SamePath s.smokeBegins := by
  refine State.SamePath.trans (u := { s with grace := none }) ⟨rfl, rfl, rfl, rfl, rfl, rfl⟩ (State.eachFan_samePath _ _ fun (s : State) (n : FanId) => ?_)
  split
  · exact (s.enterReady_onlyFan n).samePath
  · exact .refl _
theorem State.smokeEnds_samePath : s.SamePath s.smokeEnds := by
  unfold State.smokeEnds; split <;> exact ⟨rfl, rfl, rfl, rfl, rfl, rfl⟩
theorem State.pathGained_samePath : s.SamePath s.pathGained := by
  refine State.SamePath.trans (u := { s with grace := none }) ⟨rfl, rfl, rfl, rfl, rfl, rfl⟩ (State.eachFan_samePath _ _ fun (s : State) (n : FanId) => ?_)
  split
  · exact (s.startIfAllowed_onlyFan n).samePath
  · exact .refl _
theorem State.pathLost_samePath : s.SamePath s.pathLost := by
  unfold State.pathLost
  split
  · split <;> exact ⟨rfl, rfl, rfl, rfl, rfl, rfl⟩
  · exact .refl _
theorem State.graceExpired_samePath : s.SamePath s.graceExpired :=
  State.SamePath.trans (u := { s with grace := none }) ⟨rfl, rfl, rfl, rfl, rfl, rfl⟩
    (State.eachFan_samePath _ _ fun (s : State) (n : FanId) => (s.graceStop_onlyFan n).samePath)
theorem State.turnDuty_samePath (old : AllocRecord) : s.SamePath (s.turnDuty old) := by
  unfold State.turnDuty; split
  · exact ⟨rfl, rfl, rfl, rfl, rfl, rfl⟩
  · exact .refl _
theorem State.takeRunSet_samePath (old : AllocRecord) : s.SamePath (s.takeRunSet old) :=
  (s.eachFan_samePath State.fanTakes fun (s : State) (n : FanId) => (s.fanTakes_onlyFan n).samePath).trans
    (State.turnDuty_samePath _ old)
theorem State.trigger_samePath : s.SamePath s.trigger := ⟨rfl, rfl, rfl, rfl, rfl, rfl⟩

/-! ### The path (R108) -/

/-- R108: the path is sound exactly when the held condition is the one worked out from the dampers. -/
theorem State.pathSound_iff {s : State} : s.PathSound ↔ s.pathProven = s.pathNow := by
  have h : s.pathNow = true ↔ ∃ z, s.ProvesPath z := by
    simp only [State.pathNow, State.proves, State.ProvesPath, List.any_eq_true, List.mem_finRange, true_and,
      Bool.and_eq_true, decide_eq_true_eq, beq_iff_eq, and_assoc]
    exact Iff.rfl
  unfold State.PathSound
  rw [← h]
  cases s.pathProven <;> cases s.pathNow <;> simp

theorem State.SamePath.pathSound {s : State} (h : s.SamePath u) (hs : s.PathSound) : u.PathSound := by
  rw [State.pathSound_iff, h.pathProven, h.pathNow]; exact State.pathSound_iff.1 hs

/-- R108: after a re-evaluation the condition is the one the dampers give. -/
theorem State.reprove_path : s.reprove.PathSound := by
  unfold State.reprove
  split
  · rename_i h; exact State.pathSound_iff.2 h.symm
  · rename_i h
    split
    · rename_i h1
      refine ((State.pathGained_samePath _).trans (State.trigger_samePath _)).pathSound (State.pathSound_iff.2 ?_)
      show true = _
      exact h1.symm
    · rename_i h1
      refine ((State.pathLost_samePath _).trans (State.trigger_samePath _)).pathSound (State.pathSound_iff.2 ?_)
      show false = _
      exact (by simpa using h1 : s.pathNow = false).symm
/-- R108: a re-evaluation changes no damper. -/
theorem State.reprove_dampers : s.reprove.extract = s.extract ∧ s.reprove.makeUp = s.makeUp ∧
    s.reprove.indications = s.indications ∧ s.reprove.alloc.record = s.alloc.record := by
  unfold State.reprove
  split
  · exact ⟨rfl, rfl, rfl, rfl⟩
  · split
    · have h := (State.pathGained_samePath { s with pathProven := true }).trans (State.trigger_samePath _)
      exact ⟨h.extract, h.makeUp, h.indications, h.record⟩
    · have h := (State.pathLost_samePath { s with pathProven := false }).trans (State.trigger_samePath _)
      exact ⟨h.extract, h.makeUp, h.indications, h.record⟩

/-- R131: after a pass has been handed on the path is as the dampers say. -/
theorem State.pass_path (b : Bool) : (s.pass b).PathSound :=
  (State.takeRunSet_samePath _ _).pathSound (State.reprove_path _)
theorem State.chain_path (k : Nat) (h : s.PathSound) : (s.chain k).PathSound := by
  induction k generalizing s with
  | zero => exact h
  | succ k ih =>
    unfold State.chain
    split
    · exact ih _ (s.pass_path false)
    · exact h
theorem State.finish_path (h : s.PathSound) : s.finish.PathSound := s.chain_path _ h
theorem State.finishExpiry_path : s.finishExpiry.PathSound := State.finish_path _ (s.pass_path true)

end Sys2Proof.Machine
end

