-- ==== Sys2Proof/Laws/AlarmFrames.lean ====
section
/-! SUPPORT. What the operations on one fan and one damper do to the alarm list and the ports: nothing (`State.Quiet`), one
raise with DEVICE_FAULT (`State.Faults`) or one clear (`State.Clears`), and what a raise, a clear and a notice leave of every
other entry and mark (`State.KeepsRest`). -/

namespace Sys2Proof.Machine

-- One proof at a time: with a thread for each the package as one text would not fit in memory.
set_option Elab.async false

variable {s u v : State} {k : AlarmKey} {d : Option FanDetail} {ks ks' : List AlarmKey} {ns ns' : List Notice}

/-! ### One raise, one clear or neither -/

theorem State.Quiet.refl (s : State) : s.Quiet s := ⟨rfl, rfl⟩
theorem State.Quiet.trans (h : s.Quiet u) (k : u.Quiet v) : s.Quiet v := ⟨k.1.trans h.1, k.2.trans h.2⟩

/-- A raise reads the alarm list, the ports and part time alone. -/
theorem State.Quiet.raiseAlarm (h : s.Quiet u) (ht : u.partTime = s.partTime) (k : AlarmKey) (d : Option FanDetail) :
    (s.raiseAlarm k d).Quiet (u.raiseAlarm k d) := by
  have hf : u.alarms.full k = s.alarms.full k := by rw [h.1]
  refine ⟨by simp [h.1, ht], ?_⟩
  unfold State.raiseAlarm
  rw [hf]
  split <;> simp [h.2]

theorem State.Faults.of_raise (h : s.Quiet u) (ht : u.partTime = s.partTime) :
    s.Faults ((u.raiseAlarm k d).raiseAll .deviceFault) k d := by
  have hr := h.raiseAlarm ht k d
  exact ⟨hr.1, by rw [State.raiseAll_ports, State.raiseAll_ports, hr.2]⟩
theorem State.Faults.quiet (h : s.Faults u k d) (q : u.Quiet v) : s.Faults v k d := ⟨q.1.trans h.1, q.2.trans h.2⟩
theorem State.Clears.of_clear (h : s.Quiet u) (ht : u.partTime = s.partTime) : s.Clears (u.clearAlarm k) k :=
  ⟨by simp [h.1, ht], h.2⟩
theorem State.Clears.quiet (h : s.Clears u k) (q : u.Quiet v) : s.Clears v k := ⟨q.1.trans h.1, q.2.trans h.2⟩

/-! ### One fan -/

variable (s) (n : FanId)

theorem State.modFan_quiet (f : Fan → Fan) : s.Quiet (s.modFan n f) := ⟨rfl, rfl⟩
theorem State.enqueue_quiet (o : Order) : s.Quiet (s.enqueue o) := ⟨s.enqueue_alarms o, s.enqueue_ports o⟩
theorem State.enterState_quiet (st : FanState) (t : Option Nat) : s.Quiet (s.enterState n st t) :=
  ⟨State.triggerIf_alarms _ _, State.triggerIf_ports _ _⟩
theorem State.queueRun_quiet : s.Quiet (s.queueRun n) := (s.modFan_quiet n _).trans (State.enqueue_quiet _ _)
theorem State.queueStop_quiet : s.Quiet (s.queueStop n) := (s.modFan_quiet n _).trans (State.enqueue_quiet _ _)
theorem State.startFan_quiet : s.Quiet (s.startFan n) :=
  ((s.modFan_quiet n _).trans (State.enterState_quiet _ n _ _)).trans (State.queueRun_quiet _ n)
theorem State.startIfAllowed_quiet : s.Quiet (s.startIfAllowed n) := by
  unfold State.startIfAllowed; split
  · exact s.startFan_quiet n
  · exact .refl _
theorem State.stopFan_quiet : s.Quiet (s.stopFan n) := (s.queueStop_quiet n).trans (State.enterState_quiet _ n _ _)
theorem State.enterEnrolHold_quiet : s.Quiet (s.enterEnrolHold n) := s.enterState_quiet n _ _
theorem State.enterEnrolling_quiet : s.Quiet (s.enterEnrolling n) :=
  ((s.modFan_quiet n _).trans (State.enterState_quiet _ n _ _)).trans (State.enqueue_quiet _ _)
theorem State.commandOff_quiet (r : DriveReport) : s.Quiet (s.commandOff n r) := by
  unfold State.commandOff; split
  · exact s.queueStop_quiet n
  · exact .refl _
theorem State.graceStop_quiet : s.Quiet (s.graceStop n) := by
  unfold State.graceStop; split
  · exact (s.queueStop_quiet n).trans (State.modFan_quiet _ n _)
  · exact .refl _
/-- R83, R89: a fan that enters READY has its entry cleared. -/
theorem State.enterReady_clears : s.Clears (s.enterReady n) (.fanFault n) :=
  (State.Clears.of_clear (s.enterState_quiet n _ _)
    (congrArg Lasting.partTime (s.enterState_onlyFan n .ready none).lasting)).quiet (State.startIfAllowed_quiet _ n)
/-- R87: a fan that trips has its entry raised with DEVICE_FAULT. -/
theorem State.tripFan_faults (detail : FanDetail) : s.Faults (s.tripFan n detail) (.fanFault n) (some detail) :=
  State.Faults.of_raise
    (((s.modFan_quiet n fun f => { f with startPending := false, trips := bump Config.lastCount f.trips }).trans
      (State.enterState_quiet _ n .tripped none)).trans (State.queueStop_quiet _ n))
    (congrArg Lasting.partTime (((s.modFan_onlyFan n fun f => { f with
      startPending := false, trips := bump Config.lastCount f.trips }).trans
        (State.enterState_onlyFan _ n .tripped none)).trans (State.queueStop_onlyFan _ n)).lasting)
/-- R89: a fan that is declared lost has its entry raised with DEVICE_FAULT. -/
theorem State.loseFan_faults (h : (s.fan n).state ≠ .absent) (h' : (s.fan n).state ≠ .lost) :
    s.Faults (s.loseFan n) (.fanFault n) (some .lost) := by
  unfold State.loseFan
  rw [if_neg (by simp [h, h'])]
  exact State.Faults.of_raise ((s.modFan_quiet n _).trans (State.enterState_quiet _ n _ _))
    (congrArg Lasting.partTime ((s.modFan_onlyFan n _).trans (State.enterState_onlyFan _ n _ _)).lasting)

/-! ### One damper -/

variable (z : ZoneId)

theorem State.modExtract_quiet (f : ExtractDamper → ExtractDamper) : s.Quiet (s.modExtract z f) := ⟨rfl, rfl⟩
theorem State.modMakeUp_quiet (f : MakeUpDamper → MakeUpDamper) : s.Quiet (s.modMakeUp z f) := ⟨rfl, rfl⟩
theorem State.driveExtract_quiet : s.Quiet (s.driveExtract z) := (s.modExtract_quiet z _).trans (State.enqueue_quiet _ _)
theorem State.driveMakeUp_quiet : s.Quiet (s.driveMakeUp z) := (s.modMakeUp_quiet z _).trans (State.enqueue_quiet _ _)
/-- R98, R106. -/
theorem State.faultExtract_faults : s.Faults (s.faultExtract z) (extractKey z) none :=
  State.Faults.of_raise (s.modExtract_quiet z _) rfl
theorem State.settleExtract_clears : s.Clears (s.settleExtract z) (extractKey z) :=
  State.Clears.of_clear (s.modExtract_quiet z _) rfl
/-- R103, R106. -/
theorem State.faultMakeUp_faults : s.Faults (s.faultMakeUp z) (makeUpKey z) none :=
  State.Faults.of_raise (s.modMakeUp_quiet z _) rfl
theorem State.settleMakeUp_clears : s.Clears (s.settleMakeUp z) (makeUpKey z) :=
  State.Clears.of_clear (s.modMakeUp_quiet z _) rfl

/-! ### Every other entry and mark -/

variable {s} {n z}

theorem State.KeepsRest.trans (h : s.KeepsRest u ks ns) (k : u.KeepsRest v ks ns) : s.KeepsRest v ks ns :=
  ⟨k.entries.trans h.entries, fun p n hn =>
    ⟨(k.marks p n hn).1.trans (h.marks p n hn).1, (k.marks p n hn).2.trans (h.marks p n hn).2⟩⟩
theorem State.Quiet.keepsRest (h : s.Quiet u) (ks : List AlarmKey) (ns : List Notice) : s.KeepsRest u ks ns :=
  ⟨by rw [h.1], fun p n _ => by simp [State.port, h.2]⟩

/-- A position found by a test holds none of the entries that a filter beside the test keeps. -/
theorem filter_eraseIdx_findIdx {α : Type} {q p : α → Bool} (l : List α) (h : ∀ x, q x = true → p x = false) :
    (l.eraseIdx (l.findIdx q)).filter p = l.filter p := by
  induction l with
  | nil => rfl
  | cons x l ih =>
    rw [List.findIdx_cons]
    by_cases hx : q x = true
    · simp [hx, h x hx]
    · simp only [Bool.not_eq_true] at hx
      simp only [hx, cond_false, List.eraseIdx_cons_succ, List.filter_cons, ih]

/-- A change of the entries that a filter does not keep, each of which it still does not keep, changes nothing of the rest. -/
theorem filter_map_ite {α : Type} {c : α → Prop} [DecidablePred c] {p : α → Bool} {f : α → α} (l : List α)
    (h : ∀ x, c x → p x = false ∧ p (f x) = false) : (l.map fun x => if c x then f x else x).filter p = l.filter p := by
  induction l with
  | nil => rfl
  | cons x l ih =>
    rw [List.map_cons, List.filter_cons, List.filter_cons, ih]
    split
    · rename_i hc; simp [h x hc]
    · rfl

/-- R136: a clear. -/
theorem State.clearAlarm_keepsRest (s : State) (h : k ∈ ks) : s.KeepsRest (s.clearAlarm k) ks ns := by
  refine ⟨?_, fun p n _ => ⟨rfl, rfl⟩⟩
  rw [State.clearAlarm_alarms]
  unfold AlarmList.clear
  split
  · exact filter_eraseIdx_findIdx _ fun x hx => by simp_all
  · exact filter_map_ite _ fun x hx => by simp [AlarmEntry.clear, hx.1, h]

/-- R161: a notice on all three ports. -/
theorem State.raiseAll_keepsRest (s : State) {n : Notice} (h : n ∈ ns) : s.KeepsRest (s.raiseAll n) ks ns := by
  refine ⟨rfl, fun p m hm => ?_⟩
  have hne : m.place ≠ n.place := fun e => hm (Notice.place_inj e ▸ h)
  simp [PortState.raise_pending, PortState.raise_seen, hne]

/-- R135, R137: a raise that evicts no entry, with the LIST_FULL of a full list. -/
theorem State.raiseAlarm_keepsRest (s : State) (h : k ∈ ks) (hf : k.isFire = false) (hn : .listFull ∈ ns) (d : Option FanDetail) :
    s.KeepsRest (s.raiseAlarm k d) ks ns := by
  have he : ((s.alarms.raise k d s.partTime).entries.filter fun e => e.key ∉ ks) =
      s.alarms.entries.filter fun e => e.key ∉ ks := by
    unfold AlarmList.raise
    split
    · exact filter_map_ite _ fun x hx => by simp [AlarmEntry.again, hx, h]
    · split
      · simp [AlarmList.append, AlarmList.advance, h]
      · simp [hf]
  unfold State.raiseAlarm
  split
  · refine State.KeepsRest.trans (u := { s with alarms := s.alarms.raise k d s.partTime }) ⟨he, fun _ _ _ => ⟨rfl, rfl⟩⟩
      (State.raiseAll_keepsRest _ hn)
  · exact ⟨he, fun _ _ _ => ⟨rfl, rfl⟩⟩

end Sys2Proof.Machine
end

