-- ==== Sys2Proof/Laws/Requests.lean ====
section
/-! SUPPORT. A request frame on a port (R156 to R160): what taking it leaves, and the three ways a frame is served. -/

namespace Sys2Proof.Machine

-- One proof at a time: with a thread for each the package as one text would not fit in memory.
set_option Elab.async false

variable (s : State) (p : Port)

/-! ### A frame taken (R156, R159, R160) -/

@[simp] theorem State.frameTaken_partTime : (s.frameTaken p).partTime = s.partTime := by unfold State.frameTaken; simp only; split <;> rfl
@[simp] theorem State.frameTaken_zones : (s.frameTaken p).zones = s.zones := by unfold State.frameTaken; simp only; split <;> rfl
@[simp] theorem State.frameTaken_heads : (s.frameTaken p).heads = s.heads := by unfold State.frameTaken; simp only; split <;> rfl
@[simp] theorem State.frameTaken_plan : (s.frameTaken p).plan = s.plan := by unfold State.frameTaken; simp only; split <;> rfl
@[simp] theorem State.frameTaken_resolver : (s.frameTaken p).resolver = s.resolver := by unfold State.frameTaken; simp only; split <;> rfl
@[simp] theorem State.frameTaken_fans : (s.frameTaken p).fans = s.fans := by unfold State.frameTaken; simp only; split <;> rfl
@[simp] theorem State.frameTaken_duty : (s.frameTaken p).duty = s.duty := by unfold State.frameTaken; simp only; split <;> rfl
@[simp] theorem State.frameTaken_grace : (s.frameTaken p).grace = s.grace := by unfold State.frameTaken; simp only; split <;> rfl
@[simp] theorem State.frameTaken_extract : (s.frameTaken p).extract = s.extract := by unfold State.frameTaken; simp only; split <;> rfl
@[simp] theorem State.frameTaken_makeUp : (s.frameTaken p).makeUp = s.makeUp := by unfold State.frameTaken; simp only; split <;> rfl
@[simp] theorem State.frameTaken_pathProven : (s.frameTaken p).pathProven = s.pathProven := by unfold State.frameTaken; simp only; split <;> rfl
@[simp] theorem State.frameTaken_indications : (s.frameTaken p).indications = s.indications := by unfold State.frameTaken; simp only; split <;> rfl
@[simp] theorem State.frameTaken_alloc : (s.frameTaken p).alloc = s.alloc := by unfold State.frameTaken; simp only; split <;> rfl
@[simp] theorem State.frameTaken_line : (s.frameTaken p).line = s.line := by unfold State.frameTaken; simp only; split <;> rfl
@[simp] theorem State.frameTaken_store : (s.frameTaken p).store = s.store := by unfold State.frameTaken; simp only; split <;> rfl
@[simp] theorem State.frameTaken_pending : (s.frameTaken p).pending = s.pending := by unfold State.frameTaken; simp only; split <;> rfl
@[simp] theorem State.frameTaken_ports :
    (s.frameTaken p).ports = s.ports.upd p fun q => { q with link := .up, silence := some (Config.silenceLimit p), decoder := .discarding } := by
  unfold State.frameTaken; simp only; split <;> rfl
@[simp] theorem State.frameTaken_alarms :
    (s.frameTaken p).alarms = if (s.port p).link = .lost then s.alarms.clear (.linkLost p) s.partTime else s.alarms := by
  unfold State.frameTaken; simp only; split <;> rfl

@[simp] theorem State.frameTaken_zone (z : ZoneId) : (s.frameTaken p).zone z = s.zone z := by simp [State.zone]
@[simp] theorem State.frameTaken_head (h : HeadId) : (s.frameTaken p).head h = s.head h := by simp [State.head]
@[simp] theorem State.frameTaken_fan (n : FanId) : (s.frameTaken p).fan n = s.fan n := by simp [State.fan]
@[simp] theorem State.frameTaken_extractOf (z : ZoneId) : (s.frameTaken p).extractOf z = s.extractOf z := by simp [State.extractOf]
@[simp] theorem State.frameTaken_makeUpOf (z : ZoneId) : (s.frameTaken p).makeUpOf z = s.makeUpOf z := by simp [State.makeUpOf]
@[simp] theorem State.frameTaken_role (z : ZoneId) : (s.frameTaken p).role z = s.role z := by simp [State.role]
@[simp] theorem State.frameTaken_bank (k : PlanId) : (s.frameTaken p).bank k = s.bank k := by simp [State.bank]
@[simp] theorem State.frameTaken_link (d : Device) : (s.frameTaken p).link d = s.link d := by simp [State.link]
@[simp] theorem State.frameTaken_incident : (s.frameTaken p).incident = s.incident := by simp [State.incident]
@[simp] theorem State.frameTaken_controlled : (s.frameTaken p).controlled = s.controlled := by simp [State.controlled]
@[simp] theorem State.frameTaken_burning (z : ZoneId) : (s.frameTaken p).burning z = s.burning z := by simp [State.burning]
@[simp] theorem State.frameTaken_plant : (s.frameTaken p).plant = s.plant := by simp [State.plant]

@[simp] theorem State.frameTaken_port : (s.frameTaken p).port p =
    { s.port p with link := .up, silence := some (Config.silenceLimit p), decoder := .discarding } := by simp [State.port]
theorem State.frameTaken_port_other {q : Port} (h : q ≠ p) : (s.frameTaken p).port q = s.port q := by
  simp [State.port, PerPort.get_upd_other _ _ h]

/-- R156, R159, R160: the taking of a frame is a chain of moves. -/
theorem State.frameTaken_moves : State.Moves true s (s.frameTaken p) := by
  have h : State.Moves true s (s.modPort p fun q => { q with link := .up, silence := some (Config.silenceLimit p), decoder := .discarding }) :=
    (State.Move.port s p _ (fun hs => ⟨by simp, hs.line⟩) rfl rfl).moves
  unfold State.frameTaken
  simp only
  split
  · exact h.trans (State.clearAlarm_moves _ _ (.inr ⟨rfl, rfl⟩))
  · exact h

/-! ### The response (R157) -/

theorem respond_moves (code index : Byte) (a : Answer) : State.Moves true a.state (respond p code index a) :=
  (State.Move.port a.state p _ (fun hs => ⟨hs.silence, hs.line⟩) rfl rfl).moves

/-- R157: the lasting state of a response: that of the state the owner left, with the response. -/
theorem respond_lasting (code index : Byte) (a : Answer) : (respond p code index a).lasting =
    { a.state.lasting with
      ports := a.state.lasting.ports.upd p fun q => { q with response := some ⟨a.status, code, index, a.words⟩ } } := by
  have : (a.state.ports.upd p fun q => { q with response := some ⟨a.status, code, index, a.words⟩ }).map PortState.lasting =
      (a.state.ports.map PortState.lasting).upd p fun q => { q with response := some ⟨a.status, code, index, a.words⟩ } := by
    cases p <;> rfl
  simp only [respond, State.lasting, State.modPort, this]

@[simp] theorem respond_port (code index : Byte) (a : Answer) :
    (respond p code index a).port p = { a.state.port p with response := some ⟨a.status, code, index, a.words⟩ } :=
  State.modPort_port_self _ _ _

/-! ### The three ways a frame is served (R156 to R158) -/

variable {s p} {row : CatalogueRow} {index : Byte} {data : List Word} {body : State → Answer}

/-- R156: a frame that the decoder does not wait for is discarded. -/
theorem serve_discarded (h : (s.port p).decoder ≠ .waiting) : serve row p index data body s = s.discardFrame p := by
  have : s.takesFrame p data = false := by simp [State.takesFrame, h]
  simp [serve, this]

/-- R158: a frame that is taken is answered after the general checks. -/
theorem serve_taken (h : (s.port p).decoder = .waiting) (hl : data.length ≤ 32) :
    serve row p index data body s = respond p row.code index (generalChecks row p data body (s.frameTaken p)) := by
  have : s.takesFrame p data = true := by simp [State.takesFrame, h, hl]
  simp [serve, this]

/-- R158: a request that passes the general checks is its owner's. -/
theorem serve_owned (h : (s.port p).decoder = .waiting) (hl : data.length ≤ 32) (hp : row.ports.contains p = true)
    (hw : data.length = row.words) : serve row p index data body s = respond p row.code index (body (s.frameTaken p)) := by
  rw [serve_taken h hl]
  unfold generalChecks
  rw [if_neg (by rw [hp]; simp), if_neg (by simp [hw])]

/-- A request is a chain of moves where its owner's work is. -/
theorem serve_moves (hb : ∀ u, State.Moves true u (body u).state) : State.Moves true s (serve row p index data body s) := by
  unfold serve
  split
  · refine ((s.frameTaken_moves p).trans ?_).trans (respond_moves p row.code index _)
    unfold generalChecks
    split
    · exact .refl _
    · split
      · exact .refl _
      · exact hb _
  · exact (State.Move.port s p _ (fun hs => ⟨hs.silence, hs.line⟩) rfl rfl).moves

/-- What the owner's work, the taking of the frame and the port keep, a request keeps. -/
theorem serve_keeps {P : State → Prop} (hl : ∀ u, P u → P (u.frameTaken p))
    (hp : ∀ (u : State) (f : PortState → Decoder × Option Response), P u →
      P (u.modPort p fun q => { q with decoder := (f q).1, response := (f q).2 }))
    (hb : ∀ u, P u → P (body u).state) (hs : P s) : P (serve row p index data body s) := by
  unfold serve
  split
  · refine hp _ (fun q => (q.decoder, some _)) ?_
    unfold generalChecks
    split
    · exact hl _ hs
    · split
      · exact hl _ hs
      · exact hb _ (hl _ hs)
  · exact hp _ (fun q => (.discarding, q.response)) hs

end Sys2Proof.Machine
end

