-- ==== Sys2Proof/Laws/Commands.lean ====
section
/-! SUPPORT. The work of the commands' owners (R10 to R26, R39 to R66, R80, R88, R114, R115, R159) as chains of moves, but for
the writes that fit or unfit a device, the marks of a port, the resets and the tick. -/

namespace Sys2Proof.Machine

-- One proof at a time: with a thread for each the package as one text would not fit in memory.
set_option Elab.async false

variable (s : State)

/-! ### What stands beside -/

theorem State.beside_moves {s t : State} (h : s.Beside t) : State.Moves true s t := (State.Move.beside s t h).moves

theorem State.modZone_moves (z : ZoneId) (f : Zone → Zone)
    (h : (f (s.zone z)).config.fitted = (s.zone z).config.fitted) : State.Moves true s (s.modZone z f) := by
  refine State.beside_moves ⟨rfl, rfl, rfl, rfl, rfl, rfl, rfl, rfl, rfl, fun y => ?_, fun _ => rfl⟩
  by_cases e : y = z
  · subst e; rw [State.modZone_zone_self]; exact h
  · rw [State.modZone_zone_other s f e]
theorem State.modHead_moves (k : HeadId) (f : Head → Head)
    (h : (f (s.head k)).config.fitted = (s.head k).config.fitted) : State.Moves true s (s.modHead k f) := by
  refine State.beside_moves ⟨rfl, rfl, rfl, rfl, rfl, rfl, rfl, rfl, rfl, fun _ => rfl, fun y => ?_⟩
  by_cases e : y = k
  · subst e; rw [State.modHead_head_self]; exact h
  · rw [State.modHead_head_other s f e]
theorem State.modPlan_moves (f : PlanControl → PlanControl) (h : (f s.plan).fireSet = s.plan.fireSet) :
    State.Moves true s (s.modPlan f) :=
  State.beside_moves ⟨rfl, rfl, rfl, rfl, rfl, rfl, rfl, rfl, h, fun _ => rfl, fun _ => rfl⟩
theorem State.modResolver_moves (f : Resolver → Resolver) : State.Moves true s (s.modResolver f) :=
  State.beside_moves ⟨rfl, rfl, rfl, rfl, rfl, rfl, rfl, rfl, rfl, fun _ => rfl, fun _ => rfl⟩

theorem State.raiseOthers_moves (n : Notice) (p : Port) : State.Moves true s (s.raiseOthers n p) := by
  cases p <;> exact (State.Move.told s _ n).moves.trans (State.Move.told _ _ n).moves

theorem State.modFan_config_moves (n : FanId) (c : FanConfig) (h : c.fitted = (s.fan n).config.fitted) :
    s.FansSound → (State.modFan s n fun f => { f with config := c }).FansSound := by
  intro hs m
  by_cases e : m = n
  · subst e; rw [State.modFan_fan_self]
    exact ⟨by rw [h]; exact (hs m).absent, (hs m).timer, (hs m).resolved⟩
  · rw [State.modFan_fan_other s _ e]; exact hs m

/-! ### Roles (R57 to R59) -/

theorem State.takeRoles_moves : State.Moves true s s.takeRoles :=
  (State.beside_moves (s := s) (t := { s with resolver := { s.resolver with roles := s.rolesNow, layers := s.layersNow } })
    ⟨rfl, rfl, rfl, rfl, rfl, rfl, rfl, rfl, rfl, fun _ => rfl, fun _ => rfl⟩).trans (State.triggerIf_moves _ _)
theorem State.indications_moves (v : Vector Indication 16) : State.Moves true s { s with indications := v } :=
  State.beside_moves (s := s) (t := { s with indications := v })
    ⟨rfl, rfl, rfl, rfl, rfl, rfl, rfl, rfl, rfl, fun _ => rfl, fun _ => rfl⟩
theorem State.indicateAll_moves : State.Moves true s s.indicateAll := by
  unfold State.indicateAll; exact s.indications_moves _
theorem State.handSmoke_moves (b : Bool) : State.Moves true s (s.handSmoke b) := by
  unfold State.handSmoke
  split
  · exact s.smokeBegins_moves
  · split
    · exact s.smokeEnds_moves
    · exact .refl _
theorem State.reviewSmoke_moves : State.Moves true s s.reviewSmoke :=
  ((State.beside_moves (s := s) (t := { s with resolver := { s.resolver with smoke := s.smokeNow, cls := s.classNow } })
    ⟨rfl, rfl, rfl, rfl, rfl, rfl, rfl, rfl, rfl, fun _ => rfl, fun _ => rfl⟩).trans (State.triggerIf_moves _ _)).trans
      (State.handSmoke_moves _ _)
/-- R58, R59: the recomputation of the roles. -/
theorem State.recomputeRoles_moves : State.Moves true s s.recomputeRoles :=
  (s.takeRoles_moves.trans (State.indicateAll_moves _)).trans (State.reviewSmoke_moves _)

/-! ### Commits (R175, R176) -/

theorem State.groupWritten_moves (g : GroupId) : State.Moves true s (s.groupWritten g) :=
  State.clearAlarm_moves _ _ (.inr ⟨rfl, rfl⟩)
theorem State.commitBank_moves (k : PlanId) (b : PlanBank) : State.Moves true s (s.commitBank k b) :=
  (State.beside_moves (s := s) (t := { s with
      plan := { s.plan with banks := upd s.plan.banks k fun _ => b }
      store := { s.store with plans := sealWith plansImage (s.store.plans.contents.withBank k b) } })
    ⟨rfl, rfl, rfl, rfl, rfl, rfl, rfl, rfl, rfl, fun _ => rfl, fun _ => rfl⟩).trans (State.groupWritten_moves _ _)
theorem State.commitMap_moves (m : Vector (Option PlanId) 16) : State.Moves true s (s.commitMap m) :=
  (State.beside_moves (s := s) (t := { s with
      plan := { s.plan with map := m }
      store := { s.store with plans := sealWith plansImage { s.store.plans.contents with map := m } } })
    ⟨rfl, rfl, rfl, rfl, rfl, rfl, rfl, rfl, rfl, fun _ => rfl, fun _ => rfl⟩).trans (State.groupWritten_moves _ _)
theorem State.commitNormal_moves (b : Nat) : State.Moves true s (s.commitNormal b) :=
  (State.beside_moves (s := s) (t := { s with
      alloc := { s.alloc with normal := b }
      store := { s.store with budgets := sealWith budgetsImage { s.store.budgets.contents with normal := b } } })
    ⟨rfl, rfl, rfl, rfl, rfl, rfl, rfl, rfl, rfl, fun _ => rfl, fun _ => rfl⟩).trans (State.groupWritten_moves _ _)
theorem State.commitStandby_moves (b : Nat) : State.Moves true s (s.commitStandby b) :=
  (State.beside_moves (s := s) (t := { s with
      alloc := { s.alloc with standby := b }
      store := { s.store with budgets := sealWith budgetsImage { s.store.budgets.contents with standby := b } } })
    ⟨rfl, rfl, rfl, rfl, rfl, rfl, rfl, rfl, rfl, fun _ => rfl, fun _ => rfl⟩).trans (State.groupWritten_moves _ _)
theorem State.commitBase_moves (k : PlanId) : State.Moves true s (s.commitBase k) :=
  (State.beside_moves (s := s) (t := s.storeBase k)
    ⟨rfl, rfl, rfl, rfl, rfl, rfl, rfl, rfl, rfl, fun _ => rfl, fun _ => rfl⟩).trans (State.groupWritten_moves _ _)
theorem State.commitClosure_moves (z : ZoneId) (c : Bool) : State.Moves true s (s.commitClosure z c) :=
  (State.beside_moves (s := s) (t := { s with
      resolver := { s.resolver with closures := upd s.resolver.closures z fun _ => c }
      store := { s.store with base := sealWith baseImage (s.store.base.contents.withClosure z c) } })
    ⟨rfl, rfl, rfl, rfl, rfl, rfl, rfl, rfl, rfl, fun _ => rfl, fun _ => rfl⟩).trans (State.groupWritten_moves _ _)
theorem State.configChanged_moves (p : Port) : State.Moves true s (s.configChanged p) := s.raiseOthers_moves _ _

/-! ### The zone evaluator (R11 to R26) -/

@[simp] theorem Zone.modGas_config (q : Zone) (g : Gas) (f : GasRow → GasRow) : (q.modGas g f).config = q.config := by
  cases g <;> rfl
@[simp] theorem Zone.follow_config (q : Zone) (t : Nat) : (q.follow t).config = q.config := by
  unfold Zone.follow; split
  · rfl
  · split <;> rfl

theorem State.refreshGas_moves (z : ZoneId) : State.Moves true s (s.refreshGas z) := s.modZone_moves z _ rfl
theorem State.retarget_moves (z : ZoneId) : State.Moves true s (s.retarget z) :=
  (s.modZone_moves z _ (by rw [Zone.follow_config])).trans (State.triggerIf_moves _ _)
theorem State.refreshZone_moves (z : ZoneId) : State.Moves true s (s.refreshZone z) :=
  (s.refreshGas_moves z).trans (State.retarget_moves _ z)
theorem State.fallExpired_moves (z : ZoneId) : State.Moves true s (s.fallExpired z) :=
  (s.modZone_moves z _ rfl).trans (State.triggerIf_moves _ _)
theorem State.setBoost_moves (z : ZoneId) (b : Option Boost) : State.Moves true s (s.setBoost z b) :=
  (s.modZone_moves z _ rfl).trans (State.retarget_moves _ z)
theorem State.endBoosts_moves : State.Moves true s s.endBoosts :=
  s.eachZone_moves _ fun s z => by
    split
    · exact s.setBoost_moves z none
    · exact .refl _
theorem State.boostAll_moves (b : Option Boost) : State.Moves true s (s.boostAll b) :=
  s.eachZone_moves _ fun q z => by
    split
    · exact q.setBoost_moves z b
    · exact .refl _
theorem State.gasRises_moves (z : ZoneId) (g : Gas) : State.Moves true s (s.gasRises z g) :=
  ((s.modZone_moves z _ (by simp)).trans (State.raiseAlarm_moves _ _ _ (.inr ⟨rfl, rfl⟩))).trans (State.raiseAll_moves _ _)
theorem State.gasClears_moves (z : ZoneId) (g : Gas) : State.Moves true s (s.gasClears z g) :=
  ((s.modZone_moves z _ (by simp)).trans (State.clearAlarm_moves _ _ (.inr ⟨rfl, rfl⟩))).trans (State.raiseAll_moves _ _)
theorem State.countReading_moves (z : ZoneId) (g : Gas) (v : Option Nat) : State.Moves true s (s.countReading z g v) := by
  have h : ∀ f : GasRow → GasRow, State.Moves true s (s.modZone z fun q => q.modGas g f) := fun f => s.modZone_moves z _ (by simp)
  unfold State.countReading
  split
  · exact .refl _
  · split
    · exact .refl _
    · split
      · unfold State.highReading; simp only
        split
        · exact (h _).trans (State.gasRises_moves _ _ _)
        · exact h _
      · split
        · unfold State.lowReading; simp only
          split
          · exact (h _).trans (State.gasClears_moves _ _ _)
          · exact h _
        · exact .refl _
theorem State.headFault_moves (h : HeadId) : State.Moves true s (s.headFault h) :=
  (State.raiseAlarm_moves _ _ _ (.inr ⟨rfl, rfl⟩)).trans (State.raiseAll_moves _ _)
theorem State.headOk_moves (h : HeadId) (co no2 : Word) : State.Moves true s (s.headOk h co no2) :=
  (s.modHead_moves h _ rfl).trans (State.clearAlarm_moves _ _ (.inr ⟨rfl, rfl⟩))
theorem State.okReply_moves (h : HeadId) (co no2 : Word) : State.Moves true s (s.okReply h co no2) :=
  ((((s.headOk_moves h co no2).trans (State.refreshGas_moves _ _)).trans (State.countReading_moves _ _ _ _)).trans
    (State.countReading_moves _ _ _ _)).trans (State.retarget_moves _ _)
theorem State.headFaults_moves (h : HeadId) : State.Moves true s (s.headFaults h) := by
  unfold State.headFaults; simp only
  split
  · exact s.modHead_moves h _ rfl
  · exact (s.modHead_moves h _ rfl).trans (State.headFault_moves _ h)
/-- R21: a head's reply. -/
theorem State.headReplied_moves (h : HeadId) (status : Byte) (co no2 : Word) : State.Moves true s (s.headReplied h status co no2) := by
  unfold State.headReplied
  split
  · exact s.okReply_moves h co no2
  · exact (s.modHead_moves h _ rfl).trans (State.refreshZone_moves _ _)
  · exact (s.headFaults_moves h).trans (State.refreshZone_moves _ _)
/-- R13: a head's loss. -/
theorem State.loseHead_moves (h : HeadId) : State.Moves true s (s.loseHead h) := by
  unfold State.loseHead; simp only
  refine .trans ?_ (State.refreshZone_moves _ _)
  split
  · exact s.modHead_moves h _ rfl
  · exact (s.modHead_moves h _ rfl).trans (State.headFault_moves _ h)

/-! ### The plan controller (R39 to R53) -/

theorem State.notePlan_moves (k : PlanId) : State.Moves true s (s.notePlan k) := by
  unfold State.notePlan; split
  · exact .refl _
  · exact s.raiseAll_moves _
theorem State.setLevel_moves (l : Level) : State.Moves true s (s.setLevel l) := by
  have h1 : State.Moves true s (s.modPlan fun c => { c with level := l }) := s.modPlan_moves _ rfl
  unfold State.setLevel; simp only
  refine .trans ?_ (State.triggerIf_moves _ _)
  split
  · split
    · exact (h1.trans (State.raiseAll_moves _ _)).trans (State.raiseAll_moves _ _)
    · exact h1.trans (State.raiseAll_moves _ _)
  · split
    · exact h1.trans (State.raiseAll_moves _ _)
    · exact h1
theorem State.handPlan_moves (k : PlanId) : State.Moves true s (s.handPlan k) := by
  unfold State.handPlan; split
  · exact .refl _
  · exact s.recomputeRoles_moves
theorem State.joinFire_moves (z : ZoneId) : State.Moves true s (s.joinFire z) := by
  unfold State.joinFire State.raiseAlarm
  split
  · exact (State.Move.burn s z).moves.trans (State.raiseAll_moves _ _)
  · exact (State.Move.burn s z).moves
theorem State.beginIncident_moves (z : ZoneId) : State.Moves true s (s.beginIncident z) :=
  (((((s.joinFire_moves z).trans (State.modPlan_moves _ _ rfl)).trans (State.setLevel_moves _ _)).trans (State.notePlan_moves _ _)).trans
    (State.handPlan_moves _ _))
theorem State.secondAlarm_moves (z : ZoneId) : State.Moves true s (s.secondAlarm z) :=
  ((s.joinFire_moves z).trans (State.modPlan_moves _ _ rfl)).trans (State.raiseAll_moves _ _)
/-- R40: a fire alarm. -/
theorem State.fireAlarmed_moves (z : ZoneId) : State.Moves true s (s.fireAlarmed z) := by
  unfold State.fireAlarmed; split
  · exact .refl _
  · split
    · exact s.beginIncident_moves z
    · exact s.secondAlarm_moves z
theorem State.doReturn_moves : State.Moves true s s.doReturn :=
  ((((s.modPlan_moves _ rfl).trans (State.setLevel_moves _ _)).trans (State.notePlan_moves _ _)).trans (State.handPlan_moves _ _))

/-- R47: the clears of the zones of a list that burn, for a fire set given. -/
def douseAll (c : ZoneId → Bool) (t : Nat) (a : AlarmList) (l : List ZoneId) : AlarmList :=
  l.foldl (fun a z => if c z then a.clear (.fire z) t else a) a

theorem douseAll_sound {c : ZoneId → Bool} {t : Nat} (l : List ZoneId) : ∀ {a : AlarmList}, a.Sound → (douseAll c t a l).Sound := by
  induction l with
  | nil => exact fun h => h
  | cons z l ih =>
    intro a h
    refine ih ?_
    show AlarmList.Sound (if c z then a.clear (.fire z) t else a)
    split
    · exact h.clear _ _
    · exact h

theorem douseAll_hasActive {c : ZoneId → Bool} {t : Nat} (l : List ZoneId) (z : ZoneId) :
    ∀ {a : AlarmList}, a.Sound → (douseAll c t a l).hasActive (.fire z) = (a.hasActive (.fire z) && !(decide (z ∈ l) && c z)) := by
  induction l with
  | nil => intro a _; simp [douseAll]
  | cons y l ih =>
    intro a h
    have e : douseAll c t a (y :: l) = douseAll c t (if c y then a.clear (.fire y) t else a) l := rfl
    rw [e]
    by_cases hc : c y = true
    · rw [if_pos hc, ih (h.clear _ _)]
      by_cases hz : z = y
      · subst hz; rw [h.clear_hasActive]; simp [hc]
      · rw [AlarmList.clear_hasActive_other (by simpa using hz)]; simp [hz]
    · rw [if_neg hc, ih h]
      by_cases hz : z = y
      · subst hz; simp [hc]
      · simp [hz]

theorem State.emptyFires_eq : s.emptyFires = { s with
    alarms := douseAll s.burning s.partTime s.alarms (List.finRange 16), plan := { s.plan with fireSet := 0 } } := by
  have h : ∀ (l : List ZoneId) (q : State), q.partTime = s.partTime →
      l.foldl (fun q z => if s.burning z then q.clearAlarm (.fire z) else q) q =
        { q with alarms := douseAll s.burning s.partTime q.alarms l } := by
    intro l
    induction l with
    | nil => intro q _; rfl
    | cons z l ih =>
      intro q hq
      rw [List.foldl_cons]
      by_cases hb : s.burning z = true
      · rw [if_pos hb, ih (q.clearAlarm (.fire z)) hq]
        simp only [douseAll, List.foldl_cons, hb, if_true, State.clearAlarm, hq]
      · rw [if_neg hb, ih q hq]
        simp only [douseAll, List.foldl_cons, if_neg hb]
  unfold State.emptyFires
  rw [h _ s rfl]
  rfl

/-- R47: the fire set is emptied. -/
theorem State.emptyFires_moves : State.Moves true s s.emptyFires := by
  rw [State.emptyFires_eq]
  refine (State.Move.douse s _ (fun h => douseAll_sound _ h) fun h hl z => ?_).moves
  rw [douseAll_hasActive _ z h, hl z]; simp
theorem State.purgeOrReturn_moves : State.Moves true s s.purgeOrReturn := by
  unfold State.purgeOrReturn; split
  · exact s.modPlan_moves _ rfl
  · exact s.doReturn_moves
/-- R47 to R49: FIRE RESET. -/
theorem State.fireReset_moves : State.Moves true s s.fireReset := by
  unfold State.fireReset; split
  · exact .refl _
  · split
    · exact .refl _
    · exact s.emptyFires_moves.trans (State.purgeOrReturn_moves _)
    · exact s.emptyFires_moves
theorem State.selectPlan_moves (k : PlanId) : State.Moves true s (s.selectPlan k) :=
  ((((s.modPlan_moves _ rfl).trans (State.setLevel_moves _ _)).trans (State.notePlan_moves _ _)).trans (State.handPlan_moves _ _))
theorem State.toAutomatic_moves : State.Moves true s s.toAutomatic := by
  unfold State.toAutomatic; split
  · exact ((s.modPlan_moves _ rfl).trans (State.setLevel_moves _ _)).trans (State.notePlan_moves _ _)
  · exact ((s.modPlan_moves _ rfl).trans (State.setLevel_moves _ _)).trans (State.notePlan_moves _ _)

/-! ### Control (R61 to R64) -/

theorem State.takeControl_moves : State.Moves true s s.takeControl := by
  unfold State.takeControl; split
  · exact .refl _
  · exact (s.modResolver_moves _).trans (State.raiseAll_moves _ _)
theorem State.giveControl_moves : State.Moves true s s.giveControl := by
  have h1 : State.Moves true s s.clearOverrides := (s.modResolver_moves _).trans (State.triggerIf_moves _ _)
  have h2 : State.Moves true s s.clearOverrides.returnIfManual := by
    refine h1.trans ?_
    unfold State.returnIfManual; split
    · exact State.toAutomatic_moves _
    · exact .refl _
  exact ((h2.trans (State.modResolver_moves _ _)).trans (State.raiseAll_moves _ _)).trans (State.recomputeRoles_moves _)
theorem State.overrideSet_moves (z : ZoneId) (r : Option Role) : State.Moves true s (s.overrideSet z r) := by
  unfold State.overrideSet; split
  · exact .refl _
  · exact ((s.modResolver_moves _).trans (State.raiseAll_moves _ _)).trans (State.recomputeRoles_moves _)
theorem State.blockSet_moves (n : FanId) (b : Bool) : State.Moves true s (s.blockSet n b) := by
  unfold State.blockSet; split
  · exact .refl _
  · exact ((s.modResolver_moves _).trans (State.raiseAll_moves _ _)).trans (State.trigger_moves _)

/-! ### Writes that fit no device (R33 to R35, R52, R66, R114, R115) -/

theorem State.planWritten_moves (p : Port) (k : PlanId) (b : PlanBank) : State.Moves true s (s.planWritten p k b) := by
  have h := (s.commitBank_moves k b).trans (State.configChanged_moves _ p)
  unfold State.planWritten; simp only
  split
  · exact h.trans (State.recomputeRoles_moves _)
  · exact h
theorem State.mapWritten_moves (m : Vector (Option PlanId) 16) : State.Moves true s (s.mapWritten m) :=
  (s.commitMap_moves m).trans (State.configChanged_moves _ _)
theorem State.kindSet_moves (n : PlanId) (k : PlanKind) : State.Moves true s (s.kindSet n k) :=
  (s.commitBank_moves n _).trans (State.configChanged_moves _ _)
theorem State.baseSelected_moves (k : PlanId) : State.Moves true s (s.baseSelected k) := by
  have h := (s.commitBase_moves k).trans (State.configChanged_moves _ .building)
  unfold State.baseSelected; simp only
  split
  · exact ((h.trans (State.modPlan_moves _ _ rfl)).trans (State.notePlan_moves _ _)).trans (State.handPlan_moves _ _)
  · exact h.trans (State.modPlan_moves _ _ rfl)
theorem State.closureSet_moves (z : ZoneId) (c : Bool) : State.Moves true s (s.closureSet z c) := by
  have h := (s.commitClosure_moves z c).trans (State.configChanged_moves _ .building)
  unfold State.closureSet; simp only
  split
  · exact h
  · exact h.trans (State.recomputeRoles_moves _)
theorem State.normalWritten_moves (b : Nat) : State.Moves true s (s.normalWritten b) :=
  ((s.commitNormal_moves b).trans (State.configChanged_moves _ _)).trans (State.triggerIf_moves _ _)
theorem State.standbyWritten_moves (b : Nat) : State.Moves true s (s.standbyWritten b) :=
  ((s.commitStandby_moves b).trans (State.configChanged_moves _ _)).trans (State.triggerIf_moves _ _)
theorem State.supplySet_moves (v : Supply) : State.Moves true s (s.supplySet v) :=
  (State.beside_moves (s := s) (t := { s with alloc := { s.alloc with supply := v } })
    ⟨rfl, rfl, rfl, rfl, rfl, rfl, rfl, rfl, rfl, fun _ => rfl, fun _ => rfl⟩).trans (State.triggerIf_moves _ _)

/-! ### Fans (R80, R88) and the link (R159) -/

theorem State.fanReset_moves (n : FanId) (h : (s.fan n).state = .tripped) : State.Moves true s (s.fanReset n) := by
  have h1 : State.Moves true s (s.clearAlarm (.fanFault n)) := State.clearAlarm_moves _ _ (.inl rfl)
  unfold State.fanReset; simp only
  split
  · refine (h1.trans (State.modFan_moves _ n _)).trans (State.enterEnrolHold_moves _ n fun hs => hs.able ?_)
    rw [State.modFan_fan_self]; show (s.fan n).state.enrolled = true; rw [h]; rfl
  · exact h1.trans (State.enterReady_moves _ n fun hs => hs.able (by show (s.fan n).state.enrolled = true; rw [h]; rfl))
theorem State.linkGone_moves (p : Port) : State.Moves true s (s.linkGone p) := by
  have h : State.Moves true s ((((s.modPort p fun q => { q with link := .lost, silence := none }).raiseAlarm (.linkLost p) none).raiseAll
      .linkLost)) :=
    (((State.Move.port s p _ (fun hs => ⟨by simp, hs.line⟩) rfl rfl).moves.trans
      (State.raiseAlarm_moves _ _ _ (.inr ⟨rfl, rfl⟩))).trans (State.raiseAll_moves _ _))
  unfold State.linkGone State.portLost
  split
  · exact h.trans (State.endBoosts_moves _)
  · exact h
  · exact h

end Sys2Proof.Machine
end

