-- ==== Sys2Proof/Laws/PerInstr.lean ====
section
/-! SUPPORT. The sizes of the frames a command stands for (R172), one lemma for each command: a request frame has 7 to 71
bytes and a field reply at most 11. -/

namespace Sys2Proof

-- One proof at a time: with a thread for each the package as one text would not fit in memory.
set_option Elab.async false

open Sys2Proof.Machine

theorem bytesOf_length (ws : List Word) : (bytesOf ws).length = 2 * ws.length := by
  induction ws with
  | nil => rfl
  | cons w ws ih => simp only [bytesOf, List.flatMap_cons, List.length_append, List.length_cons] at *; simp [wordBytes, ih]; omega

theorem closed_length (bs : List Byte) : (closed bs).length = bs.length + 2 := by simp [closed, wordBytes]

theorem requestFrame_length (code object index : Byte) (data : List Word) :
    (requestFrame code object index data).length = 2 * data.length + 7 := by
  simp [requestFrame, closed_length, bytesOf_length]

theorem fieldFrame_length (address kind : Byte) (fields : List Byte) :
    (fieldFrame address kind fields).length = fields.length + 5 := by simp [fieldFrame, closed_length]

namespace Laws.FrameSize

/-- R172: the bounds on the bytes of the frames of a well-formed command. -/
def Statement (i : Instr) : Prop :=
  WellFormed i = true →
    (∀ p bs, requestBytes i = some (p, bs) → 7 ≤ bs.length ∧ bs.length ≤ 71) ∧
    ∀ bs, replyBytes i = some bs → bs.length ≤ 11

theorem of_request {i : Instr} {q : Port} {code object index : Byte} {data : List Word}
    (hb : requestBytes i = some (q, requestFrame code object index data)) (hr : replyBytes i = none)
    (h : WellFormed i = true → data.length ≤ 32) : Statement i := by
  intro w
  have := h w
  refine ⟨fun p bs e => ?_, fun bs e => by rw [hr] at e; cases e⟩
  rw [hb] at e
  cases e
  rw [requestFrame_length]
  omega

theorem of_reply {i : Instr} {address kind : Byte} {fields : List Byte}
    (hb : replyBytes i = some (fieldFrame address kind fields)) (hr : requestBytes i = none)
    (h : fields.length ≤ 6) : Statement i := by
  refine fun _ => ⟨fun p bs e => (by rw [hr] at e; cases e), fun bs e => ?_⟩
  rw [hb] at e
  cases e
  rw [fieldFrame_length]
  omega

theorem of_none {i : Instr} (hb : replyBytes i = none) (hr : requestBytes i = none) : Statement i :=
  fun _ => ⟨fun p bs e => (by rw [hr] at e; cases e), fun bs e => (by rw [hb] at e; cases e)⟩

theorem ping (p : Port) (index : Byte) (data : List Word) : Statement (.ping p index data) :=
  of_request rfl rfl fun h => by simpa [WellFormed, countFits] using h
theorem read (p : Port) (object index : Byte) (data : List Word) : Statement (.read p object index data) :=
  of_request rfl rfl fun h => by
  simp only [WellFormed, countFits, Bool.and_eq_true, decide_eq_true_eq] at h
  exact h.2
theorem readNotices (p : Port) (index : Byte) (data : List Word) : Statement (.readNotices p index data) :=
  of_request rfl rfl fun h => by simpa [WellFormed, countFits] using h
theorem ackNotices (p : Port) (index : Byte) (data : List Word) : Statement (.ackNotices p index data) :=
  of_request rfl rfl fun h => by simpa [WellFormed, countFits] using h
theorem setNoticeMask (p : Port) (index : Byte) (data : List Word) : Statement (.setNoticeMask p index data) :=
  of_request rfl rfl fun h => by simpa [WellFormed, countFits] using h
theorem endService (p : Port) (index : Byte) (data : List Word) : Statement (.endService p index data) :=
  of_request rfl rfl fun h => by simpa [WellFormed, countFits] using h
theorem readAlarmList (p : Port) (index : Byte) (data : List Word) : Statement (.readAlarmList p index data) :=
  of_request rfl rfl fun h => by simpa [WellFormed, countFits] using h
theorem ackAlarm (p : Port) (index : Byte) (data : List Word) : Statement (.ackAlarm p index data) :=
  of_request rfl rfl fun h => by simpa [WellFormed, countFits] using h
theorem writeZone (p : Port) (index : Byte) (data : List Word) : Statement (.writeZone p index data) :=
  of_request rfl rfl fun h => by simpa [WellFormed, countFits] using h
theorem writeHead (p : Port) (index : Byte) (data : List Word) : Statement (.writeHead p index data) :=
  of_request rfl rfl fun h => by simpa [WellFormed, countFits] using h
theorem writeFan (p : Port) (index : Byte) (data : List Word) : Statement (.writeFan p index data) :=
  of_request rfl rfl fun h => by simpa [WellFormed, countFits] using h
theorem writeNormalBudget (p : Port) (index : Byte) (data : List Word) : Statement (.writeNormalBudget p index data) :=
  of_request rfl rfl fun h => by simpa [WellFormed, countFits] using h
theorem writePlan (p : Port) (index : Byte) (data : List Word) : Statement (.writePlan p index data) :=
  of_request rfl rfl fun h => by simpa [WellFormed, countFits] using h
theorem selectBasePlan (p : Port) (index : Byte) (data : List Word) : Statement (.selectBasePlan p index data) :=
  of_request rfl rfl fun h => by simpa [WellFormed, countFits] using h
theorem setZoneClosure (p : Port) (index : Byte) (data : List Word) : Statement (.setZoneClosure p index data) :=
  of_request rfl rfl fun h => by simpa [WellFormed, countFits] using h
theorem setBoost (p : Port) (index : Byte) (data : List Word) : Statement (.setBoost p index data) :=
  of_request rfl rfl fun h => by simpa [WellFormed, countFits] using h
theorem setFanService (p : Port) (index : Byte) (data : List Word) : Statement (.setFanService p index data) :=
  of_request rfl rfl fun h => by simpa [WellFormed, countFits] using h
theorem reenrolFan (p : Port) (index : Byte) (data : List Word) : Statement (.reenrolFan p index data) :=
  of_request rfl rfl fun h => by simpa [WellFormed, countFits] using h
theorem resetFan (p : Port) (index : Byte) (data : List Word) : Statement (.resetFan p index data) :=
  of_request rfl rfl fun h => by simpa [WellFormed, countFits] using h
theorem clearCounts (p : Port) (index : Byte) (data : List Word) : Statement (.clearCounts p index data) :=
  of_request rfl rfl fun h => by simpa [WellFormed, countFits] using h
theorem factoryClear (p : Port) (index : Byte) (data : List Word) : Statement (.factoryClear p index data) :=
  of_request rfl rfl fun h => by simpa [WellFormed, countFits] using h
theorem fireAlarm (p : Port) (index : Byte) (data : List Word) : Statement (.fireAlarm p index data) :=
  of_request rfl rfl fun h => by simpa [WellFormed, countFits] using h
theorem fireReset (p : Port) (index : Byte) (data : List Word) : Statement (.fireReset p index data) :=
  of_request rfl rfl fun h => by simpa [WellFormed, countFits] using h
theorem supplyState (p : Port) (index : Byte) (data : List Word) : Statement (.supplyState p index data) :=
  of_request rfl rfl fun h => by simpa [WellFormed, countFits] using h
theorem writePlanMap (p : Port) (index : Byte) (data : List Word) : Statement (.writePlanMap p index data) :=
  of_request rfl rfl fun h => by simpa [WellFormed, countFits] using h
theorem writeStandbyBudget (p : Port) (index : Byte) (data : List Word) : Statement (.writeStandbyBudget p index data) :=
  of_request rfl rfl fun h => by simpa [WellFormed, countFits] using h
theorem setPlanKind (p : Port) (index : Byte) (data : List Word) : Statement (.setPlanKind p index data) :=
  of_request rfl rfl fun h => by simpa [WellFormed, countFits] using h
theorem takeControl (p : Port) (index : Byte) (data : List Word) : Statement (.takeControl p index data) :=
  of_request rfl rfl fun h => by simpa [WellFormed, countFits] using h
theorem giveControl (p : Port) (index : Byte) (data : List Word) : Statement (.giveControl p index data) :=
  of_request rfl rfl fun h => by simpa [WellFormed, countFits] using h
theorem setZoneOverride (p : Port) (index : Byte) (data : List Word) : Statement (.setZoneOverride p index data) :=
  of_request rfl rfl fun h => by simpa [WellFormed, countFits] using h
theorem setFanBlock (p : Port) (index : Byte) (data : List Word) : Statement (.setFanBlock p index data) :=
  of_request rfl rfl fun h => by simpa [WellFormed, countFits] using h
theorem selectPlan (p : Port) (index : Byte) (data : List Word) : Statement (.selectPlan p index data) :=
  of_request rfl rfl fun h => by simpa [WellFormed, countFits] using h
theorem returnToAutomatic (p : Port) (index : Byte) (data : List Word) : Statement (.returnToAutomatic p index data) :=
  of_request rfl rfl fun h => by simpa [WellFormed, countFits] using h
theorem unknownRequest (p : Port) (code object index : Byte) (data : List Word) : Statement (.unknownRequest p code object index data) :=
  of_request rfl rfl fun h => by
  simp only [WellFormed, countFits, Bool.and_eq_true, decide_eq_true_eq] at h
  exact h.2
theorem requestFrameDiscarded (p : Port) (cause : FrameFault) : Statement (.requestFrameDiscarded p cause) :=
  of_none rfl rfl
theorem lineQuiet (p : Port) : Statement (.lineQuiet p) :=
  of_none rfl rfl
theorem headReply (address status : Byte) (co no2 : Word) : Statement (.headReply address status co no2) :=
  of_reply rfl rfl (by simp [wordBytes])
theorem statusReply (address run speed fault : Byte) : Statement (.statusReply address run speed fault) :=
  of_reply rfl rfl (by simp)
theorem abilityReply (address run speed fault mode minSpeed smokeClass : Byte) : Statement (.abilityReply address run speed fault mode minSpeed smokeClass) :=
  of_reply rfl rfl (by simp)
theorem extractReply (address position flag : Byte) : Statement (.extractReply address position flag) :=
  of_reply rfl rfl (by simp)
theorem makeUpReply (address openSwitch closedSwitch flag : Byte) : Statement (.makeUpReply address openSwitch closedSwitch flag) :=
  of_reply rfl rfl (by simp)
theorem fieldFrameDiscarded (cause : FieldFault) : Statement (.fieldFrameDiscarded cause) :=
  of_none rfl rfl
theorem replyTimeout : Statement .replyTimeout :=
  of_none rfl rfl
theorem fallTimerExpiry (z : ZoneId) : Statement (.fallTimerExpiry z) :=
  of_none rfl rfl
theorem boostExpiry (z : ZoneId) : Statement (.boostExpiry z) :=
  of_none rfl rfl
theorem purgeTimerExpiry : Statement .purgeTimerExpiry :=
  of_none rfl rfl
theorem startLimitExpiry (n : FanId) : Statement (.startLimitExpiry n) :=
  of_none rfl rfl
theorem stopLimitExpiry (n : FanId) : Statement (.stopLimitExpiry n) :=
  of_none rfl rfl
theorem restartHoldExpiry (n : FanId) : Statement (.restartHoldExpiry n) :=
  of_none rfl rfl
theorem enrolHoldExpiry (n : FanId) : Statement (.enrolHoldExpiry n) :=
  of_none rfl rfl
theorem graceTimerExpiry : Statement .graceTimerExpiry :=
  of_none rfl rfl
theorem extractTravelTimerExpiry (z : ZoneId) : Statement (.extractTravelTimerExpiry z) :=
  of_none rfl rfl
theorem makeUpTravelTimerExpiry (z : ZoneId) : Statement (.makeUpTravelTimerExpiry z) :=
  of_none rfl rfl
theorem stageDownTimerExpiry : Statement .stageDownTimerExpiry :=
  of_none rfl rfl
theorem startUpWindowEnd : Statement .startUpWindowEnd :=
  of_none rfl rfl
theorem silenceTimerExpiry (p : Port) : Statement (.silenceTimerExpiry p) :=
  of_none rfl rfl
theorem holdOffExpiry (p : Port) : Statement (.holdOffExpiry p) :=
  of_none rfl rfl
theorem powerOn (cut : StoreCut) : Statement (.powerOn cut) :=
  of_none rfl rfl
theorem resetLine (cut : StoreCut) : Statement (.resetLine cut) :=
  of_none rfl rfl
theorem partTimeTick : Statement .partTimeTick :=
  of_none rfl rfl

end Laws.FrameSize
end Sys2Proof
end

