-- ==== Sys2Proof/Laws/Roles.lean ====
section
/-! SUPPORT. What Safety writes out of the zones, the roles and the indications is what the model works out (R16 to R19, R57, R59,
R109). -/

namespace Sys2Proof.Machine

-- One proof at a time: with a thread for each the package as one text would not fit in memory.
set_option Elab.async false

variable {s : State} {z : ZoneId} {g : Gas}

/-! ### Gas values, ramps and targets -/

theorem State.senses_iff {h : HeadId} : s.Senses h z g ↔ (s.head h).serves z g = true := by
  unfold State.Senses Head.serves
  cases e : (s.head h).config.carries <;> cases g <;> simp [Carried.has, e]
theorem State.lastReading_eq (h : HeadId) (g : Gas) : s.lastReading h g = (s.head h).reading g := by
  cases g <;> rfl
theorem State.mem_heads {q : Head} : q ∈ s.heads.toList ↔ ∃ h : HeadId, s.head h = q := by
  simp [State.head, List.mem_iff_getElem, Fin.exists_iff]
theorem State.anyFailed_iff : s.anyFailed z g = true ↔
    ∃ h, s.Senses h z g ∧ ((s.head h).state = .sensorFault ∨ (s.head h).state = .missing) := by
  unfold State.anyFailed
  rw [List.any_eq_true]
  simp only [State.mem_heads, State.senses_iff]
  constructor
  · rintro ⟨_, ⟨h, rfl⟩, k⟩; exact ⟨h, by simpa using k⟩
  · rintro ⟨h, k⟩; exact ⟨_, ⟨h, rfl⟩, by simpa using k⟩

/-- R16 to R18: a row whose value, ramp and fallback flag are the model's is sound. -/
theorem State.gasSound_of {r : GasRow} (hv : r.value = s.gasValue z g) (hr : r.ramp = s.rampNow z g)
    (hf : r.fallback = s.fallbackNow z g) : s.GasSound z g r := by
  refine ⟨?_, ?_, ?_⟩
  · rw [hv]
    unfold State.gasValue
    cases e : (s.heads.toList.filterMap fun h => if h.serves z g && h.state == .valid then h.reading g else none).max? with
    | none =>
      rw [List.max?_eq_none_iff, List.filterMap_eq_nil_iff] at e
      intro h m v
      have := e _ (State.mem_heads.2 ⟨h, rfl⟩)
      simpa [State.senses_iff.1 m, v, State.lastReading_eq] using this
    | some v =>
      rw [List.max?_eq_some_iff] at e
      obtain ⟨m, l⟩ := e
      simp only [List.mem_filterMap, State.mem_heads] at m l
      obtain ⟨q, ⟨h, rfl⟩, m⟩ := m
      split at m
      · rename_i c
        simp at c
        refine ⟨⟨h, State.senses_iff.2 c.1, c.2, by rw [State.lastReading_eq]; exact m⟩, fun k mk vk => ?_⟩
        rw [State.lastReading_eq]
        cases ek : (s.head k).reading g with
        | none => exact Nat.zero_le _
        | some w => exact l w ⟨_, ⟨k, rfl⟩, by simp [State.senses_iff.1 mk, vk, ek]⟩
      · cases m
  · rw [hf, hv, ← State.anyFailed_iff, State.fallbackNow]
    cases s.gasValue z g <;> cases s.anyFailed z g <;> simp
  · unfold ZoneConfig.rampBy
    rw [hr, hv, hf, State.rampNow, State.fallbackNow]
    cases s.gasValue z g <;> cases g <;> rfl

/-- R19: the target worked out is the greatest of the five terms. -/
theorem Zone.targetNow_eq (q : Zone) : q.targetNow = q.greatestTerm := by
  unfold Zone.targetNow Zone.greatestTerm Zone.boostPercent Zone.highTerm
  cases q.boost <;> simp

/-! ### Roles and indications -/

/-- R57, R59: the roles are sound exactly when they are the ones worked out from the layers. -/
theorem State.rolesSound_iff : s.RolesSound ↔
    (∀ z : ZoneId, (s.resolver.roles[z.val], s.resolver.layers[z.val]) = s.resolved z) ∧
      s.resolver.smoke = s.smokeNow ∧ s.resolver.cls = s.classNow := by
  have hs : s.smokeNow = true ↔ ∃ z : ZoneId, (s.zone z).config.fitted = true ∧ s.resolver.roles[z.val] = .extract := by
    simp [State.smokeNow, State.role]
  have hr : ∀ z : ZoneId, s.resolved z =
      match s.resolver.overrides[z.val], (s.bank s.plan.current).roles[z.val], s.resolver.closures[z.val] with
      | some r, _, _ => (r, Layer.override)
      | none, some r, _ => (r, Layer.plan)
      | none, none, true => (Role.isolate, Layer.building)
      | none, none, false => (Role.gas, Layer.default) := by
    intro z
    unfold State.resolved
    cases s.resolver.overrides[z.val] <;> cases (s.bank s.plan.current).roles[z.val] <;>
      cases s.resolver.closures[z.val] <;> rfl
  have hc : s.classNow = if (s.bank s.plan.current).kind = .smoke then (s.bank s.plan.current).cls else 1 := by
    unfold State.classNow
    cases (s.bank s.plan.current).kind <;> rfl
  have hb : s.resolver.smoke = s.smokeNow ↔ (s.resolver.smoke = true ↔ s.smokeNow = true) := by
    cases s.resolver.smoke <;> cases s.smokeNow <;> simp
  rw [hb, hc, hs]
  constructor
  · exact fun h => ⟨fun z => (h.roles z).trans (hr z).symm, h.smoke, h.cls⟩
  · exact fun h => ⟨fun z => (h.1 z).trans (hr z), h.2.1, h.2.2⟩

/-- R109: the indication of the table, by the first line that applies. -/
theorem indicationOf_eq (role : Role) (d : ExtractDamper) (m : MakeUpDamper) : indicationOf role d m =
    if role = .gas then .normal
    else if d.state = .fault ∨ d.state = .lost ∨ m.state = .fault ∨ m.state = .lost then .fault
    else if d.state = .settled ∧
      ((m.command = .open_ ∧ m.state = .open_) ∨ (m.command = .closed ∧ m.state = .closed)) then .activeProven
    else .activePending := by
  unfold indicationOf MakeUpDamper.arrived
  cases m.command <;> cases m.state <;> simp

end Sys2Proof.Machine
end

