-- ==== Sys2Proof/Tests/Slice0.lean ====
section
/-! SUPPORT. The tests: the ill-formed terms that WellFormed refuses, the check word, one or two steps of each command with
results worked by hand from the spec, and for each statement a state and operands that meet its hypotheses. -/

namespace Sys2Proof.Tests

-- One evaluation at a time: a thread for each test would not fit in memory.
set_option Elab.async false

open Sys2Proof.Machine

/-! ### WellFormed refuses -/

theorem test_count_of_33_words_is_ill_formed : WellFormed (.ping .building 0 (List.replicate 33 0)) = false := by decide
theorem test_count_of_32_words_is_well_formed : WellFormed (.ping .building 0 (List.replicate 32 0)) = true := by decide
theorem test_read_of_object_0_is_ill_formed : WellFormed (.read .alarm 0 1 [1]) = false := by decide
theorem test_read_of_object_14_is_ill_formed : WellFormed (.read .alarm 14 1 [1]) = false := by decide
theorem test_unknown_request_with_a_known_code_is_ill_formed : WellFormed (.unknownRequest .alarm 0x20 0 3 []) = false := by
  decide
theorem test_unknown_request_with_read_of_object_14_is_well_formed :
    WellFormed (.unknownRequest .alarm 0x02 14 1 [1]) = true := by decide
theorem test_head_addresses : (WellFormed (.headReply 0 1 0 0), WellFormed (.headReply 48 1 0 0),
    WellFormed (.headReply 49 1 0 0)) = (false, true, false) := by decide
theorem test_drive_addresses : (WellFormed (.statusReply 64 0 0 0), WellFormed (.statusReply 72 0 0 0),
    WellFormed (.abilityReply 73 0 0 0 0 0 0)) = (false, true, false) := by decide
theorem test_extract_addresses : (WellFormed (.extractReply 96 0 0), WellFormed (.extractReply 112 0 0),
    WellFormed (.extractReply 113 0 0)) = (false, true, false) := by decide
theorem test_make_up_addresses : (WellFormed (.makeUpReply 112 0 1 0), WellFormed (.makeUpReply 128 0 1 0),
    WellFormed (.makeUpReply 129 0 1 0)) = (false, true, false) := by decide

/-! ### Frames (R172, R173) -/

/-- R173: the check word of the nine characters 1 to 9. -/
theorem test_check_word : crc16 [0x31, 0x32, 0x33, 0x34, 0x35, 0x36, 0x37, 0x38, 0x39] = 0x29B1 := by decide +kernel
/-- R172: FIRE ALARM of zone 3 carries code 20h, object 0, index 3 and no data. -/
theorem test_fire_alarm_frame :
    (requestBytes (.fireAlarm .alarm 3 [])).map (fun q => q.2.take 5) = some [0xA5, 0x20, 0, 3, 0] := by decide +kernel
/-- R172: an exchange frame carries address, kind, length and operands: RUN of fan 2 at 63 % with the smoke flag. -/
theorem test_run_frame :
    (exchangeFrame ⟨.drive 1, some (.run 1 63 true), false⟩).take 5 = [66, 1, 2, 63, 1] := by decide +kernel
theorem test_no_word_spells_a_command : decodeTableWord 8 0x20 = none := rfl

/-! ### States to step from -/

/-- The state after a step, and the reset state where there is none. -/
def got : Host.Outcome State Fault Refusal → State
  | .next t => t
  | .fault _ => State.reset
  | .refused _ => State.reset

/-- The status of the response a port sent last. -/
def status (s : State) (p : Port) : Option Status := (s.port p).response.map Response.status
def words (s : State) (p : Port) : Option (List Word) := (s.port p).response.map Response.words

/-- A fan that has enrolled a variable drive (R79). -/
def enrolled (cls : Nat) (st : FanState) : Fan :=
  { config := { fitted := true, cls := cls }, state := st, ability := some (.drive .variable 25 cls), mode := some .variable,
    cls := some cls, minSpeed := some 25 }

def fitZone (qn demand : Nat) (q : Zone) : Zone :=
  { q with config := { q.config with fitted := true, qn := qn }, target := demand, demand := demand }

/-- Worked case 1 of Flow Allocation: zones 1 to 3 GAS at 50, 25 and 100, four READY fans, a normal budget of 800. -/
def pullOut : State :=
  { ((State.reset.modZone 0 (fitZone 600 50)).modZone 1 (fitZone 600 25)).modZone 2 (fitZone 300 100) with
    fans := Vector.ofFn fun n => if n.val < 3 then enrolled 1 .ready else if n.val = 3 then enrolled 0 .ready else {},
    duty := [0, 1, 2, 3], alloc := { normal := 800, standby := 1200, window := none } }

/-- Plan 2 of the worked examples: zone 3 EXTRACT, zone 2 ISOLATE, zone 1 MAKEUP, class 1. -/
def planTwo : PlanBank :=
  { kind := .smoke, cls := 1, purge := 600,
    roles := Vector.ofFn fun z => if z.val = 2 then some .extract else if z.val = 1 then some .isolate
      else if z.val = 0 then some .makeUp else none }

/-- Worked case 2: the depot quiet on standby, the map sending zone 3 to plan 2. -/
def quiet : State :=
  { ((State.reset.modZone 0 (fitZone 600 0)).modZone 1 (fitZone 600 0)).modZone 2 (fitZone 300 0) with
    fans := pullOut.fans, duty := [0, 1, 2, 3], alloc := { normal := 800, standby := 1200, window := none, supply := .standby },
    plan := { State.reset.plan with
      banks := upd State.reset.plan.banks 2 fun _ => planTwo, map := upd State.reset.plan.map 2 fun _ => some 2 } }

/-- The quiet depot in the incident of zone 3, less its roles and allocation. -/
def burning : State :=
  quiet.modPlan fun c => { c with level := .fire, fireSet := 4, current := 2, cause := some ⟨2, some 2, 5, .none⟩ }

/-- The quiet depot at MANUAL under the firefighter's panel. -/
def manual : State :=
  { quiet.modPlan fun c => { c with level := .manual, current := 2 } with
    resolver := { quiet.resolver with control := .inControl } }

def inControl (s : State) : State := { s with resolver := { s.resolver with control := .inControl } }
def exchanging (s : State) (d : Device) (o : Option Order) : State := { s with line := { s.line with inFlight := some ⟨d, o, false⟩ } }
def withAlarms (s : State) (es : List AlarmEntry) (counter : Nat) : State :=
  { s with alarms := { entries := es, counter := counter, cursors := ⟨5, 5, 0⟩ } }

/-- An entry of the worked example of Alarm List. -/
def entry (seq : Nat) (k : AlarmKey) (st : EntryState) : AlarmEntry :=
  ⟨seq, k, none, st, 100, if st = .cleared then some 200 else none, none, 1⟩

/-- The list of the worked example of Alarm List at 390. -/
def listed : State :=
  withAlarms State.reset [entry 1 (.headFault 6) .active, entry 2 (.fanFault 1) .active, entry 3 (.linkLost .building) .cleared,
    entry 4 (makeUpKey 1) .active, entry 5 (.gasHigh .co 4) .active] 6

/-! ### Requests of every port -/

theorem test_ping_sets_the_cursor_to_0 : (got (exec (.ping .building 0 []) listed)).alarms.cursors = ⟨0, 5, 0⟩ := by
  decide +kernel
/-- R166, R172: time 0, level NONE, plans 0 and 0, no fire, NOT_IN_CONTROL, MAINS, three links UP, RESTARTED pending. -/
theorem test_ping_words : words (got (exec (.ping .alarm 7 []) State.reset)) .alarm =
    some [0, 0, 0, 0, 0, 0, 0, 0, 0, 0, 0, 1] := by decide +kernel
/-- R5, R167: the default configuration of zone 16 with its closure mark open. -/
theorem test_read_zone_configuration : words (got (exec (.read .override 1 16 [1]) State.reset)) .override =
    some [0, 600, 1500, 50, 150, 200, 20, 50, 80, 0, 50, 3, 10, 90, 1] := by decide +kernel
theorem test_read_past_the_last_record : status (got (exec (.read .override 3 48 [2]) State.reset)) .override =
    some .refusedValue := by decide +kernel
theorem test_read_notices : (words (got (exec (.readNotices .building 0 []) State.reset)) .building,
    (got (exec (.readNotices .building 0 []) State.reset)).ports.building.seen) = (some [1], 1) := by decide +kernel
/-- R163: a notice that has not been seen keeps its marks. -/
theorem test_ack_of_an_unseen_notice : words (got (exec (.ackNotices .building 0 [1]) State.reset)) .building = some [1] := by
  decide +kernel
theorem test_mask_drops_the_line : (got (exec (.setNoticeMask .alarm 0 [1]) State.reset)).ports.alarm.line = false := by
  decide +kernel
theorem test_end_service_drops_the_line : (got (exec (.endService .alarm 0 []) State.reset)).ports.alarm.line = false := by
  decide +kernel
/-- The worked example of Alarm List at 450: one page of the building port. -/
theorem test_read_alarm_list_from_the_cursor : ((words (got (exec (.readAlarmList .override 0 []) listed)) .override).map
      fun ws => (ws.length, ws.take 2), (got (exec (.readAlarmList .override 0 []) listed)).alarms.cursors.override) =
    (some (62, [5, 0]), 5) := by decide +kernel
/-- The worked example of Alarm List at 410: entry 3 leaves and the cursors above it come down. -/
theorem test_ack_of_a_cleared_entry : ((got (exec (.ackAlarm .building 0 [0, 3]) listed)).alarms.entries.map
    AlarmEntry.sequence, (got (exec (.ackAlarm .building 0 [0, 3]) listed)).alarms.cursors) =
    ([1, 2, 4, 5], ⟨4, 4, 0⟩) := by decide +kernel
theorem test_unknown_request : status (got (exec (.unknownRequest .alarm 0x26 0 0 []) State.reset)) .alarm = some .unknown := by
  decide +kernel
theorem test_incomplete_frame_is_assembled :
    (got (exec (.requestFrameDiscarded .alarm .incomplete) State.reset)).ports.alarm.decoder = .assembling := by decide +kernel
theorem test_line_quiet : (got (exec (.lineQuiet .alarm) (State.reset.discardFrame .alarm))).ports.alarm.decoder = .waiting := by
  decide +kernel

/-! ### Requests of the building port -/

/-- R6: a CO start of 1200 and a CO full of 1100 both clamp to 1000 and the write is refused. -/
theorem test_write_zone_is_checked_as_clamped :
    status (got (exec (.writeZone .building 1 [1, 600, 1500, 1200, 1100, 1000, 20, 50, 80, 0, 50, 3, 10, 90]) State.reset))
      .building = some .refusedValue := by decide +kernel
theorem test_write_zone_clamps :
    (status (got (exec (.writeZone .building 1 [0, 5, 1500, 50, 150, 200, 20, 50, 80, 0, 50, 3, 10, 90]) State.reset)) .building,
     ((got (exec (.writeZone .building 1 [0, 5, 1500, 50, 150, 200, 20, 50, 80, 0, 50, 3, 10, 90]) State.reset)).zone 0).config.qn)
    = (some .doneClamped, 10) := by decide +kernel
/-- R143, R146, R148: a head that becomes fitted is polled at once. -/
theorem test_write_head_fits_the_head :
    (got (exec (.writeHead .building 7 [1, 3, 2]) State.reset)).line.inFlight = some ⟨.head 6, none, false⟩ := by decide +kernel
/-- R76, R78, R148: a fan that becomes fitted is offered to its drive. -/
theorem test_write_fan_offers :
    ((got (exec (.writeFan .building 2 [1, 400, 550, 25, 1, 30, 60, 15]) State.reset)).line.inFlight,
     (got (exec (.writeFan .building 2 [1, 400, 550, 25, 1, 30, 60, 15]) State.reset)).duty)
    = (some ⟨.drive 1, some (.offer 1), false⟩, [1]) := by decide +kernel
theorem test_budget_of_0_is_1 : (got (exec (.writeNormalBudget .building 0 [0]) State.reset)).alloc.normal = 1 := by
  decide +kernel
/-- R32: the building port may not write a SMOKE bank. -/
theorem test_write_plan_of_a_smoke_bank : status (got (exec (.writePlan .building 2 (List.replicate 18 4)) State.reset))
    .building = some .refusedPort := by decide +kernel
theorem test_write_plan_stores : ((got (exec (.writePlan .alarm 2 (List.replicate 16 0 ++ [3, 60])) State.reset)).bank 2) =
    { kind := .smoke, roles := Vector.replicate 16 (some .extract), cls := 2, purge := 60 } := by decide +kernel
/-- R52: a SMOKE bank may not be the base plan. -/
theorem test_select_base_plan_of_smoke : status (got (exec (.selectBasePlan .building 3 []) State.reset)) .building =
    some .refusedValue := by decide +kernel
theorem test_closure_isolates : ((got (exec (.setZoneClosure .building 12 [0]) quiet)).role 11) = .isolate := by decide +kernel
theorem test_boost_lifts_the_demand : ((got (exec (.setBoost .building 1 [60, 5]) quiet)).zone 0).demand = 60 := by
  decide +kernel
theorem test_service_out : ((got (exec (.setFanService .building 1 [1]) quiet)).fan 0).config.service = .outOfService := by
  decide +kernel
/-- R80, R147, R150: an OFFER still queued as the hold begins stays in its place while the STOP behind it is sent, and one that
times out in the hold is re-queued and not sent. -/
theorem test_no_offer_in_the_hold :
    (let s := (got (exec (.reenrolFan .building 1 []) (quiet.modLine fun l => { l with queue := [.offer 0, .stop 1] }))).line
    (s.queue, s.inFlight.bind Exchange.order) = ([.offer 0], some (.stop 1))) ∧
    (let s := (got (exec .replyTimeout (exchanging (quiet.modFan 0 fun _ => enrolled 1 .enrolHold) (.drive 0)
      (some (.offer 0))))).line
    (s.queue, s.inFlight.bind Exchange.order) = ([.offer 0], none)) := by decide +kernel
theorem test_reenrol_holds : ((got (exec (.reenrolFan .building 1 []) quiet)).fan 0).state = .enrolHold := by decide +kernel
/-- R88: a TRIPPED fan without a fault code is READY again. -/
theorem test_reset_fan : ((got (exec (.resetFan .building 1 []) (quiet.modFan 0 fun _ => enrolled 1 .tripped))).fan 0).state =
    .ready := by decide +kernel
theorem test_clear_counts :
    ((got (exec (.clearCounts .building 0 []) (quiet.modFan 0 fun f => { f with trips := 9 }))).fan 0).trips = 0 := by
  decide +kernel
theorem test_factory_clear_unfits : ((got (exec (.factoryClear .building 0 []) quiet)).fan 0).state = .absent := by
  decide +kernel

/-! ### Requests of the alarm port and the override port -/

/-- Worked case 2: the fire brings in plan 2, and three fans are called for at 89 %. -/
theorem test_fire_alarm_on_standby : let t := got (exec (.fireAlarm .alarm 3 []) quiet)
    (t.plan.level, t.plan.current, t.alloc.record.runSet, t.alloc.record.speed, t.alloc.record.delivered,
      t.alloc.record.flags.capped) = (.fire, 2, [0, 1, 2], 89, 1068, true) := by decide +kernel
/-- Worked case 2: the commands of zones 1 to 3. -/
theorem test_fire_alarm_commands : let r := (got (exec (.fireAlarm .alarm 3 []) quiet)).alloc.record
    (r.zones[0], r.zones[1], r.zones[2]) =
      (some ⟨0, 0, 0, .open_⟩, some ⟨0, 0, 0, .closed⟩, some ⟨1500, 1068, 100, .open_⟩) := by decide +kernel
theorem test_fire_reset_starts_the_purge : (got (exec (.fireReset .alarm 0 []) burning)).plan.purge = some 600 := by
  decide +kernel
theorem test_supply_state : (got (exec (.supplyState .alarm 0 [0]) quiet)).alloc.supply = .mains := by decide +kernel
/-- R35: plan 0 is NORMAL and may not be in the map. -/
theorem test_plan_map_of_a_normal_plan : status (got (exec (.writePlanMap .alarm 0 (List.replicate 16 0)) quiet)) .alarm =
    some .refusedValue := by decide +kernel
theorem test_standby_budget_is_clamped : ((got (exec (.writeStandbyBudget .alarm 0 [65535]) burning)).alloc.standby) = 60000 := by
  decide +kernel
/-- R34: plan 2 is in the map and stays SMOKE. -/
theorem test_plan_kind_of_a_mapped_plan : status (got (exec (.setPlanKind .alarm 2 [0]) (quiet.modPlan fun c =>
    { c with banks := State.reset.plan.banks }))) .alarm = some .refusedState := by decide +kernel
theorem test_take_control : (got (exec (.takeControl .override 0 []) burning)).resolver.control = .inControl := by decide +kernel
/-- R156: after a valid frame the decoder discards until the line is quiet. -/
theorem test_a_request_ends_in_a_discard : (got (exec (.takeControl .override 0 []) burning)).ports.override.decoder =
    .discarding := by decide +kernel
/-- R62: at MANUAL with no fire the incident ends. -/
theorem test_give_control_at_manual : let t := got (exec (.giveControl .override 0 []) manual)
    (t.plan.level, t.plan.current, t.resolver.control) = (.none, 0, .notInControl) := by decide +kernel
theorem test_override_ranks_first : let t := got (exec (.setZoneOverride .override 2 [0]) (inControl burning))
    (t.role 1, t.role 2) = (.extract, .extract) := by decide +kernel
theorem test_block_takes_a_fan_out :
    (got (exec (.setFanBlock .override 1 [0]) (inControl { pullOut with alloc := { pullOut.alloc with due := false } }))).alloc.record.runSet
      = [1, 2, 3] := by decide +kernel
theorem test_select_plan : (got (exec (.selectPlan .override 2 []) (inControl quiet))).plan.level = .manual := by decide +kernel
theorem test_return_to_automatic : (got (exec (.returnToAutomatic .override 0 []) manual)).plan.level = .none := by
  decide +kernel

/-! ### Field line -/

/-- R11, R17: 75 ppm gives a ramp of 25, which zone 1 follows. -/
theorem test_head_reply : let s := exchanging (quiet.modHead 0 fun h => { h with config := ⟨true, 0, .co⟩ }) (.head 0) none
    let q := (got (exec (.headReply 1 1 75 9) s)).zone 0
    (q.co.value, q.no2.value, q.co.ramp, q.target, q.demand) = (some 75, none, 25, 25, 25) := by decide +kernel
theorem test_status_reply_at_speed :
    ((got (exec (.statusReply 65 2 63 0) (exchanging (pullOut.modFan 0 fun _ => { enrolled 1 .starting with timer := some 9 })
      (.drive 0) none))).fan 0).state = .running := by decide +kernel
/-- R79: class 2 on a drive of class 1 resolves to 1, and 35 % is above the stored 25 %. -/
theorem test_ability_reply :
    let enrolling := State.reset.modFan 0 fun _ => { config := { fitted := true, cls := 2 }, state := .enrolling }
    let f := (got (exec (.abilityReply 65 0 0 0 0 35 1) (exchanging enrolling (.drive 0) (some (.offer 0))))).fan 0
    (f.state, f.cls, f.minSpeed) = (.ready, some 1, some 35) := by decide +kernel
/-- R98, R106: a damper commanded to 0 that reports 3 settles and clears its entry. -/
theorem test_extract_reply :
    let t := got (exec (.extractReply 97 3 0) (exchanging (withAlarms quiet [entry 1 (extractKey 0) .active] 2) (.extract 0) none))
    ((t.extractOf 0).state, t.alarms.entries.map AlarmEntry.state) = (.settled, [.cleared]) := by decide +kernel
theorem test_make_up_reply : ((got (exec (.makeUpReply 113 0 1 0) (exchanging quiet (.makeUp 0) none))).makeUpOf 0).state = .closed := by
  decide +kernel
theorem test_both_switches_fault :
    ((got (exec (.makeUpReply 113 1 1 0) (exchanging quiet (.makeUp 0) none))).makeUpOf 0).state = .fault := by decide +kernel
theorem test_field_frame_discarded : (got (exec (.fieldFrameDiscarded .badCheck) (exchanging quiet (.makeUp 0) none))) =
    exchanging quiet (.makeUp 0) none := rfl
theorem test_third_miss_loses_the_drive :
    let s := State.modLine (exchanging pullOut (.drive 0) none) fun l => l.setLink (.drive 0) ⟨2, false⟩
    ((got (exec .replyTimeout s)).fan 0).state = .lost := by decide +kernel

/-! ### Timers and resets -/

/-- R20: from 100 toward 60 the demand falls by 5. -/
theorem test_fall_timer : ((got (exec (.fallTimerExpiry 2) (pullOut.modZone 2 fun q => { q with target := 60, fall := some 1 }))).zone
    2).demand = 95 := by decide +kernel
theorem test_boost_expiry : ((got (exec (.boostExpiry 0) (quiet.modZone 0 fun q =>
    { q with boost := some ⟨60, 1⟩, target := 60, demand := 60 }))).zone 0).fall = some 10 := by decide +kernel
theorem test_purge_expiry : (got (exec .purgeTimerExpiry (burning.modPlan fun c => { c with fireSet := 0, purge := some 1 }))).plan.level
    = .none := by decide +kernel
theorem test_start_limit : ((got (exec (.startLimitExpiry 0) (pullOut.modFan 0 fun _ =>
    { enrolled 1 .starting with timer := some 1 }))).alarms.entries.map AlarmEntry.detail) = [some .startFail] := by decide +kernel
theorem test_stop_limit : ((got (exec (.stopLimitExpiry 0) (pullOut.modFan 0 fun _ =>
    { enrolled 1 .stopping with timer := some 1 }))).fan 0).state = .tripped := by decide +kernel
theorem test_restart_hold : ((got (exec (.restartHoldExpiry 0) (quiet.modFan 0 fun _ =>
    { enrolled 1 .restartHold with timer := some 1 }))).fan 0).state = .ready := by decide +kernel
theorem test_enrol_hold : ((got (exec (.enrolHoldExpiry 0) (quiet.modFan 0 fun _ =>
    { enrolled 1 .enrolHold with timer := some 1 }))).fan 0).ability = none := by decide +kernel
theorem test_grace : let f := (got (exec .graceTimerExpiry { pullOut.modFan 0 (fun _ => enrolled 1 .running) with grace := some 1 })).fan 0
    (f.state, f.timer, f.startPending) = (.stopping, some 60, true) := by decide +kernel
theorem test_extract_travel : ((got (exec (.extractTravelTimerExpiry 0) { quiet with
    extract := upd quiet.extract 0 fun d => { d with timer := some 1 } })).extractOf 0).state = .fault := by decide +kernel
theorem test_make_up_travel : (got (exec (.makeUpTravelTimerExpiry 0) { quiet with
    makeUp := upd quiet.makeUp 0 fun m => { m with timer := some 1 } })).alarms.entries.map AlarmEntry.key = [makeUpKey 0] := by
  decide +kernel
/-- Worked case 1: the first pass after the window takes fans 1 to 3 at 63 %, drawing 414 and delivering 756. -/
theorem test_window_end_on_mains :
    let r := (got (exec .startUpWindowEnd { pullOut with alloc := { pullOut.alloc with window := some 1 } })).alloc.record
    (r.runSet, r.speed, r.power, r.delivered, r.required) = ([0, 1, 2], 63, 414, 756, 750) := by decide +kernel
/-- Worked case 1 at 690: two fans at 79 %, drawing 544. -/
theorem test_stage_down_expiry : let s := { pullOut.modZone 2 (fitZone 300 60) with
      alloc := { pullOut.alloc with stageDown := some 1, record := { runSet := [0, 1, 2], speed := 53, held := true } } }
    let r := (got (exec .stageDownTimerExpiry s)).alloc.record
    (r.runSet, r.speed, r.power, r.delivered, r.held) = ([0, 1], 79, 544, 632, false) := by decide +kernel
theorem test_silence : let t := got (exec (.silenceTimerExpiry .building) State.reset)
    (t.ports.building.link, t.alarms.entries.map AlarmEntry.key) = (.lost, [.linkLost .building]) := by decide +kernel
theorem test_hold_off_expiry : (got (exec (.holdOffExpiry .alarm) (State.reset.modPort .alarm PortState.holdLine))).ports.alarm.line
    = true := by decide +kernel
theorem test_power_on_with_a_sound_store : got (exec (.powerOn .clean) State.reset) = State.reset := by decide +kernel
/-- R176, the worked example of Configuration Store: a damaged plan group is defaulted and reported. -/
theorem test_reset_line_with_a_damaged_group : let t := got (exec (.resetLine (.damaged [3])) State.reset)
    (t.alarms.entries.map AlarmEntry.key, t.plan.map[2], t.store.plans.intact plansImage) = ([.storeFault 3], none, true) := by
  decide +kernel
theorem test_tick : (got (exec .partTimeTick State.reset)).partTime = 1 := by decide +kernel
/-- R2: the last value holds. -/
theorem test_tick_holds : (got (exec .partTimeTick { State.reset with partTime := 4294967295 })).partTime = 4294967295 := by
  decide +kernel

/-! ### Witnesses: a state that meets every invariant -/

/-- The quiet depot on standby with its dampers at rest, its store as its blocks, its line at work and a PING waiting. -/
def sound : State :=
  let s := { quiet with
    extract := Vector.ofFn fun z => if z.val < 3 then { state := .settled, feedback := some 0 } else {}
    makeUp := Vector.ofFn fun z => if z.val < 3 then { state := .closed } else {}
    store := { quiet.store with
      zones := sealWith zonesImage (quiet.zones.map Zone.config), fans := sealWith fansImage (quiet.fans.map Fan.config),
      plans := sealWith plansImage ⟨quiet.plan.banks, quiet.plan.map⟩, budgets := sealWith budgetsImage ⟨800, 1200⟩ } }
  { (s.rebuildPolls).chooseExchange with pending := [.ping .building 0 []] }

theorem sound_steps : ∃ t, step sound = .next t := ⟨_, rfl⟩
/-- The laws of a list, checked one by one. -/
theorem sound_list (a : AlarmList)
    (h : (∀ e ∈ a.entries, (e.state = .cleared ↔ e.cleared.isSome = true) ∧ ¬(e.state = .cleared ∧ e.ackBy.isSome = true) ∧
        (1 ≤ e.count ∧ e.count ≤ Config.lastRaise) ∧ 1 ≤ e.sequence ∧ e.sequence ≤ Config.lastSequence) ∧
      a.entries.length ≤ 32 ∧ (a.entries.Pairwise fun e f => e.key ≠ f.key) ∧
      (a.entries.Pairwise fun e f => e.sequence ≠ f.sequence) ∧ (1 ≤ a.counter ∧ a.counter ≤ Config.lastSequence) ∧
      (∀ e ∈ a.entries, e.sequence ≠ a.counter) ∧ ∀ p ∈ everyPort, a.cursors.get p ≤ a.entries.length) : a.Sound where
  entries := fun e m => ⟨(h.1 e m).1, (h.1 e m).2.1, (h.1 e m).2.2.1, (h.1 e m).2.2.2⟩
  length := h.2.1
  keys := h.2.2.1
  sequences := h.2.2.2.1
  counter := h.2.2.2.2.1
  free := h.2.2.2.2.2.1
  cursors := fun p => h.2.2.2.2.2.2 p (by cases p <;> decide)
theorem sound_alarms : listed.alarms.Sound := sound_list _ (by decide +kernel)
theorem sound_no_alarms : sound.alarms.Sound := sound_list _ (by decide +kernel)
theorem sound_duty : sound.DutySound where
  once := by decide +kernel
  fitted := by decide +kernel
  runSet := by decide +kernel
theorem sound_fans : sound.FansSound := fun n => by
  have h : ∀ n, ((sound.fan n).state = .absent ↔ (sound.fan n).config.fitted = false) ∧
      ((sound.fan n).timer.isSome = (sound.fan n).state.timed) ∧ ((sound.fan n).state.enrolled = true →
        (sound.fan n).ability.isSome = true ∧ (sound.fan n).mode.isSome = true ∧ (sound.fan n).cls.isSome = true ∧
          (sound.fan n).minSpeed.isSome = true) := by decide +kernel
  exact ⟨(h n).1, (h n).2.1, (h n).2.2⟩
theorem sound_line : sound.LineSound where
  polls := by decide +kernel
  position := fun _ => ⟨.drive 1, by decide +kernel, by decide +kernel⟩
  once := by decide +kernel
  queued := by decide +kernel
  row := by decide +kernel
  links := by
    have h : ∀ d ∈ allDevices, (sound.link d).misses ≤ Config.missLimit ∧
      ((sound.link d).lost = true ↔ (sound.link d).misses = Config.missLimit) := by decide +kernel
    intro d
    exact h d (by cases d <;> simp [allDevices])
  flight := by
    intro x h _
    have e : sound.line.inFlight = some ⟨.drive 0, none, false⟩ := by decide +kernel
    rw [e] at h
    cases h
    decide +kernel
  idle := fun h => absurd h (by decide +kernel)
theorem sound_dampers : sound.DampersSound where
  extract := by decide +kernel
  makeUp := by decide +kernel
  path := by unfold State.PathSound State.ProvesPath; decide +kernel
  indications := by decide +kernel
theorem sound_incident : sound.IncidentSound where
  mapped := by decide +kernel
  saved := by decide +kernel
  normal := by decide +kernel
  quiet := by decide +kernel
  fire := by decide +kernel
  purge := by decide +kernel
  cause := fun h => absurd (by decide +kernel) h
  manual := by decide +kernel
  control := by decide +kernel
  fitted := by decide +kernel
theorem sound_store : sound.StoreSound where
  zones := by decide +kernel
  heads := by decide +kernel
  fans := by decide +kernel
  plans := by decide +kernel
  budgets := by decide +kernel
  base := by decide +kernel
theorem sound_roles : sound.RolesSound where
  roles := by decide +kernel
  smoke := by decide +kernel
  cls := by decide +kernel
theorem sound_fires : sound.FiresListed := by unfold State.FiresListed; decide +kernel
/-- The sound depot has no head fitted: no gas has a value. -/
theorem sound_gas (z : ZoneId) (g : Gas) : sound.GasSound z g ((sound.zone z).gas g) := by
  have unfitted : ∀ h, (sound.head h).config.fitted = false := by decide +kernel
  have row : (sound.zone z).gas g = {} := by cases g <;> revert z <;> decide +kernel
  have none_ : ∀ h, ¬sound.Senses h z g := fun h m => by simpa [unfitted h] using m.1
  rw [row]
  exact ⟨fun h m => absurd m (none_ h), ⟨fun f => (nomatch f), fun ⟨_, h, m, _⟩ => absurd m (none_ h)⟩, rfl⟩
theorem sound_zones : sound.ZonesSound where
  gas := sound_gas
  targets := by decide +kernel
  zones := fun z => by
    have h : ∀ z, ((sound.zone z).config.floor ≤ 100 ∧ (sound.zone z).config.fallback ≤ 100) ∧
        ((sound.zone z).co.ramp ≤ 100 ∧ (sound.zone z).no2.ramp ≤ 100) ∧ (sound.zone z).boostPercent ≤ 100 ∧
        (sound.zone z).config.floor ≤ (sound.zone z).target ∧ (sound.zone z).target ≤ (sound.zone z).demand ∧
        (sound.zone z).demand ≤ 100 ∧ ((sound.zone z).fall.isSome = true ↔ (sound.zone z).target < (sound.zone z).demand) := by
      decide +kernel
    exact ⟨(h z).1, (h z).2.1, (h z).2.2.1, (h z).2.2.2.1, (h z).2.2.2.2.1, (h z).2.2.2.2.2.1, (h z).2.2.2.2.2.2⟩
  stored := by unfold ZoneConfig.percents; decide +kernel
  heads := by intro h g; cases g <;> revert h <;> decide +kernel
theorem sound_ports : sound.PortsSound := fun p => ⟨by cases p <;> decide +kernel, by cases p <;> decide +kernel⟩
theorem sound_power : sound.PowerSound := Or.inl (by decide +kernel)

theorem witness_StepRunsTheFrontCommand : State.reset.pending = [] := rfl
theorem witness_AlarmListStaysSound : listed.alarms.Sound ∧ ∃ t, step { listed with pending := [.ackAlarm .alarm 0 [0, 3]] } = .next t :=
  ⟨sound_alarms, _, rfl⟩
/-- The FIRE entry of zone 1 and then the entries of n heads, the first of them acknowledged. -/
def crowd (n : Nat) : List AlarmEntry :=
  entry 1 (.fire 0) .active :: ((List.finRange 48).take n).map fun h =>
    { entry (h.val + 2) (.headFault h) .active with ackBy := if h = 0 then some .alarm else none }
/-- A raise in place, one into a list with room and, of FIRE and of another kind, one into a full list; a clear of an ACTIVE
entry, acknowledged and not, and of no ACTIVE entry. -/
theorem witness_AlarmListStaysSound_raises :
    let full := withAlarms State.reset (crowd 31) 33
    full.alarms.Sound ∧ full.alarms.entries.length = 32 ∧ (AlarmKey.fire 1).isFire = true ∧
    (full.alarms.has (.fire 1) = false ∧ full.alarms.has (.linkLost .alarm) = false ∧
      (AlarmKey.linkLost .alarm).isFire = false) ∧
    full.alarms.entries = [entry 1 (.fire 0) .active] ++ { entry 2 (.headFault 0) .active with ackBy := some .alarm } ::
      (crowd 31).drop 2 ∧
    full.alarms.entries = (crowd 31).take 2 ++ entry 3 (.headFault 1) .active :: (crowd 31).drop 3 ∧
    listed.alarms.entries.length < 32 ∧ listed.alarms.has (.fire 1) = false ∧ listed.alarms.hasActive (.linkLost .building) = false :=
  ⟨sound_list _ (by decide +kernel), by decide +kernel, by decide +kernel, by decide +kernel, by decide +kernel,
    by decide +kernel, by decide +kernel, by decide +kernel, by decide +kernel⟩
theorem witness_IncidentRolesAndStoreStaySound :
    sound.IncidentSound ∧ sound.StoreSound ∧ sound.RolesSound ∧ ∃ t, step sound = .next t :=
  ⟨sound_incident, sound_store, sound_roles, sound_steps⟩
theorem witness_FireSetStaysListed :
    sound.alarms.Sound ∧ sound.IncidentSound ∧ sound.FiresListed ∧ ∃ t, step sound = .next t :=
  ⟨sound_no_alarms, sound_incident, sound_fires, sound_steps⟩
theorem witness_FanSequencerStaysSound : sound.DutySound ∧ sound.FansSound ∧ ∃ t, step sound = .next t :=
  ⟨sound_duty, sound_fans, sound_steps⟩
/-- R80: the sound depot with fan 1 in ENROL_HOLD and an OFFER, sent before the hold, in flight. -/
def held : State :=
  exchanging (sound.modFan 0 fun _ => { enrolled 1 .enrolHold with timer := some 10 }) (.drive 0) (some (.offer 0))
theorem held_line : held.LineSound where
  polls := by decide +kernel
  position := fun _ => ⟨.drive 1, by decide +kernel, by decide +kernel⟩
  once := by decide +kernel
  queued := by decide +kernel
  row := by decide +kernel
  links := sound_line.links
  flight := by
    intro x h _
    cases (Option.some.inj h : _ = x)
    decide +kernel
  idle := fun h => nomatch h
theorem held_dampers : held.DampersSound := ⟨sound_dampers.extract, sound_dampers.makeUp, sound_dampers.path, sound_dampers.indications⟩
theorem witness_LineAndDampersStaySound_hold : held.LineSound ∧ held.DampersSound ∧ ∃ t, step held = .next t ∧
    (t.fan 0).state = .enrolHold ∧ t.line.inFlight = some ⟨.drive 0, some (.offer 0), false⟩ :=
  ⟨held_line, held_dampers, _, rfl, by decide +kernel, by decide +kernel⟩
theorem witness_LineAndDampersStaySound : sound.LineSound ∧ sound.DampersSound ∧ ∃ t, step sound = .next t :=
  ⟨sound_line, sound_dampers, sound_steps⟩
theorem witness_ZonesAndPortsStaySound : sound.ZonesSound ∧ sound.PortsSound ∧ ∃ t, step sound = .next t :=
  ⟨sound_zones, sound_ports, sound_steps⟩
theorem witness_PowerStaysWithinTheBudget :
    sound.DutySound ∧ sound.alloc.due = false ∧ sound.PowerSound ∧ ∃ t, step sound = .next t :=
  ⟨sound_duty, by decide +kernel, sound_power, sound_steps⟩
theorem witness_EveryChainOfPassesEnds : sound.alloc.due = false ∧ (∃ t, step sound = .next t) ∧ sound.trigger.alloc.due = true :=
  ⟨by decide +kernel, sound_steps, rfl⟩
/-- The sound depot with bank 3 of NORMAL kind as its base plan. -/
def rebased : State :=
  let banks := upd sound.plan.banks 3 fun _ => { kind := .normal, purge := 0 }
  { sound with
    plan := { sound.plan with banks := banks, base := 3, saved := 3, current := 3 }
    store := { sound.store with
      plans := sealWith plansImage ⟨banks, sound.plan.map⟩, base := sealWith baseImage ⟨3, sound.resolver.closures⟩ } }
theorem rebased_incident : rebased.IncidentSound where
  mapped := by decide +kernel
  saved := by decide +kernel
  normal := by decide +kernel
  quiet := by decide +kernel
  fire := by decide +kernel
  purge := by decide +kernel
  cause := fun h => absurd (by decide +kernel) h
  manual := by decide +kernel
  control := by decide +kernel
  fitted := by decide +kernel
theorem rebased_store : rebased.StoreSound where
  zones := by decide +kernel
  heads := by decide +kernel
  fans := by decide +kernel
  plans := by decide +kernel
  budgets := by decide +kernel
  base := by decide +kernel
/-- With group 4 damaged the loaded base plan 3 is a SMOKE bank of the defaults. -/
theorem witness_ResetLoadsTheStore : sound.StoreSound ∧ sound.IncidentSound ∧ (3 : GroupId) ∈ [(3 : GroupId)] ∧
    (0 : GroupId) ≤ 5 ∧ rebased.StoreSound ∧ rebased.IncidentSound ∧ rebased.plan.base = 3 ∧
    (defaultPlans.banks[3]).kind = .smoke ∧ (defaultPlans.banks[0]).kind = .normal :=
  ⟨sound_store, sound_incident, by decide, by decide, rebased_store, rebased_incident, by decide +kernel, by decide +kernel,
    by decide +kernel⟩

/-! ### Witnesses: frames and requests -/

theorem witness_RequestFramesReadBack :
    (WellFormed (.writePlan .alarm 2 (List.replicate 18 4)), (requestBytes (.writePlan .alarm 2 (List.replicate 18 4))).isSome,
     WellFormed (.unknownRequest .override 0xFF 9 0 []), (requestBytes (.unknownRequest .override 0xFF 9 0 [])).isSome) =
    (true, true, true, true) := by decide +kernel
theorem witness_FieldRepliesReadBackAndWrongChecksDiscard :
    (WellFormed (.headReply 48 1 75 35) = true ∧ (replyBytes (.headReply 48 1 75 35)).isSome = true) ∧
    ([] : List Word).length ≤ 32 ∧ (0 : Word) ≠ crc16 [requestSync, 1, 0, 0, 0] ∧
    ([0] : List Byte).length ≤ 255 ∧ (0 : Word) ≠ crc16 [97, 4, 1, 0] := by decide +kernel
theorem witness_waiting : ∀ p : Port, (State.reset.port p).decoder = .waiting ∧ (quiet.port p).decoder = .waiting ∧
    (burning.port p).decoder = .waiting ∧ (manual.port p).decoder = .waiting := by intro p; cases p <;> decide +kernel
theorem witness_EveryValidRequestIsAnswered : (State.reset.port .alarm).decoder = .waiting ∧
    (List.replicate 32 (0 : Word)).length ≤ 32 := by decide +kernel
theorem witness_DiscardedFramesChangeOnlyTheDecoder :
    ((State.reset.discardFrame .alarm).port .alarm).decoder ≠ .waiting ∧ ([] : List Word).length ≤ 32 := by decide +kernel
theorem witness_GeneralChecksRefuseInOrder : (State.reset.port .building).decoder = .waiting ∧
    (namesRequest 0x26 0 = false ∧ namesRequest 0x02 14 = false) ∧
    (rowFireAlarm ∈ catalogue ∧ rowFireAlarm.code = 0x20 ∧ rowFireAlarm.ports.contains .building = false) ∧
    rowPing ∈ catalogue ∧ rowPing.code = 1 ∧ namesRequest 1 0 = true ∧ rowPing.ports.contains .building = true ∧
    ([0] : List Word).length ≠ rowPing.words := by decide +kernel
theorem witness_PingAndAlarmPages : (State.reset.port .override).decoder = .waiting := by decide +kernel
theorem witness_ReadReturnsWholeRecords : (sound.port .building).decoder = .waiting ∧ (readObject 3).isSome = true ∧
    sound.DutySound ∧ ((13 : Word) ≠ 0 ∧ (1 : Nat) ≤ (36 : Byte).toNat ∧ (36 : Byte).toNat + (13 : Word).toNat ≤ 48 + 1 ∧
      (13 : Word).toNat * 7 ≤ 96) ∧ ¬((14 : Word).toNat * 7 ≤ 96) :=
  ⟨by decide +kernel, by decide +kernel, sound_duty, by decide, by decide⟩
theorem witness_NoticesAreReadAndMasked : (State.reset.port .building).decoder = .waiting := by decide +kernel
theorem witness_AcknowledgementAndHoldOff : (State.reset.port .alarm).decoder = .waiting ∧
    ((State.reset.modPort .alarm PortState.holdLine).port .alarm).holdOff = true ∧
    (State.reset.port .alarm).holdOff = false := by decide +kernel
theorem witness_AckAlarmSettlesOneEntry : (listed.port .alarm).decoder = .waiting ∧ listed.alarms.Sound ∧
    (∀ e ∈ (listed.frameTaken .alarm).alarms.entries, ¬e.sequence = (0 : Word).toNat * 65536 + (9 : Word).toNat) ∧
    (listed.frameTaken .alarm).alarms.entries = listed.alarms.entries.take 2 ++ entry 3 (.linkLost .building) .cleared ::
      listed.alarms.entries.drop 3 :=
  ⟨by decide +kernel, sound_alarms, by decide +kernel, by decide +kernel⟩
theorem witness_BuildingWritesAreProtected : (burning.port .building).decoder = .waiting ∧ burning.plan.level ≠ .none ∧
    zoneOf 16 = some 15 ∧ headOf 48 = some 47 ∧ fanOf 8 = some 7 ∧ planOf 7 = some 7 ∧ planOf 0 = some 0 ∧
    (burning.bank 0).kind = .normal ∧ zoneOf 3 = some 2 ∧ (burning.zone 2).config.fitted = true ∧
    ¬(burning.role 2 = .gas ∧ floorOnly (burning.zone 2).config (List.replicate 14 0) = true) ∧
    ({ burning with resolver := { burning.resolver with roles := burning.rolesNow } }.role 2) ≠ .gas := by decide +kernel
theorem witness_IndexThatNamesNothingIsRefused : (∀ p, (State.reset.port p).decoder = .waiting) ∧
    16 < (17 : Byte).toNat ∧ 48 < (49 : Byte).toNat ∧ 8 < (9 : Byte).toNat ∧ 7 < (8 : Byte).toNat ∧
    (List.replicate 14 (0 : Word)).length = 14 :=
  ⟨fun p => (witness_waiting p).1, by decide, by decide, by decide, by decide, by decide⟩
theorem witness_ValueStateAndLevelRefusals : (∀ p, (quiet.port p).decoder = .waiting) ∧
    quiet.resolver.control = .notInControl ∧ (inControl burning).resolver.control = .inControl ∧
    (inControl burning).plan.level ≠ .manual ∧ burning.plan.level ≠ .none ∧ zoneOf 1 = some 0 ∧ fanOf 1 = some 0 ∧
    planOf 0 = some 0 :=
  ⟨fun p => (witness_waiting p).2.1, by decide +kernel, by decide +kernel, by decide +kernel, by decide +kernel, by decide,
    by decide, by decide⟩
/-- The operands that a rule does not allow, at the nearest value, and the states that forbid a change. -/
theorem witness_ValueStateAndLevelRefusals_operands : quiet.plan.level = .none ∧ planOf 2 = some 2 ∧
    (quiet.bank 2).kind = .smoke ∧ zoneOf 16 = some 15 ∧ (quiet.zone 15).config.fitted = false ∧ 1 < dataNat [2] 0 ∧
    4 < dataNat [5] 0 ∧ headOf 48 = some 47 ∧ dataNat [1, 0, 0] 1 = 0 ∧ 16 < dataNat [1, 17, 0] 1 ∧ 2 < dataNat [1, 1, 3] 2 ∧
    ¬(clampTo 0 1000 (dataNat [1, 600, 1500, 1200, 1100, 1000] 3) < clampTo 0 1000 (dataNat [1, 600, 1500, 1200, 1100, 1000] 4)) ∧
    (quiet.fan 0).config.fitted = true ∧ ((quiet.modFan 0 fun _ => enrolled 1 .stopping).fan 0).state = .stopping ∧
    (quiet.bank 0).kind = .normal ∧ dataNat (List.replicate 18 3) 15 ≠ 1 ∧ 4 < dataNat (List.replicate 18 5) 0 ∧
    (7 < dataNat (List.replicate 16 8) 0 ∧ dataNat (List.replicate 16 8) 0 ≠ 0xFFFF) ∧
    dataNat (List.replicate 16 0) 0 = (0 : PlanId).val ∧
    ¬(∀ z : ZoneId, (quiet.bank 2).roles[z.val] = none ∨ (quiet.bank 2).roles[z.val] = some .isolate) ∧
    (∀ z : ZoneId, (State.reset.bank 2).roles[z.val] = none) ∧ quiet.plan.map[2] = some 2 ∧ (0 : PlanId) = quiet.plan.current := by
  decide +kernel

/-! ### Witnesses: configuration and the modes -/

theorem witness_WriteZoneStoresTheRecord : (quiet.port .building).decoder = .waiting ∧ zoneOf 16 = some 15 ∧
    ([1, 600, 1500, 50, 150, 200, 20, 50, 80, 0, 50, 3, 10, 90] : List Word).length = 14 ∧
    dataNat [1, 600, 1500, 50, 150, 200, 20, 50, 80, 0, 50, 3, 10, 90] 0 = (if true then 1 else 0) ∧
    clampTo 0 1000 50 < clampTo 0 1000 150 ∧ clampTo 0 1000 150 ≤ clampTo 0 1000 200 ∧ quiet.plan.level = .none ∧
    ((quiet.zone 0).config.fitted = true ∧ (quiet.zone 15).config.fitted = false) := by decide +kernel
/-- R107, R153: a zone that becomes fitted, and one that ceases to be with its damper in exchange. -/
theorem witness_WriteZoneStoresTheRecord_dampers : let s := exchanging sound (.extract 0) none
    (s.zone 15).config.fitted = false ∧ (s.zone 0).config.fitted = true ∧ s.plan.level = .none ∧ s.alarms.Sound ∧
    s.line.inFlight = some ⟨.extract 0, none, false⟩ :=
  ⟨by decide +kernel, by decide +kernel, by decide +kernel, sound_no_alarms, by decide +kernel⟩
/-- R58, R59, R86, R90: zone 1 EXTRACT by its override is fitted, which begins smoke service with a fan in its restart hold,
and is unfitted, which ends it with a fan turning. -/
theorem witness_WriteZoneStoresTheRecord_smoke :
    let zone := fun f : Word => [f, 600, 1500, 50, 150, 200, 20, 50, 80, 0, 50, 3, 10, 90]
    let s := fun st (smoke : Bool) => (inControl (quiet.modFan 0 fun _ => enrolled 1 st)).modResolver fun r =>
      { r with overrides := upd r.overrides 0 fun _ => some .extract, roles := upd r.roles 0 fun _ => .extract, smoke := smoke }
    let before := (s .restartHold false).modZone 0 fun q => { q with config := { q.config with fitted := false } }
    let after := s .running true
    (before.plan.level = .none ∧ (before.zone 0).config.fitted = false ∧ (before.fan 0).state = .restartHold ∧
      before.resolver.smoke = false ∧ (got (exec (.writeZone .building 1 (zone 1)) before)).resolver.smoke = true) ∧
    (after.plan.level = .none ∧ (after.zone 0).config.fitted = true ∧ after.AnyTurning ∧ after.pathProven = false ∧
      after.resolver.smoke = true ∧ (got (exec (.writeZone .building 1 (zone 0)) after)).resolver.smoke = false) := by
  unfold State.AnyTurning; decide +kernel
/-- R68: the clause of an incident: zone 1 GAS and only its floor written. -/
theorem witness_WriteZoneStoresTheRecord_floor : burning.role 0 = .gas ∧
    ({ (⟨true, 600, 1500, 50, 150, 200, 20, 50, 80, 20, 50, 3, 10, 90⟩ : ZoneConfig) with
      floor := (burning.zone 0).config.floor } = (burning.zone 0).config) := by decide +kernel
/-- R8: a zone with gas-high active that ceases to be fitted. -/
theorem witness_WriteZoneStoresTheRecord_unfitted :
    let s := quiet.modZone 0 fun q => { q with co := { q.co with high := true } }
    (s.port .building).decoder = .waiting ∧ s.plan.level = .none ∧ zoneOf 1 = some 0 ∧ (s.zone 0).config.fitted = true ∧
    ((s.zone 0).gas .co).high = true ∧
    dataNat [0, 600, 1500, 50, 150, 200, 20, 50, 80, 0, 50, 3, 10, 90] 0 = (if false then 1 else 0) := by decide +kernel
theorem witness_WriteHeadStoresTheFields : (quiet.port .building).decoder = .waiting ∧ quiet.plan.level = .none ∧
    headOf 48 = some 47 ∧ yesNoOf 0 = some false ∧ headZoneOf 16 = some 15 ∧ carriedOf 2 = some .both ∧
    (quiet.head 47).config = ⟨false, 15, .both⟩ ∧ (quiet.head 0).config ≠ ⟨false, 15, .both⟩ := by decide +kernel
theorem witness_WriteFanStoresTheRecord : (quiet.port .building).decoder = .waiting ∧ quiet.plan.level = .none ∧
    fanOf 8 = some 7 ∧ (List.replicate 8 (0 : Word)).length = 8 ∧ dataNat (List.replicate 8 0) 0 = (if false then 1 else 0) ∧
    ¬((quiet.fan 7).config.fitted = true ∧ false = false ∧ (quiet.fan 7).busy = true) ∧
    (quiet.fan 0).config.fitted = true ∧ (quiet.fan 0).busy = false ∧ (quiet.fan 0).ability = some (.drive .variable 25 1) ∧
    (quiet.fan 0).config.minSpeed ≠ 60 := by decide +kernel
theorem witness_SupplyAndBudgetsAreSet : (quiet.port .building).decoder = .waiting ∧ quiet.plan.level = .none ∧
    (burning.port .alarm).decoder = .waiting ∧ supplyOf 1 = some .standby := by decide +kernel
theorem witness_WritePlanReplacesTheBank : (quiet.port .building).decoder = .waiting ∧ quiet.plan.level = .none ∧
    planOf 0 = some 0 ∧ (quiet.bank 0).kind = .normal ∧ (List.replicate 18 (4 : Word)).length = 18 ∧
    (∀ z : ZoneId, roleOf (dataWord (List.replicate 18 4) z.val) = some (Vector.replicate 16 (none : Option Role))[z.val]) ∧
    ∀ z : ZoneId, (Vector.replicate 16 (none : Option Role))[z.val] = none := by decide +kernel
theorem witness_SelectBasePlanSetsThePlans : (burning.port .building).decoder = .waiting ∧ planOf 0 = some 0 ∧
    (burning.bank 0).kind = .normal := by decide +kernel
theorem witness_ClosureAndServiceAreStored : (quiet.port .building).decoder = .waiting ∧ quiet.plan.level = .none ∧
    zoneOf 16 = some 15 ∧ closureOf 0 = some true ∧ closureOf 1 = some false ∧ fanOf 8 = some 7 ∧
    serviceOf 1 = some .outOfService ∧ quiet.resolver.closures[15] = false := by decide +kernel
theorem witness_PlanMapAndKindAreStored : (quiet.port .alarm).decoder = .waiting ∧ quiet.plan.level = .none ∧
    (∀ z : ZoneId, mapEntryOf (dataWord (List.replicate 16 2) z.val) = some (Vector.replicate 16 (some (2 : PlanId)))[z.val]) ∧
    (quiet.bank 2).kind = .smoke ∧ planOf 7 = some 7 ∧ kindOf 0 = some .normal ∧ kindOf 1 = some .smoke ∧
    (∀ z : ZoneId, (quiet.bank 7).roles[z.val] = none ∧ quiet.plan.map[z.val] ≠ some 7) ∧
    (7 ≠ quiet.plan.current ∧ 7 ≠ quiet.plan.saved) := by decide +kernel
theorem witness_CountsAreClearedAndDefaultsRestored : (quiet.port .building).decoder = .waiting ∧ quiet.plan.level = .none := by
  decide +kernel
theorem witness_SetBoostReachesItsZones : (quiet.port .building).decoder = .waiting ∧ zoneOf 1 = some 0 ∧
    (quiet.zone 0).config.fitted = true ∧ quiet.plan.level = .none ∧ burning.role 0 = .gas ∧
    (quiet.zone 15).config.fitted = false := by decide +kernel
theorem witness_ReenrolAndResetFanByState : (quiet.port .building).decoder = .waiting ∧ quiet.plan.level = .none ∧
    fanOf 1 = some 0 ∧ (quiet.fan 0).state = .ready ∧
    ((quiet.modFan 0 fun _ => enrolled 1 .running).fan 0).state = .running ∧
    (quiet.fan 7).state ∈ [FanState.absent, .enrolling, .enrolHold, .stopping, .tripped, .lost] := by decide +kernel
theorem witness_ReenrolAndResetFanByState_reset :
    let s := quiet.modFan 0 fun _ => { enrolled 1 .tripped with report := some ⟨.stopped, 0, 0⟩ }
    let u := quiet.modFan 0 fun _ => { enrolled 1 .tripped with reenrolPending := true }
    (s.port .building).decoder = .waiting ∧ fanOf 1 = some 0 ∧ s.plan.level = .none ∧ (s.fan 0).state = .tripped ∧
    (u.fan 0).reenrolPending = true ∧ (quiet.fan 1).state ≠ .tripped ∧ (inControl s).resolver.control = .inControl := by
  decide +kernel
theorem witness_FireAlarmBeginsAnIncident : (quiet.port .alarm).decoder = .waiting ∧ zoneOf 3 = some 2 ∧
    (quiet.zone 2).config.fitted = true ∧ quiet.burning 2 = false ∧ quiet.plan.level = .none ∧
    quiet.plan.current ≠ (quiet.plan.map[2]).getD quiet.plan.current ∧
    quiet.plan.current = (quiet.plan.map[0]).getD quiet.plan.current ∧
    (quiet.frameTaken .alarm).alarms.entries.length < 32 := by decide +kernel
theorem witness_FurtherFireAlarmKeepsThePlan : (burning.port .alarm).decoder = .waiting ∧ zoneOf 1 = some 0 ∧
    (burning.zone 0).config.fitted = true ∧ burning.burning 0 = false ∧ burning.plan.level ≠ .none ∧
    zoneOf 3 = some 2 ∧ (burning.zone 2).config.fitted = true ∧ burning.burning 2 = true ∧ burning.alloc.due = false := by
  decide +kernel
theorem witness_FireResetPurgesAndReturns : (burning.port .alarm).decoder = .waiting ∧ quiet.plan.fireSet = 0 ∧
    burning.plan.fireSet ≠ 0 ∧ burning.plan.level = .fire ∧ 0 < (burning.bank burning.plan.current).purge ∧
    (burning.bank 0).purge = 0 ∧
    ((manual.modPlan fun c => { c with fireSet := 4 }).plan.fireSet ≠ 0 ∧ manual.plan.level = .manual) ∧
    (let s := burning.modPlan fun c => { c with current := 0 }
    s.plan.fireSet ≠ 0 ∧ s.plan.level = .fire ∧ (s.bank s.plan.current).purge = 0 ∧ s.plan.current = s.plan.saved) ∧
    (burning.modPlan fun c => { c with fireSet := 0, purge := some 1 }).plan.purge.isSome = true := by decide +kernel
theorem witness_TakeControlSetsInControl : (quiet.port .override).decoder = .waiting := by decide +kernel
theorem witness_GiveControlReturnsTheDepot : (manual.port .override).decoder = .waiting ∧
    manual.resolver.control = .inControl ∧ manual.plan.level = .manual ∧ manual.plan.fireSet = 0 ∧
    quiet.resolver.control = .notInControl ∧ manual.plan.current ≠ manual.plan.saved ∧
    (manual.modFan 0 fun f => { f with config := { f.config with service := .outOfService } }).AnyOut := by
  unfold State.AnyOut; decide +kernel
theorem witness_OverrideAndBlockAreSet : (manual.port .override).decoder = .waiting ∧ manual.resolver.control = .inControl ∧
    zoneOf 16 = some 15 ∧ roleOf 4 = some none ∧ roleOf 0 = some (some .extract) ∧ fanOf 8 = some 7 ∧ blockOf 0 = some true ∧
    manual.resolver.overrides[15] = none ∧ manual.resolver.blocks[7] ≠ true := by decide +kernel
/-- R86, R90: an override that begins smoke service with a fan in its restart hold, and one that ends it with a fan turning and
no proven path. -/
theorem witness_OverrideAndBlockAreSet_smoke :
    let hold := inControl (quiet.modFan 0 fun _ => enrolled 1 .restartHold)
    let s := (inControl (quiet.modFan 0 fun _ => enrolled 1 .running)).modResolver fun r =>
      { r with overrides := upd r.overrides 0 fun _ => some .extract, roles := upd r.roles 0 fun _ => .extract, smoke := true }
    ((hold.port .override).decoder = .waiting ∧ zoneOf 1 = some 0 ∧ roleOf 0 = some (some .extract) ∧
      (hold.fan 0).state = .restartHold ∧ hold.resolver.smoke = false ∧
      (got (exec (.setZoneOverride .override 1 [0]) hold)).resolver.smoke = true) ∧
    ((s.port .override).decoder = .waiting ∧ roleOf 4 = some none ∧ s.resolver.smoke = true ∧ s.AnyTurning ∧
      s.pathProven = false ∧ (got (exec (.setZoneOverride .override 1 [4]) s)).resolver.smoke = false) := by
  unfold State.AnyTurning; decide +kernel
theorem witness_SelectPlanAndReturnToAutomatic : ((inControl quiet).port .override).decoder = .waiting ∧
    (inControl quiet).resolver.control = .inControl ∧ planOf 7 = some 7 ∧ (inControl quiet).plan.level = .none ∧
    (inControl quiet).plan.current ≠ 7 ∧ manual.plan.level = .manual ∧ manual.plan.fireSet = 0 ∧
    manual.plan.current ≠ manual.plan.saved := by decide +kernel

/-! ### Witnesses: the field line, the timers and the passes -/

theorem witness_HeadReplyUpdatesItsZone :
    (exchanging quiet (.head 47) none).line.inFlight = some ⟨.head 47, none, false⟩ ∧ (48 : Byte).toNat = 47 + 1 ∧
    (quiet.head 47).state ≠ .sensorFault := by decide +kernel
/-- Zone 1 of the sound depot with a CO head in exchange, its count at 2 of 3. -/
def rising (high : Bool) : State :=
  exchanging ((sound.modHead 0 fun h => { h with config := ⟨true, 0, .co⟩ }).modZone 0 fun q =>
    { q with co := { q.co with count := 2, high := high } }) (.head 0) none
theorem witness_GasHighIsConfirmedAndCleared : (rising false).line.inFlight = some ⟨.head 0, none, false⟩ ∧
    (1 : Byte).toNat = (0 : HeadId).val + 1 ∧ ((rising false).zone 0).config.fitted = true ∧
    ((rising false).head 0).config.carries ≠ .no2 ∧ ((rising false).zone 0).config.coAlarm ≤ min 1000 (200 : Word).toNat ∧
    (((rising false).zone 0).config.coAlarm * 4 / 5 ≤ min 1000 (160 : Word).toNat ∧
      min 1000 (199 : Word).toNat < ((rising false).zone 0).config.coAlarm) ∧
    min 1000 (159 : Word).toNat < ((rising false).zone 0).config.coAlarm * 4 / 5 ∧
    (((rising false).zone 0).co.high = false ∧ ((got (exec (.headReply 1 1 200 0) (rising false))).zone 0).co.high = true) ∧
    (((rising true).zone 0).co.high = true ∧ ((got (exec (.headReply 1 1 159 0) (rising true))).zone 0).co.high = false) ∧
    (rising false).alarms.entries.length < 32 := by decide +kernel
theorem witness_GasHighIsConfirmedAndCleared_sound : ((rising false).zone 0).Sound ∧ (rising false).alarms.Sound :=
  ⟨⟨⟨by decide +kernel, by decide +kernel⟩, ⟨by decide +kernel, by decide +kernel⟩, by decide +kernel, by decide +kernel,
    by decide +kernel, by decide +kernel, by decide +kernel⟩, sound_no_alarms⟩
/-- R25, R135, R137: with 31 entries one gas that becomes active has its entry, and of two that do so in one reply one has. -/
theorem witness_GasHighIsConfirmedAndCleared_room :
    let s := fun g => withAlarms (State.modZone (State.modHead (rising false) 0 fun h => { h with config := ⟨true, 0, g⟩ }) 0
      fun q => { q with no2 := { q.no2 with count := 2 } }) (crowd 30) 32
    let high := fun g => let t := got (exec (.headReply 1 1 200 80) (s g)); ((t.zone 0).co.high, (t.zone 0).no2.high)
    (∀ g, (s g).alarms.entries.length = 31 ∧ (s g).alarms.has (.gasHigh .co 0) = false ∧
      (s g).line.inFlight = some ⟨.head 0, none, false⟩) ∧ (s .both).alarms.Sound ∧
    high .co = (true, false) ∧ high .no2 = (false, true) ∧ high .both = (true, true) :=
  ⟨by intro g; cases g <;> decide +kernel, sound_list _ (by decide +kernel), by decide +kernel, by decide +kernel,
    by decide +kernel⟩
theorem witness_DriveReplyMovesTheFan : let s := exchanging quiet (.drive 7) none
    s.line.inFlight = some ⟨.drive 7, none, false⟩ ∧ (72 : Byte).toNat = 65 + 7 ∧ (s.fan 7).state ≠ .enrolling ∧
    (s.fan 7).state = .absent ∧ ((s.fan 7).reported 0 0 0).fault = 0 ∧ ((s.fan 7).reported 4 0 0).fault ≠ 0 ∧
    (s.fan 0).state ∈ [FanState.enrolHold, .ready, .restartHold] := by decide +kernel
/-- R85: a fan that reports STOPPED in STOPPING and has no restart hold. -/
theorem witness_DriveReplyMovesTheFan_stopped :
    let s := exchanging (quiet.modFan 0 fun _ => { enrolled 1 .stopping with
      config := { fitted := true, restartHold := 0 }, startPending := true }) (.drive 0) (some (.stop 0))
    s.line.inFlight = some ⟨.drive 0, some (.stop 0), false⟩ ∧ (65 : Byte).toNat = 65 + 0 ∧ (s.fan 0).state = .stopping ∧
    ((s.fan 0).reported 0 0 0).run = .stopped ∧ ((s.fan 0).reported 0 0 0).fault = 0 ∧ (s.fan 0).reenrolPending = false ∧
    (s.fan 0).config.restartHold = 0 := by decide +kernel
theorem witness_EnrolmentResolvesTheFan :
    let s := exchanging (quiet.modFan 0 fun _ => { config := { fitted := true }, state := .enrolling, plainAnswers := 2 })
      (.drive 0) (some (.offer 0))
    s.line.inFlight = some ⟨.drive 0, some (.offer 0), false⟩ ∧ (65 : Byte).toNat = 65 + 0 ∧ (s.fan 0).state = .enrolling ∧
    ¬((s.fan 0).plainAnswers + 1 < 3) ∧ (none : Option Order) ≠ some (.offer 0) := by decide +kernel
theorem witness_ExtractReplyJudgesTheDamper :
    (exchanging quiet (.extract 15) none).line.inFlight = some ⟨.extract 15, none, false⟩ ∧ (112 : Byte).toNat = 97 + 15 ∧
    (quiet.extractOf 15).state = .moving ∧ (sound.extractOf 0).state = .settled ∧ (sound.zone 0).config.fitted = true := by
  decide +kernel
/-- A path that a settled damper now proves, with a READY fan waiting for it; and a proven path that no damper proves any more,
with no fan turning, with one turning outside smoke service and with one in it. -/
theorem witness_ExtractReplyJudgesTheDamper_path :
    let ready := quiet.modFan 0 fun _ => { enrolled 1 .ready with startPending := true }
    let gained := { ready with extract := upd quiet.extract 0 fun _ => { command := 50, state := .settled, feedback := some 20 } }
    let idle := { quiet with pathProven := true }
    let turning := { quiet.modFan 0 (fun _ => enrolled 1 .running) with pathProven := true }
    (gained.pathProven = false ∧ gained.ProvesPath 0 ∧ (gained.fan 0).state = .ready ∧ (gained.fan 0).startPending = true ∧
      (gained.fan 0).config.fitted = true ∧ (gained.link (.drive 0)).lost = false) ∧
    (idle.pathProven = true ∧ (¬∃ z, idle.ProvesPath z) ∧ ¬idle.AnyTurning) ∧
    (turning.pathProven = true ∧ (¬∃ z, turning.ProvesPath z) ∧ turning.AnyTurning ∧ turning.resolver.smoke = false ∧
      { turning.resolver with smoke := true }.smoke = true) := by
  unfold State.AnyTurning State.ProvesPath; decide +kernel
theorem witness_MakeUpReplyJudgesTheDamper :
    (exchanging quiet (.makeUp 15) none).line.inFlight = some ⟨.makeUp 15, none, false⟩ ∧ (128 : Byte).toNat = 113 + 15 ∧
    (quiet.makeUpOf 15).state = .closing ∧ (sound.makeUpOf 0).state = .closed ∧ (sound.zone 0).config.fitted = true := by
  decide +kernel
theorem witness_DiscardedRepliesAndStoppedTimersChangeNothing : State.reset.line.inFlight = none ∧
    (exchanging quiet (.drive 0) none).line.inFlight = some ⟨.drive 0, none, false⟩ ∧ Device.address (.drive 0) ≠ (66 : Byte).toNat ∧
    (∀ z, (quiet.zone z).fall = none ∧ (quiet.zone z).boost = none ∧ (quiet.extractOf z).timer = none ∧
      (quiet.makeUpOf z).timer = none) ∧ (∀ n, (quiet.fan n).timer = none) ∧ quiet.plan.purge = none ∧
    quiet.grace = none ∧ quiet.alloc.stageDown = none ∧ quiet.alloc.window = none ∧
    ((State.reset.modPort .alarm fun q => { q with silence := none }).port .alarm).silence = none := by decide +kernel
theorem witness_ReplyTimeoutCountsMisses :
    let s := State.modLine (exchanging sound (.drive 0) (some (.stop 0))) fun l => l.setLink (.drive 0) ⟨2, false⟩
    (∀ o, some (Order.stop 0) = some o → o.device = .drive 0) ∧
    s.line.inFlight = some ⟨.drive 0, some (.stop 0), false⟩ ∧ 2 ≤ (s.link (.drive 0)).misses ∧
    (s.link (.drive 0)).lost = false ∧ (s.link (.drive 1)).misses < 2 ∧ (s.fan 0).state ≠ .absent ∧ (s.fan 0).state ≠ .lost ∧
    ((s.modLine fun l => { l with inFlight := disown (.drive 0) l.inFlight }).line.inFlight =
      some ⟨.drive 0, some (.stop 0), true⟩) :=
  ⟨fun o h => by cases h; rfl, by decide +kernel, by decide +kernel, by decide +kernel, by decide +kernel, by decide +kernel,
    by decide +kernel, by decide +kernel⟩
/-- The third miss of a head, of an extract damper and of a make-up damper that are not lost. -/
theorem witness_ReplyTimeoutCountsMisses_losses :
    let s := fun d => State.modLine (exchanging sound d none) fun l => l.setLink d ⟨2, false⟩
    (∀ d ∈ [Device.head 0, .extract 0, .makeUp 0], (s d).line.inFlight = some ⟨d, none, false⟩ ∧ 2 ≤ ((s d).link d).misses ∧
      ((s d).link d).lost = false) ∧
    ((s (.head 0)).head 0).state ≠ .missing ∧ ((s (.extract 0)).extractOf 0).state ≠ .lost ∧
    ((s (.makeUp 0)).makeUpOf 0).state ≠ .lost ∧ sound.alarms.entries.length < 32 := by decide +kernel
theorem witness_ExchangesEndAndFollow :
    let s := sound.endExchange
    let c := s.modLine fun l => { l with queue := [.stop 0] }
    sound.line.pollList = sound.fittedDevices ∧ sound.line.inFlight.isSome = true ∧
    (s.line.pollList = s.fittedDevices ∧ s.line.inFlight = none ∧ s.line.queue = [] ∧ Device.drive 1 ∈ s.line.pollList ∧
      s.line.position = some (.drive 1)) ∧
    (c.line.queue = [.stop 0] ∧ c.line.row < 4 ∧ 4 ≤ (c.modLine fun l => { l with row := 4 }).line.row) ∧
    (State.reset.line.pollList = State.reset.fittedDevices ∧ State.reset.line.pollList = []) ∧
    s.rebuildPolls.line.pollList ≠ [] ∧
    ((sound.modLine fun l => { l with inFlight := disown (.drive 0) l.inFlight }).line.inFlight = some ⟨.drive 0, none, true⟩ ∧
      (65 : Byte).toNat = (Device.drive 0).address) := by decide +kernel
/-- R80, R148: fan 1 in ENROL_HOLD with its OFFER at the head of the queue, alone and before a STOP. -/
theorem witness_ExchangesEndAndFollow_held :
    let s := fun q => (held.endExchange).modLine fun l => { l with queue := q }
    let behind := s [.offer 0, .stop 1]
    behind.line.pollList = behind.fittedDevices ∧ behind.line.inFlight = none ∧ (behind.fan 0).state = .enrolHold ∧
    behind.line.row < 4 ∧ behind.line.queue = [.offer 0] ++ Order.stop 1 :: [] ∧ (s [.offer 0]).line.queue = [.offer 0] := by
  decide +kernel
theorem witness_ZoneTimersActAtTheirExpiry :
    ((pullOut.modZone 2 fun q => { q with target := 60, fall := some 1 }).zone 2).fall.isSome = true ∧
    ((quiet.modZone 0 fun q => { q with boost := some ⟨60, 1⟩ }).zone 0).boost.isSome = true := by decide +kernel
theorem witness_FanAndGraceTimersActAtTheirExpiry : let f := fun st => { enrolled 1 st with timer := some 1 }
    (f .starting).timer.isSome = true ∧ (f .starting).state = .starting ∧ (f .stopping).state = .stopping ∧
    (f .restartHold).state = .restartHold ∧ (f .enrolHold).state = .enrolHold ∧
    (quiet.modFan 0 fun _ => f .starting).fan 0 = f .starting ∧ (f .starting).config.fitted = true ∧
    (quiet.link (.drive 0)).lost = false ∧ quiet.alarms.entries.length < 32 ∧ sound.alarms.Sound :=
  ⟨by decide, by decide, by decide, by decide, by decide, by decide +kernel, by decide, by decide +kernel, by decide +kernel,
    sound_no_alarms⟩
theorem witness_FanAndGraceTimersActAtTheirExpiry_grace :
    let s := { quiet.modFan 0 (fun _ => enrolled 1 .running) with grace := some 1 }
    s.grace.isSome = true ∧ (s.fan 0).state = .running ∧ (s.fan 0).config.fitted = true ∧ (s.link (.drive 0)).lost = false := by
  decide +kernel
theorem witness_ZoneTimersActAtTheirExpiry_travel :
    let s := { quiet with extract := upd quiet.extract 15 fun d => { d with timer := some 1 },
                          makeUp := upd quiet.makeUp 15 fun m => { m with timer := some 1 } }
    ((s.extractOf 15).state = .moving ∧ (s.extractOf 15).timer.isSome = true) ∧
    ((s.makeUpOf 15).state = .closing ∧ (s.makeUpOf 15).timer.isSome = true) ∧ s.alarms.entries.length < 32 := by
  decide +kernel
theorem witness_StageHoldAndItsExpiry : State.reset.alloc.window.isSome = true ∧
    ({ quiet with alloc := { quiet.alloc with stageDown := some 1 } }).alloc.stageDown.isSome = true ∧
    ((State.pass { sound with alloc := { sound.alloc with record := { runSet := [0] } } } false).alloc.record.held = true) ∧
    (sound.pass false).alloc.record.held = false := by decide +kernel
theorem witness_SilenceLosesTheLink : (sound.port .building).silence.isSome = true ∧ sound.alarms.Sound ∧
    sound.alarms.entries.length < 32 := ⟨by decide +kernel, sound_no_alarms, by decide +kernel⟩
theorem witness_PassGivesEachZoneItsAir : (quiet.zone 0).config.fitted = true ∧ (quiet.zone 15).config.fitted = false ∧
    ((quiet.pass false).alloc.record.flags.noFans = false ∧
      (State.pass { State.reset.modZone 0 (fitZone 600 50) with alloc := { pullOut.alloc with window := none } } false).alloc.record.flags.noFans
        = true) := by decide +kernel
theorem pullOut_duty : pullOut.DutySound where
  once := by decide +kernel
  fitted := by decide +kernel
  runSet := by decide +kernel
/-- Worked case 1: two fans reach 750 but draw more than 800, three draw 414; the quiet depot runs none. -/
theorem witness_StageSelectionTakesTheFirstFans : pullOut.DutySound ∧ sound.DutySound ∧
    ((pullOut.pass false).alloc.record.held = false ∧ 0 < (pullOut.pass false).alloc.record.required ∧
      (pullOut.pass false).alloc.record.runSet = [0, 1, 2]) ∧ (sound.pass false).alloc.record.runSet = [] ∧
    (let e := pullOut.duty.filter pullOut.eligible
    let cap := fun k => ((e.take k).map fun n => (pullOut.fan n).config.flow).sum
    let speed := fun k => clampTo (((e.take k).map fun n => ((pullOut.fan n).minSpeed).getD 0).foldl max 0) 100
      (ceilDiv (100 * (pullOut.pass false).alloc.record.required) (cap k))
    let power := fun k => ((e.take k).map fun n => ceilDiv ((pullOut.fan n).config.power * speed k ^ 3) 1000000).sum
    cap 1 < (pullOut.pass false).alloc.record.required ∧ (pullOut.pass false).alloc.record.required ≤ cap 2 ∧
      pullOut.alloc.budget < power 2 ∧ power 3 ≤ pullOut.alloc.budget ∧ 3 ≤ e.length) ∧
    ∀ n, ((pullOut.fan n).minSpeed).getD 0 ≤ 100 :=
  ⟨pullOut_duty, sound_duty, by decide +kernel, by decide +kernel, by decide +kernel, by decide +kernel⟩
/-- Worked case 1 with a budget that no stage meets. Four fans at 47 % draw 232, the least. Within 100 they run at 35 %, drawing
96; within 20 two are dropped, four drawing 36 and three 27 at 25 %, and two run at 26 %, drawing 20; within 5 one fan is
kept at 25 %. -/
theorem witness_StageSelectionTakesTheFirstFans_lowered :
    let at_ := fun b => { pullOut with alloc := { pullOut.alloc with normal := b } }
    let r := fun b => ((at_ b).pass false).alloc.record
    let e := pullOut.duty.filter pullOut.eligible
    let speed := fun k => clampTo 25 100 (ceilDiv (100 * 750) (400 * k))
    let draw := fun k x => ((e.take k).map fun n => ceilDiv ((pullOut.fan n).config.power * x ^ 3) 1000000).sum
    e = [0, 1, 2, 3] ∧ (∀ b ∈ [100, 20, 5], (r b).held = false ∧ (r b).required = 750 ∧ (at_ b).alloc.budget = b) ∧
    (∀ k ∈ [2, 3, 4], 100 < draw k (speed k) ∧ draw 4 (speed 4) ≤ draw k (speed k)) ∧ draw 4 (speed 4) = 232 ∧
    (draw 4 35 = 96 ∧ 100 < draw 4 36) ∧ (draw 4 25 = 36 ∧ draw 3 25 = 27 ∧ draw 2 26 = 20 ∧ 20 < draw 2 27 ∧ draw 1 25 = 9) ∧
    [100, 20, 5].map (fun b => ((r b).runSet, (r b).speed, (r b).flags.overBudget)) =
      [([0, 1, 2, 3], 35, false), ([0, 1], 26, false), ([0], 25, true)] := by decide +kernel
/-- A proven path that a pass without air to move shuts, with a fan RUNNING. -/
theorem witness_HandoverMovesDampersAndFans :
    let s := { sound.modFan 0 (fun _ => enrolled 1 .running) with
      extract := upd sound.extract 0 fun _ => { command := 50, state := .settled, feedback := some 50 }, pathProven := true }
    sound.PathSound ∧ (s.PathSound ∧ s.pathProven = true ∧ (s.pass false).pathProven = false ∧
      (s.fan 0).state = .running ∧ s.resolver.smoke = false) ∧
    ((s.pass false).alloc.record.zones[0].isSome = true ∧ (s.pass false).alloc.record.zones[15] = none) ∧
    (s.link (.extract 0)).lost = false ∧ (s.fan 0).config.fitted = true ∧ (s.link (.drive 0)).lost = false ∧
    ((pullOut.pass false).alloc.record.runSet = [0, 1, 2] ∧ (pullOut.fan 0).state = .ready ∧
      pullOut.PathSound) := by unfold State.PathSound State.ProvesPath; decide +kernel

end Sys2Proof.Tests
end

/-! ## Scope: the queue of commands and part time (00_scope.md) -/

namespace Sys2Proof.Machine

/-! ### The step on the two shapes of the queue -/

theorem step_of_pending_nil {s : State} (h : s.pending = []) : step s = .next s := by
  unfold step; rw [h]

theorem step_of_pending_cons {s : State} {c : Instr} {rest : List Instr} (h : s.pending = c :: rest) :
    step s = exec c { s with pending := rest } := by
  unfold step; rw [h]

/-- Settles O1, by the two shapes of the queue. -/
theorem stepRunsTheFrontCommand : Obligations.StepRunsTheFrontCommand := by
  unfold Obligations.StepRunsTheFrontCommand
  exact ⟨fun _ _ _ => step_of_pending_cons rfl, fun _ => step_of_pending_nil⟩

/-! ### A second of part time (R2) -/

theorem exec_partTimeTick (s : State) : exec .partTimeTick s = .next s.second := rfl

/-- A timer that does not run stays so, and a running one keeps its last second (log 6). -/
theorem lessOne_eq_map : lessOne = Option.map fun k => if 1 < k then k - 1 else k := by
  funext t
  cases t with
  | none => rfl
  | some k => rfl

/-- Settles O49: `State.second` written out, block by block, with `lessOne` as the map over a running timer. -/
theorem tickCountsOneSecond : Obligations.TickCountsOneSecond := by
  unfold Obligations.TickCountsOneSecond
  intro s
  rw [exec_partTimeTick, ← lessOne_eq_map]
  rfl

end Sys2Proof.Machine

/-! ## Zone evaluator: what its operations do to a row (R16 to R20) -/

namespace Sys2Proof.Machine

/-! ### Target and demand of one row -/

@[simp] theorem Zone.follow_target (q : Zone) (t : Nat) : (q.follow t).target = t := by
  unfold Zone.follow
  split
  · rename_i h; exact h.symm
  · split <;> rfl

/-- R20: the row of a demand that follows a target. -/
theorem Zone.follow_eq (q : Zone) (t : Nat) : q.follow t = { q with
    target := t
    demand := if t = q.target then q.demand else if q.demand ≤ t then t else q.demand
    fall := if t = q.target then q.fall else if q.demand ≤ t then none else some (q.fall.getD Config.fallTime) } := by
  unfold Zone.follow
  by_cases h : t = q.target
  · simp only [if_pos h]; rw [h]
  · simp only [if_neg h]; split <;> rfl

/-- R19, R20: a row that is retargeted follows. -/
theorem Zone.follow_follows (q : Zone) : q.Follows (q.follow q.targetNow) := by
  rw [Zone.follow_eq]
  refine ⟨rfl, Zone.targetNow_eq q, ?_⟩
  simp only
  by_cases h : q.targetNow = q.target
  · simp only [if_pos h, and_self]
  · simp only [if_neg h]
    split
    · exact ⟨rfl, rfl⟩
    · exact ⟨rfl, rfl⟩

/-- The laws of a row that do not depend on its target being the one of R19: what a recomputation of the target starts from. -/
structure Zone.Fit (q : Zone) : Prop where
  config : q.config.percents
  boost : q.boostPercent ≤ 100
  target : q.target ≤ q.demand
  demand : q.demand ≤ 100
  fall : q.fall.isSome = true ↔ q.target < q.demand

theorem Zone.Sound.fit {q : Zone} (h : q.Sound) : q.Fit := ⟨h.config, h.boost, h.target, h.demand, h.fall⟩

theorem Zone.targetNow_le {q : Zone} (h : q.Fit) (hr : q.co.ramp ≤ 100 ∧ q.no2.ramp ≤ 100) : q.targetNow ≤ 100 := by
  have hf := h.config.1
  have hb := h.boost
  have hh : q.highTerm ≤ 100 := by unfold Zone.highTerm; split <;> omega
  unfold Zone.targetNow
  split <;> omega

theorem Zone.floor_le_targetNow (q : Zone) : q.config.floor ≤ q.targetNow := by
  unfold Zone.targetNow
  split <;> omega

/-- R19, R20: a fit row is sound once its target has been recomputed. -/
theorem Zone.Fit.follow_sound {q : Zone} (h : q.Fit) (hr : q.co.ramp ≤ 100 ∧ q.no2.ramp ≤ 100) :
    (q.follow q.targetNow).Sound := by
  have ht := q.targetNow_le h hr
  have hl := q.floor_le_targetNow
  obtain ⟨hc, hb, h1, h2, h3⟩ := h
  rw [Zone.follow_eq]
  by_cases he : q.targetNow = q.target
  · simp only [if_pos he]
    exact ⟨hc, hr, hb, hl, he ▸ h1, h2, he ▸ h3⟩
  · simp only [if_neg he]
    by_cases hd : q.demand ≤ q.targetNow
    · simp only [if_pos hd]
      exact ⟨hc, hr, hb, hl, le_refl _, ht, by simp⟩
    · simp only [if_neg hd]
      exact ⟨hc, hr, hb, hl, by simpa using Nat.le_of_not_le hd, h2, by simpa using Nat.lt_of_not_le hd⟩

/-- The terms of R19 are fields that a recomputed target leaves. -/
theorem Zone.follow_greatestTerm (q : Zone) (t : Nat) : (q.follow t).greatestTerm = q.greatestTerm := by
  rw [Zone.follow_eq]; rfl

/-! ### Gas values of one zone -/

variable {s t u : State} {z y : ZoneId} {g : Gas}

theorem rampOf_le (start full v : Nat) : rampOf start full v ≤ 100 := by
  unfold rampOf
  split
  · omega
  · split
    · omega
    · refine Nat.div_le_of_le_mul ?_
      rw [Nat.mul_comm]
      exact Nat.mul_le_mul_right _ (by omega)

theorem State.rampNow_le (h : (s.zone z).config.percents) (g : Gas) : s.rampNow z g ≤ 100 := by
  unfold State.rampNow
  split
  · exact rampOf_le _ _ _
  · split
    · exact h.2
    · omega

/-- R16 to R18: a row with both gases worked out from the heads. -/
def State.rowNow (s : State) (z : ZoneId) (q : Zone) : Zone :=
  { q with co := { q.co with value := s.gasValue z .co, ramp := s.rampNow z .co, fallback := s.fallbackNow z .co }
           no2 := { q.no2 with value := s.gasValue z .no2, ramp := s.rampNow z .no2, fallback := s.fallbackNow z .no2 } }

theorem State.rowNow_gasSound (s : State) (z : ZoneId) (q : Zone) (g : Gas) : s.GasSound z g ((s.rowNow z q).gas g) := by
  cases g <;> exact State.gasSound_of rfl rfl rfl

/-- Two heads agree in all but their total misses. -/
structure Head.Agrees (a b : Head) : Prop where
  config : b.config = a.config
  state : b.state = a.state
  co : b.co = a.co
  no2 : b.no2 = a.no2

theorem Head.Agrees.of_eq {a b : Head} (h : b = a) : a.Agrees b := h ▸ ⟨rfl, rfl, rfl, rfl⟩

/-- R16 to R18 speak of the heads that sense a gas in the zone and of the zone's record alone. -/
theorem State.GasSound.congr {r : GasRow} (h : s.GasSound z g r)
    (hh : ∀ k, s.Senses k z g ∨ t.Senses k z g → (s.head k).Agrees (t.head k)) (hc : (t.zone z).config = (s.zone z).config) :
    t.GasSound z g r := by
  have hs : ∀ k, t.Senses k z g ↔ s.Senses k z g := fun k =>
    ⟨fun e => by simpa only [State.Senses, (hh k (.inr e)).config] using e,
      fun e => by simpa only [State.Senses, (hh k (.inl e)).config] using e⟩
  have hl : ∀ k, s.Senses k z g → t.lastReading k g = s.lastReading k g := fun k e => by
    cases g
    · exact (hh k (.inl e)).co
    · exact (hh k (.inl e)).no2
  have hv : ∀ k, s.Senses k z g → (t.head k).state = (s.head k).state := fun k e => (hh k (.inl e)).state
  obtain ⟨h1, h2, h3⟩ := h
  refine ⟨?_, ?_, by rw [hc]; exact h3⟩
  · cases hr : r.value with
    | none =>
      rw [hr] at h1
      intro k m v
      have m' := (hs k).1 m
      rw [hl k m']
      exact h1 k m' (by rw [← hv k m']; exact v)
    | some x =>
      rw [hr] at h1
      obtain ⟨⟨k, m, v, e⟩, hmax⟩ := h1
      refine ⟨⟨k, (hs k).2 m, by rw [hv k m]; exact v, by rw [hl k m]; exact e⟩, fun k m v => ?_⟩
      have m' := (hs k).1 m
      rw [hl k m']
      exact hmax k m' (by rw [← hv k m']; exact v)
  · rw [h2]
    refine and_congr_right fun _ => exists_congr fun k => ?_
    rw [hs k]
    exact and_congr_right fun m => by rw [hv k m]

/-- A row's counts and its gas-high states are no part of R16 to R18. -/
theorem State.GasSound.row {r r' : GasRow} (h : s.GasSound z g r) (hv : r'.value = r.value) (hr : r'.ramp = r.ramp)
    (hf : r'.fallback = r.fallback) : s.GasSound z g r' := by
  refine ⟨by rw [hv]; exact h.value, by rw [hf, hv]; exact h.fallback, ?_⟩
  rw [hr, h.ramp]
  unfold ZoneConfig.rampBy
  rw [hv, hf]

/-! ### The rows after each operation -/

theorem State.modZone_zone (s : State) (z y : ZoneId) (f : Zone → Zone) :
    (s.modZone z f).zone y = if y = z then f (s.zone z) else s.zone y := by
  split
  · rename_i h; subst h; exact s.modZone_zone_self y f
  · rename_i h; exact s.modZone_zone_other f h
theorem State.modHead_head (s : State) (k j : HeadId) (f : Head → Head) :
    (s.modHead k f).head j = if j = k then f (s.head k) else s.head j := by
  split
  · rename_i h; subst h; exact s.modHead_head_self j f
  · rename_i h; exact s.modHead_head_other f h

@[simp] theorem State.retarget_heads (s : State) (z : ZoneId) : (s.retarget z).heads = s.heads := by simp [State.retarget]
@[simp] theorem State.refreshGas_heads (s : State) (z : ZoneId) : (s.refreshGas z).heads = s.heads := rfl
@[simp] theorem State.refreshZone_heads (s : State) (z : ZoneId) : (s.refreshZone z).heads = s.heads := by
  simp [State.refreshZone]
@[simp] theorem State.setBoost_heads (s : State) (z : ZoneId) (b : Option Boost) : (s.setBoost z b).heads = s.heads := by
  simp [State.setBoost]

theorem State.retarget_zone (s : State) (z y : ZoneId) :
    (s.retarget z).zone y = if y = z then (s.zone z).follow (s.zone z).targetNow else s.zone y := by
  rw [State.retarget, State.triggerIf_zone, State.modZone_zone]
theorem State.refreshGas_zone (s : State) (z y : ZoneId) :
    (s.refreshGas z).zone y = if y = z then s.rowNow z (s.zone z) else s.zone y := s.modZone_zone z y _
theorem State.refreshZone_zone (s : State) (z y : ZoneId) :
    (s.refreshZone z).zone y =
      if y = z then (s.rowNow z (s.zone z)).follow (s.rowNow z (s.zone z)).targetNow else s.zone y := by
  rw [State.refreshZone, State.retarget_zone, State.refreshGas_zone, State.refreshGas_zone, if_pos rfl]
  split <;> rfl
theorem State.setBoost_zone (s : State) (z y : ZoneId) (b : Option Boost) :
    (s.setBoost z b).zone y =
      if y = z then Zone.follow { s.zone z with boost := b } (Zone.targetNow { s.zone z with boost := b }) else s.zone y := by
  rw [State.setBoost, State.retarget_zone, State.modZone_zone_self]
  split
  · rfl
  · rename_i h; exact s.modZone_zone_other _ h

theorem State.refreshZone_zone_other (s : State) (h : y ≠ z) : (s.refreshZone z).zone y = s.zone y := by
  rw [State.refreshZone_zone, if_neg h]

@[simp] theorem State.retarget_config (s : State) (z y : ZoneId) : ((s.retarget z).zone y).config = (s.zone y).config := by
  rw [State.retarget_zone]; split
  · rename_i h; rw [Zone.follow_config, h]
  · rfl
@[simp] theorem State.refreshZone_config (s : State) (z y : ZoneId) : ((s.refreshZone z).zone y).config = (s.zone y).config := by
  rw [State.refreshZone_zone]; split
  · rename_i h; rw [Zone.follow_config, h]; rfl
  · rfl

theorem State.setBoost_follows (s : State) (z : ZoneId) (b : Option Boost) :
    Zone.Follows { s.zone z with boost := b } ((s.setBoost z b).zone z) := by
  rw [State.setBoost_zone, if_pos rfl]; exact Zone.follow_follows _

/-- R20: a pass is triggered exactly where the demand has changed. -/
theorem State.retarget_alloc (s : State) (z : ZoneId) :
    (s.retarget z).alloc = { s.alloc with due := s.alloc.due || ((s.retarget z).zone z).demand != (s.zone z).demand } := by
  rw [State.retarget_zone, if_pos rfl, State.retarget]
  unfold State.triggerIf
  split
  · rename_i h; rw [h]; simp [State.trigger]
  · rename_i h; rw [(by simpa using h : (_ != _) = false)]; simp

/-! ### A worked-out row -/

/-- R16 to R20: the row of a zone that has been worked out, wherever the heads and the row are the same. -/
theorem State.WorkedOut.congr {q : Zone} (h : s.WorkedOut z q) (hh : t.heads = s.heads) (hz : t.zone z = s.zone z) :
    t.WorkedOut z q := by
  refine ⟨fun g => ?_, by rw [hz]; exact h.follows⟩
  rw [hz]
  exact (h.gas g).congr (fun k _ => .of_eq (by simp only [State.head, hh])) (by rw [hz])

/-- R16 to R20: the recomputation of a zone. -/
theorem State.refreshZone_workedOut (s : State) (z : ZoneId) : (s.refreshZone z).WorkedOut z (s.zone z) := by
  have hz : (s.refreshZone z).zone z = (s.rowNow z (s.zone z)).follow (s.rowNow z (s.zone z)).targetNow := by
    rw [State.refreshZone_zone, if_pos rfl]
  have hg : ∀ g, ((s.refreshZone z).zone z).gas g = (s.rowNow z (s.zone z)).gas g := fun g => by
    rw [hz, Zone.follow_eq]; cases g <;> rfl
  refine ⟨fun g => ?_, ?_⟩
  · rw [hg]
    exact (s.rowNow_gasSound z _ g).congr (fun k _ => .of_eq (by simp [State.head])) (by simp)
  · have hf := Zone.follow_follows (s.rowNow z (s.zone z))
    rw [← hz] at hf
    have h1 := hg .co
    have h2 := hg .no2
    simp only [Zone.gas] at h1 h2
    simp only [h1, h2]
    exact hf

end Sys2Proof.Machine

/-! ## Zone evaluator: what its operations leave of the other blocks -/

namespace Sys2Proof.Machine

variable {s t u v : State}

/-! ### The frame of the zone evaluator -/

/-- u differs from s in the rows and heads of the zone evaluator, a waiting trigger, the alarm list and notices alone. -/
structure State.InEvaluator (s u : State) : Prop where
  lasting : u.lasting = { s.lasting with heads := u.heads, zones := u.zones }
  plant : u.plant = s.plant
  fans : u.fans = s.fans
  line : u.line = s.line
  alloc : u.alloc = { s.alloc with due := u.alloc.due }

theorem State.InEvaluator.refl (s : State) : s.InEvaluator s := ⟨rfl, rfl, rfl, rfl, rfl⟩
theorem State.InEvaluator.trans (h : s.InEvaluator t) (k : t.InEvaluator u) : s.InEvaluator u := by
  refine ⟨?_, k.plant.trans h.plant, k.fans.trans h.fans, k.line.trans h.line, ?_⟩
  · rw [k.lasting, h.lasting]
  · rw [k.alloc, h.alloc]
theorem State.InEvaluator.partTime (h : s.InEvaluator u) : u.partTime = s.partTime := congrArg Lasting.partTime h.lasting
theorem State.InEvaluator.link (h : s.InEvaluator u) (d : Device) : u.link d = s.link d := by
  simp only [State.link, h.line]

variable (s)

theorem State.modZone_inEvaluator (z : ZoneId) (f : Zone → Zone) : s.InEvaluator (s.modZone z f) := ⟨rfl, rfl, rfl, rfl, rfl⟩
theorem State.modHead_inEvaluator (h : HeadId) (f : Head → Head) : s.InEvaluator (s.modHead h f) := ⟨rfl, rfl, rfl, rfl, rfl⟩
theorem State.triggerIf_inEvaluator (b : Bool) : s.InEvaluator (s.triggerIf b) := by
  cases b <;> exact ⟨rfl, rfl, rfl, rfl, rfl⟩
theorem State.raiseAll_inEvaluator (n : Notice) : s.InEvaluator (s.raiseAll n) := ⟨rfl, rfl, rfl, rfl, rfl⟩
theorem State.clearAlarm_inEvaluator (k : AlarmKey) : s.InEvaluator (s.clearAlarm k) := ⟨rfl, rfl, rfl, rfl, rfl⟩
theorem State.raiseAlarm_inEvaluator (k : AlarmKey) (d : Option FanDetail) : s.InEvaluator (s.raiseAlarm k d) := by
  unfold State.raiseAlarm; split <;> exact ⟨rfl, rfl, rfl, rfl, rfl⟩
theorem State.retarget_inEvaluator (z : ZoneId) : s.InEvaluator (s.retarget z) :=
  (s.modZone_inEvaluator z _).trans (State.triggerIf_inEvaluator _ _)
theorem State.refreshZone_inEvaluator (z : ZoneId) : s.InEvaluator (s.refreshZone z) :=
  (s.modZone_inEvaluator z _).trans (State.retarget_inEvaluator _ z)
theorem State.setBoost_inEvaluator (z : ZoneId) (b : Option Boost) : s.InEvaluator (s.setBoost z b) :=
  (s.modZone_inEvaluator z _).trans (State.retarget_inEvaluator _ z)
theorem State.eachZone_inEvaluator (f : State → ZoneId → State) (h : ∀ (s : State) (z : ZoneId), s.InEvaluator (f s z)) :
    s.InEvaluator (s.eachZone f) := by
  unfold State.eachZone
  generalize List.finRange 16 = l
  induction l generalizing s with
  | nil => exact .refl _
  | cons z l ih => exact (h s z).trans (ih _)
theorem State.boostAll_inEvaluator (b : Option Boost) : s.InEvaluator (s.boostAll b) :=
  s.eachZone_inEvaluator _ fun q z => by
    split
    · exact q.setBoost_inEvaluator z b
    · exact .refl _
theorem State.endBoosts_inEvaluator : s.InEvaluator s.endBoosts :=
  s.eachZone_inEvaluator _ fun q z => by
    split
    · exact q.setBoost_inEvaluator z none
    · exact .refl _
theorem State.gasRises_inEvaluator (z : ZoneId) (g : Gas) : s.InEvaluator (s.gasRises z g) :=
  ((s.modZone_inEvaluator z _).trans (State.raiseAlarm_inEvaluator _ _ _)).trans (State.raiseAll_inEvaluator _ _)
theorem State.gasClears_inEvaluator (z : ZoneId) (g : Gas) : s.InEvaluator (s.gasClears z g) :=
  ((s.modZone_inEvaluator z _).trans (State.clearAlarm_inEvaluator _ _)).trans (State.raiseAll_inEvaluator _ _)
theorem State.highReading_inEvaluator (z : ZoneId) (g : Gas) : s.InEvaluator (s.highReading z g) := by
  unfold State.highReading; simp only
  split
  · exact (s.modZone_inEvaluator z _).trans (State.gasRises_inEvaluator _ z g)
  · exact s.modZone_inEvaluator z _
theorem State.lowReading_inEvaluator (z : ZoneId) (g : Gas) : s.InEvaluator (s.lowReading z g) := by
  unfold State.lowReading; simp only
  split
  · exact (s.modZone_inEvaluator z _).trans (State.gasClears_inEvaluator _ z g)
  · exact s.modZone_inEvaluator z _
theorem State.countReading_inEvaluator (z : ZoneId) (g : Gas) (v : Option Nat) : s.InEvaluator (s.countReading z g v) := by
  unfold State.countReading
  split
  · exact .refl _
  · split
    · exact .refl _
    · split
      · exact s.highReading_inEvaluator z g
      · split
        · exact s.lowReading_inEvaluator z g
        · exact .refl _
theorem State.headFault_inEvaluator (h : HeadId) : s.InEvaluator (s.headFault h) :=
  (s.raiseAlarm_inEvaluator _ _).trans (State.raiseAll_inEvaluator _ _)
theorem State.headFaults_inEvaluator (h : HeadId) : s.InEvaluator (s.headFaults h) := by
  unfold State.headFaults; simp only
  split
  · exact s.modHead_inEvaluator h _
  · exact (s.modHead_inEvaluator h _).trans (State.headFault_inEvaluator _ h)
theorem State.headOk_inEvaluator (h : HeadId) (co no2 : Word) : s.InEvaluator (s.headOk h co no2) :=
  (s.modHead_inEvaluator h _).trans (State.clearAlarm_inEvaluator _ _)
theorem State.okReply_inEvaluator (h : HeadId) (co no2 : Word) : s.InEvaluator (s.okReply h co no2) :=
  ((((s.headOk_inEvaluator h co no2).trans (State.modZone_inEvaluator _ _ _)).trans
    (State.countReading_inEvaluator _ _ _ _)).trans (State.countReading_inEvaluator _ _ _ _)).trans
      (State.retarget_inEvaluator _ _)
/-- R21: a head's reply. -/
theorem State.headReplied_inEvaluator (h : HeadId) (status : Byte) (co no2 : Word) :
    s.InEvaluator (s.headReplied h status co no2) := by
  unfold State.headReplied
  split
  · exact s.okReply_inEvaluator h co no2
  · exact (s.modHead_inEvaluator h _).trans (State.refreshZone_inEvaluator _ _)
  · exact (s.headFaults_inEvaluator h).trans (State.refreshZone_inEvaluator _ _)
/-- R13: a head's loss. -/
theorem State.loseHead_inEvaluator (h : HeadId) : s.InEvaluator (s.loseHead h) := by
  unfold State.loseHead; simp only
  refine .trans ?_ (State.refreshZone_inEvaluator _ _)
  split
  · exact s.modHead_inEvaluator h _
  · exact (s.modHead_inEvaluator h _).trans (State.headFault_inEvaluator _ h)

/-! ### Rows and heads that stay -/

/-- The rows, the heads and the stored zone records of t are those of s. -/
structure State.SameRows (s t : State) : Prop where
  zones : t.zones = s.zones
  heads : t.heads = s.heads
  stored : t.store.zones = s.store.zones

theorem State.SameRows.refl : s.SameRows s := ⟨rfl, rfl, rfl⟩

variable {s}

theorem State.SameRows.trans (h : s.SameRows t) (k : t.SameRows u) : s.SameRows u :=
  ⟨k.zones.trans h.zones, k.heads.trans h.heads, k.stored.trans h.stored⟩
theorem State.SameRows.of_lasting (h : t.lasting = s.lasting) : s.SameRows t :=
  ⟨zones_of_lasting h, heads_of_lasting h, congrArg Store.zones (store_of_lasting h)⟩

variable (s)

theorem State.modPlan_sameRows (f : PlanControl → PlanControl) : s.SameRows (s.modPlan f) := ⟨rfl, rfl, rfl⟩
theorem State.modResolver_sameRows (f : Resolver → Resolver) : s.SameRows (s.modResolver f) := ⟨rfl, rfl, rfl⟩
theorem State.raiseAll_sameRows (n : Notice) : s.SameRows (s.raiseAll n) := ⟨rfl, rfl, rfl⟩
theorem State.clearAlarm_sameRows (k : AlarmKey) : s.SameRows (s.clearAlarm k) := ⟨rfl, rfl, rfl⟩
theorem State.triggerIf_sameRows (b : Bool) : s.SameRows (s.triggerIf b) := .of_lasting (s.triggerIf_lasting b)
theorem State.configChanged_sameRows (p : Port) : s.SameRows (s.configChanged p) := .of_lasting (s.raiseOthers_lasting _ p)
theorem State.handSmoke_sameRows (b : Bool) : s.SameRows (s.handSmoke b) := by
  unfold State.handSmoke
  split
  · exact .of_lasting s.smokeBegins_lasting
  · split
    · exact .of_lasting s.smokeEnds_lasting
    · exact .refl _
theorem State.withResolver_sameRows (r : Resolver) : s.SameRows { s with resolver := r } := ⟨rfl, rfl, rfl⟩
theorem State.takeRoles_sameRows : s.SameRows s.takeRoles :=
  (s.withResolver_sameRows _).trans (State.triggerIf_sameRows _ _)
theorem State.indicateAll_sameRows : s.SameRows s.indicateAll := ⟨rfl, rfl, rfl⟩
theorem State.reviewSmoke_sameRows : s.SameRows s.reviewSmoke :=
  ((s.withResolver_sameRows _).trans (State.triggerIf_sameRows _ _)).trans (State.handSmoke_sameRows _ _)
/-- R58, R59: the recomputation of the roles. -/
theorem State.recomputeRoles_sameRows : s.SameRows s.recomputeRoles :=
  (s.takeRoles_sameRows.trans (State.indicateAll_sameRows _)).trans (State.reviewSmoke_sameRows _)
theorem State.notePlan_sameRows (k : PlanId) : s.SameRows (s.notePlan k) := by
  unfold State.notePlan; split <;> exact ⟨rfl, rfl, rfl⟩
theorem State.handPlan_sameRows (k : PlanId) : s.SameRows (s.handPlan k) := by
  unfold State.handPlan; split
  · exact .refl _
  · exact s.recomputeRoles_sameRows
theorem State.setLevel_sameRows (l : Level) : s.SameRows (s.setLevel l) := by
  unfold State.setLevel; simp only
  refine .trans ?_ (State.triggerIf_sameRows _ _)
  split <;> split <;> exact ⟨rfl, rfl, rfl⟩
theorem State.joinFire_sameRows (z : ZoneId) : s.SameRows (s.joinFire z) :=
  .trans (s.modPlan_sameRows _) (.of_lasting (State.raiseAlarm_lasting _ _ _))
theorem State.fireAlarmed_sameRows (z : ZoneId) : s.SameRows (s.fireAlarmed z) := by
  unfold State.fireAlarmed
  split
  · exact .refl _
  · split
    · exact ((((s.joinFire_sameRows z).trans (State.modPlan_sameRows _ _)).trans (State.setLevel_sameRows _ _)).trans
        (State.notePlan_sameRows _ _)).trans (State.handPlan_sameRows _ _)
    · exact ((s.joinFire_sameRows z).trans (State.modPlan_sameRows _ _)).trans (State.raiseAll_sameRows _ _)
theorem State.doReturn_sameRows : s.SameRows s.doReturn :=
  (((s.modPlan_sameRows _).trans (State.setLevel_sameRows _ _)).trans (State.notePlan_sameRows _ _)).trans
    (State.handPlan_sameRows _ _)
theorem State.emptyFires_sameRows : s.SameRows s.emptyFires := by
  rw [State.emptyFires_eq]; exact ⟨rfl, rfl, rfl⟩
theorem State.fireReset_sameRows : s.SameRows s.fireReset := by
  unfold State.fireReset
  split
  · exact .refl _
  · split
    · exact .refl _
    · refine s.emptyFires_sameRows.trans ?_
      unfold State.purgeOrReturn; split
      · exact State.modPlan_sameRows _ _
      · exact State.doReturn_sameRows _
    · exact s.emptyFires_sameRows
theorem State.selectPlan_sameRows (k : PlanId) : s.SameRows (s.selectPlan k) :=
  (((s.modPlan_sameRows _).trans (State.setLevel_sameRows _ _)).trans (State.notePlan_sameRows _ _)).trans
    (State.handPlan_sameRows _ _)
theorem State.toAutomatic_sameRows : s.SameRows s.toAutomatic := by
  unfold State.toAutomatic
  split <;> exact ((s.modPlan_sameRows _).trans (State.setLevel_sameRows _ _)).trans (State.notePlan_sameRows _ _)
theorem State.takeControl_sameRows : s.SameRows s.takeControl := by
  unfold State.takeControl; split <;> exact ⟨rfl, rfl, rfl⟩
theorem State.giveControl_sameRows : s.SameRows s.giveControl := by
  have h1 : s.SameRows s.clearOverrides := (s.modResolver_sameRows _).trans (State.triggerIf_sameRows _ _)
  have h2 : s.SameRows s.clearOverrides.returnIfManual := by
    refine h1.trans ?_
    unfold State.returnIfManual; split
    · exact State.toAutomatic_sameRows _
    · exact .refl _
  exact ((h2.trans (State.modResolver_sameRows _ _)).trans (State.raiseAll_sameRows _ _)).trans (State.recomputeRoles_sameRows _)
theorem State.overrideSet_sameRows (z : ZoneId) (r : Option Role) : s.SameRows (s.overrideSet z r) := by
  unfold State.overrideSet; split
  · exact .refl _
  · exact ((s.modResolver_sameRows _).trans (State.raiseAll_sameRows _ _)).trans (State.recomputeRoles_sameRows _)
theorem State.blockSet_sameRows (n : FanId) (b : Bool) : s.SameRows (s.blockSet n b) := by
  unfold State.blockSet; split <;> exact ⟨rfl, rfl, rfl⟩
theorem State.commitBank_sameRows (k : PlanId) (b : PlanBank) : s.SameRows (s.commitBank k b) := ⟨rfl, rfl, rfl⟩
theorem State.commitMap_sameRows (m : Vector (Option PlanId) 16) : s.SameRows (s.commitMap m) := ⟨rfl, rfl, rfl⟩
theorem State.commitNormal_sameRows (b : Nat) : s.SameRows (s.commitNormal b) := ⟨rfl, rfl, rfl⟩
theorem State.commitStandby_sameRows (b : Nat) : s.SameRows (s.commitStandby b) := ⟨rfl, rfl, rfl⟩
theorem State.commitBase_sameRows (k : PlanId) : s.SameRows (s.commitBase k) := ⟨rfl, rfl, rfl⟩
theorem State.commitClosure_sameRows (z : ZoneId) (c : Bool) : s.SameRows (s.commitClosure z c) := ⟨rfl, rfl, rfl⟩
theorem State.commitFan_sameRows (n : FanId) (c : FanConfig) : s.SameRows (s.commitFan n c) := ⟨rfl, rfl, rfl⟩
theorem State.planWritten_sameRows (p : Port) (k : PlanId) (b : PlanBank) : s.SameRows (s.planWritten p k b) := by
  have h : s.SameRows ((s.commitBank k b).configChanged p) := (s.commitBank_sameRows k b).trans (State.configChanged_sameRows _ p)
  unfold State.planWritten; simp only
  split
  · exact h.trans (State.recomputeRoles_sameRows _)
  · exact h
theorem State.baseSelected_sameRows (k : PlanId) : s.SameRows (s.baseSelected k) := by
  have h : s.SameRows ((s.commitBase k).configChanged .building) := (s.commitBase_sameRows k).trans (State.configChanged_sameRows _ _)
  unfold State.baseSelected; simp only
  split
  · exact ((h.trans (State.modPlan_sameRows _ _)).trans (State.notePlan_sameRows _ _)).trans (State.handPlan_sameRows _ _)
  · exact h.trans (State.modPlan_sameRows _ _)
theorem State.closureSet_sameRows (z : ZoneId) (c : Bool) : s.SameRows (s.closureSet z c) := by
  have h : s.SameRows ((s.commitClosure z c).configChanged .building) :=
    (s.commitClosure_sameRows z c).trans (State.configChanged_sameRows _ _)
  unfold State.closureSet; simp only
  split
  · exact h
  · exact h.trans (State.recomputeRoles_sameRows _)
theorem State.mapWritten_sameRows (m : Vector (Option PlanId) 16) : s.SameRows (s.mapWritten m) :=
  (s.commitMap_sameRows m).trans (State.configChanged_sameRows _ _)
theorem State.kindSet_sameRows (n : PlanId) (k : PlanKind) : s.SameRows (s.kindSet n k) :=
  (s.commitBank_sameRows n _).trans (State.configChanged_sameRows _ _)
theorem State.normalWritten_sameRows (b : Nat) : s.SameRows (s.normalWritten b) :=
  ((s.commitNormal_sameRows b).trans (State.configChanged_sameRows _ _)).trans (State.triggerIf_sameRows _ _)
theorem State.standbyWritten_sameRows (b : Nat) : s.SameRows (s.standbyWritten b) :=
  ((s.commitStandby_sameRows b).trans (State.configChanged_sameRows _ _)).trans (State.triggerIf_sameRows _ _)
theorem State.supplySet_sameRows (v : Supply) : s.SameRows (s.supplySet v) :=
  State.SameRows.trans (t := { s with alloc := { s.alloc with supply := v } }) ⟨rfl, rfl, rfl⟩ (State.triggerIf_sameRows _ _)
theorem State.serviceSet_sameRows (n : FanId) (v : Service) : s.SameRows (s.serviceSet n v) :=
  ((s.commitFan_sameRows n _).trans (State.configChanged_sameRows _ _)).trans (State.triggerIf_sameRows _ _)
theorem State.modFan_sameRows (n : FanId) (f : Fan → Fan) : s.SameRows (s.modFan n f) := ⟨rfl, rfl, rfl⟩
theorem State.withDuty_sameRows (l : List FanId) : s.SameRows { s with duty := l } := ⟨rfl, rfl, rfl⟩
theorem State.modLine_sameRows (f : FieldLine → FieldLine) : s.SameRows (s.modLine f) := ⟨rfl, rfl, rfl⟩
theorem State.trigger_sameRows : s.SameRows s.trigger := ⟨rfl, rfl, rfl⟩
theorem State.fitFan_sameRows (n : FanId) : s.SameRows (s.fitFan n) :=
  ((((s.modLine_sameRows _).trans (State.modLine_sameRows _ _)).trans (.of_lasting (State.enterEnrolling_lasting _ n))).trans
    (State.withDuty_sameRows _ _)).trans (State.trigger_sameRows _)
theorem State.unfitFan_sameRows (n : FanId) : s.SameRows (s.unfitFan n) :=
  ((((((s.modFan_sameRows n _).trans (.of_lasting (State.enterState_lasting _ n _ _))).trans (State.clearAlarm_sameRows _ _)).trans
    (State.withDuty_sameRows _ _)).trans (State.modLine_sameRows _ _)).trans (State.modLine_sameRows _ _)).trans
      (State.trigger_sameRows _)
theorem State.refitFan_sameRows (n : FanId) (old new : Bool) : s.SameRows (s.refitFan n old new) := by
  unfold State.refitFan
  split
  · exact .refl _
  · split
    · exact s.fitFan_sameRows n
    · exact s.unfitFan_sameRows n
theorem State.ratingsChanged_sameRows (n : FanId) (old new : FanConfig) : s.SameRows (s.ratingsChanged n old new) := by
  unfold State.ratingsChanged; split
  · exact s.modFan_sameRows n _
  · exact .refl _
theorem State.fanWritten_sameRows (n : FanId) (c : FanConfig) : s.SameRows (s.fanWritten n c) :=
  ((((s.commitFan_sameRows n c).trans (State.configChanged_sameRows _ _)).trans (State.ratingsChanged_sameRows _ n _ _)).trans
    (State.refitFan_sameRows _ n _ _)).trans (State.trigger_sameRows _)
theorem State.fanReset_sameRows (n : FanId) : s.SameRows (s.fanReset n) := by
  unfold State.fanReset; simp only
  split
  · exact ((s.clearAlarm_sameRows _).trans (State.modFan_sameRows _ n _)).trans (.of_lasting (State.enterEnrolHold_lasting _ n))
  · exact (s.clearAlarm_sameRows _).trans (.of_lasting (State.enterReady_lasting _ n))

end Sys2Proof.Machine

/-! ## Resets: the groups as they are loaded (R175 to R178) -/

namespace Sys2Proof.Machine

/-! ### One group -/

/-- R176: a group as the start-up leaves it, with the defaults d. -/
def Sealed.mended {α : Type} (image : α → List Word) (d : α) (g : Sealed α) : Sealed α :=
  if g.intact image then g else sealWith image d

theorem sealWith_intact {α : Type} (image : α → List Word) (c : α) : (sealWith image c).intact image = true := by
  simp [Sealed.intact, sealWith]
theorem Sealed.spoiled_intact {α : Type} (image : α → List Word) (g : Sealed α) : (g.spoiled image).intact image = false := by
  simp only [Sealed.intact, Sealed.spoiled, beq_eq_false_iff_ne]
  intro h
  have := congrArg (fun w : Word => w.getLsbD 0) h
  simp at this

theorem Sealed.eq_sealWith {α : Type} {image : α → List Word} {g : Sealed α} (h : g.intact image = true) :
    g = sealWith image g.contents := by
  obtain ⟨c, k⟩ := g
  simp only [Sealed.intact, beq_iff_eq] at h
  rw [sealWith, h]

theorem Sealed.mended_of_intact {α : Type} {image : α → List Word} {g : Sealed α} (d : α) (h : g.intact image = true) :
    g.mended image d = g := if_pos h
theorem Sealed.mended_of_not_intact {α : Type} {image : α → List Word} {g : Sealed α} (d : α) (h : g.intact image = false) :
    g.mended image d = sealWith image d := if_neg (by simp [h])

/-- R174, R176: every group agrees with its check word once it has been mended. -/
theorem Sealed.mended_eq {α : Type} (image : α → List Word) (d : α) (g : Sealed α) :
    g.mended image d = sealWith image (g.mended image d).contents := by
  unfold Sealed.mended
  split
  · rename_i h; exact Sealed.eq_sealWith h
  · rfl

/-! ### The six groups -/

/-- R176: a group of the store fails its check. -/
def Store.fails (t : Store) : GroupId → Bool
  | 0 => !t.zones.intact zonesImage
  | 1 => !t.heads.intact headsImage
  | 2 => !t.fans.intact fansImage
  | 3 => !t.plans.intact plansImage
  | 4 => !t.budgets.intact budgetsImage
  | 5 => !t.base.intact baseImage

/-- R176: the store with each group that fails its check at its defaults. -/
def Store.mended (t : Store) : Store :=
  { zones := t.zones.mended zonesImage defaultZones
    heads := t.heads.mended headsImage defaultHeads
    fans := t.fans.mended fansImage defaultFans
    plans := t.plans.mended plansImage defaultPlans
    budgets := t.budgets.mended budgetsImage defaultBudgets
    base := t.base.mended baseImage defaultBase }

/-- R176: a group that fails its check is reported. -/
def State.reportIf (s : State) (b : Bool) (g : GroupId) : State := if b then s.groupFailed g else s

/-- R176: the groups that fail are reported in turn. -/
def State.reports (s : State) (f : GroupId → Bool) : State :=
  [(0 : GroupId), 1, 2, 3, 4, 5].foldl (fun s g => s.reportIf (f g) g) s

/-- R178 steps 1 and 2: the reset values with the mended groups loaded, before any report. -/
def State.filled (t : Store) : State :=
  { State.reset with
    zones := t.mended.zones.contents.map fun c => { config := c }
    heads := t.mended.heads.contents.map fun c => { config := c }
    fans := t.mended.fans.contents.map fun c => { config := c, state := if c.fitted then .enrolling else .absent }
    duty := (List.finRange 8).filter fun n => t.mended.fans.contents[n.val].fitted
    plan := { State.reset.plan with
      banks := t.mended.plans.contents.banks, map := t.mended.plans.contents.map, base := t.mended.base.contents.base }
    alloc := { State.reset.alloc with normal := t.mended.budgets.contents.normal, standby := t.mended.budgets.contents.standby }
    resolver := { State.reset.resolver with closures := t.mended.base.contents.closures }
    store := t.mended }

/-- A report changes the alarm list and the ports alone, and looks at nothing else but part time. -/
theorem State.reportIf_eq (s : State) (b : Bool) (g : GroupId) : s.reportIf b g = { s with
    alarms := if b then s.alarms.raise (.storeFault g) none s.partTime else s.alarms
    ports := if b then
        if s.alarms.full (.storeFault g) then (s.ports.map (PortState.raise .listFull)).map (PortState.raise .storeFault)
        else s.ports.map (PortState.raise .storeFault)
      else s.ports } := by
  cases b with
  | false => rfl
  | true =>
    simp only [State.reportIf, if_true, State.groupFailed, State.raiseAlarm]
    split <;> rfl

/-- R176: a group is loaded as it stands, or defaulted, stored again and reported; `put` stores and loads what it is given. -/
theorem load_eq {α : Type} (image : α → List Word) (d : α) (k : Sealed α) (put : Sealed α → State) (g : GroupId) :
    (if k.intact image then put k else State.groupFailed (put (sealWith image d)) g) =
      (put (k.mended image d)).reportIf (!k.intact image) g := by
  split
  · rename_i h; rw [Sealed.mended_of_intact _ h, h]; rfl
  · rename_i h; rw [Sealed.mended_of_not_intact _ (by simpa using h), Bool.eq_false_iff.2 h]; rfl

theorem State.loadZones_eq (s : State) : s.loadZones =
    State.reportIf ({ s with store := { s.store with zones := s.store.zones.mended zonesImage defaultZones } }.putZones
      (s.store.zones.mended zonesImage defaultZones).contents) (!s.store.zones.intact zonesImage) 0 :=
  load_eq zonesImage defaultZones s.store.zones
    (fun k => State.putZones { s with store := { s.store with zones := k } } k.contents) 0
theorem State.loadHeads_eq (s : State) : s.loadHeads =
    State.reportIf ({ s with store := { s.store with heads := s.store.heads.mended headsImage defaultHeads } }.putHeads
      (s.store.heads.mended headsImage defaultHeads).contents) (!s.store.heads.intact headsImage) 1 :=
  load_eq headsImage defaultHeads s.store.heads
    (fun k => State.putHeads { s with store := { s.store with heads := k } } k.contents) 1
theorem State.loadFans_eq (s : State) : s.loadFans =
    State.reportIf ({ s with store := { s.store with fans := s.store.fans.mended fansImage defaultFans } }.putFans
      (s.store.fans.mended fansImage defaultFans).contents) (!s.store.fans.intact fansImage) 2 :=
  load_eq fansImage defaultFans s.store.fans
    (fun k => State.putFans { s with store := { s.store with fans := k } } k.contents) 2
theorem State.loadPlans_eq (s : State) : s.loadPlans =
    State.reportIf ({ s with store := { s.store with plans := s.store.plans.mended plansImage defaultPlans } }.putPlans
      (s.store.plans.mended plansImage defaultPlans).contents) (!s.store.plans.intact plansImage) 3 :=
  load_eq plansImage defaultPlans s.store.plans
    (fun k => State.putPlans { s with store := { s.store with plans := k } } k.contents) 3
theorem State.loadBudgets_eq (s : State) : s.loadBudgets =
    State.reportIf ({ s with store := { s.store with budgets := s.store.budgets.mended budgetsImage defaultBudgets } }.putBudgets
      (s.store.budgets.mended budgetsImage defaultBudgets).contents) (!s.store.budgets.intact budgetsImage) 4 :=
  load_eq budgetsImage defaultBudgets s.store.budgets
    (fun k => State.putBudgets { s with store := { s.store with budgets := k } } k.contents) 4
theorem State.loadBase_eq (s : State) : s.loadBase =
    State.reportIf ({ s with store := { s.store with base := s.store.base.mended baseImage defaultBase } }.putBase
      (s.store.base.mended baseImage defaultBase).contents) (!s.store.base.intact baseImage) 5 :=
  load_eq baseImage defaultBase s.store.base
    (fun k => State.putBase { s with store := { s.store with base := k } } k.contents) 5

/-- R176, R178: what the six loads leave is the mended groups, with the failed ones reported in turn. -/
theorem State.loadGroups_eq (s : State) : s.volatileReset.loadGroups = (State.filled s.store).reports s.store.fails := by
  simp only [State.loadGroups, State.loadZones_eq, State.loadHeads_eq, State.loadFans_eq, State.loadPlans_eq,
    State.loadBudgets_eq, State.loadBase_eq, State.reports, List.foldl_cons, List.foldl_nil, State.reportIf_eq]
  rfl

end Sys2Proof.Machine

/-! ## Roles recomputed (R57 to R59) and rows in turn -/

namespace Sys2Proof.Machine

variable (s : State)

theorem State.triggerIf_eq (b : Bool) : s.triggerIf b = { s with alloc := { s.alloc with due := s.alloc.due || b } } := by
  cases b
  · simp [State.triggerIf]
  · simp [State.triggerIf, State.trigger]

/-! ### The recomputation of the roles -/

/-- R57 to R59, R109: the roles, the indications, smoke service and the class worked out again, with the trigger of their changes;
smoke service is not handed on yet. -/
def State.rolesTaken : State :=
  { s with
    resolver := { s.resolver with
      roles := s.rolesNow, layers := s.layersNow, smoke := s.takeRoles.smokeNow, cls := s.classNow }
    indications := Vector.ofFn fun z : ZoneId => indicationOf s.rolesNow[z.val] (s.extractOf z) (s.makeUpOf z)
    alloc := { s.alloc with
      due := s.alloc.due || (s.rolesNow != s.resolver.roles ||
        (s.takeRoles.smokeNow != s.resolver.smoke || s.classNow != s.resolver.cls)) } }

/-- R58, R59: a recomputation takes the roles and hands smoke service on. -/
theorem State.recomputeRoles_eq : s.recomputeRoles = s.rolesTaken.handSmoke s.resolver.smoke := by
  simp only [State.recomputeRoles, State.reviewSmoke, State.takeRoles, State.indicateAll, State.triggerIf_eq, State.rolesTaken,
    Bool.or_assoc]
  rfl

theorem State.rolesTaken_lasting : s.rolesTaken.lasting = { s.lasting with resolver := s.rolesTaken.resolver } := rfl

theorem State.handSmoke_samePath (b : Bool) : s.SamePath (s.handSmoke b) := by
  unfold State.handSmoke
  split
  · exact s.smokeBegins_samePath
  · split
    · exact s.smokeEnds_samePath
    · exact .refl _

/-- R59: handing smoke service on leaves the resolver. -/
@[simp] theorem State.recomputeRoles_resolver : s.recomputeRoles.resolver = s.rolesTaken.resolver := by
  rw [State.recomputeRoles_eq]; exact resolver_of_lasting (State.handSmoke_samePath _ _).lasting

/-- R58, R59: of all that lasts a recomputation of the roles changes the resolver alone. -/
theorem State.recomputeRoles_lasting :
    s.recomputeRoles.lasting = { s.lasting with resolver := s.recomputeRoles.resolver } := by
  rw [State.recomputeRoles_resolver, State.recomputeRoles_eq, (State.handSmoke_samePath _ _).lasting, State.rolesTaken_lasting]

theorem State.rolesTaken_reworked : s.rolesTaken.resolver = s.resolver.reworked s.rolesTaken.resolver := by
  simp only [State.rolesTaken, Resolver.reworked]

/-- R57, R59: and of the resolver the roles, the layers, smoke service and the class. -/
theorem State.recomputeRoles_reworked : s.recomputeRoles.resolver = s.resolver.reworked s.recomputeRoles.resolver := by
  rw [State.recomputeRoles_resolver]; exact s.rolesTaken_reworked

/-- The roles are judged from the resolver, the plans and the fitted flags of the zones. -/
theorem State.RolesSound.congr {s t : State} (h : s.RolesSound) (hr : t.resolver = s.resolver) (hp : t.plan = s.plan)
    (hz : ∀ z, (t.zone z).config.fitted = (s.zone z).config.fitted) : t.RolesSound := by
  refine ⟨fun z => ?_, ?_, ?_⟩
  · have := h.roles z
    simpa only [State.bank, hr, hp] using this
  · simpa only [hr, hz] using h.smoke
  · have hb : t.bank t.plan.current = s.bank s.plan.current := by simp only [State.bank, hp]
    rw [hr, hb]; exact h.cls

theorem State.rolesTaken_rolesSound : s.rolesTaken.RolesSound := by
  refine State.rolesSound_iff.2 ⟨fun z => ?_, ?_, rfl⟩
  · have h1 : s.rolesTaken.resolver.roles[z.val] = (s.resolved z).1 := by simp [State.rolesTaken, State.rolesNow]
    have h2 : s.rolesTaken.resolver.layers[z.val] = (s.resolved z).2 := by simp [State.rolesTaken, State.layersNow]
    have h3 : s.rolesTaken.resolved z = s.resolved z := by
      simp only [State.resolved, State.rolesTaken, State.bank]; rfl
    rw [h1, h2, h3]
  · have h1 : ∀ z, s.rolesTaken.role z = s.takeRoles.role z := fun z => by
      simp only [State.takeRoles, State.triggerIf_eq, State.rolesTaken, State.role]
    have h2 : ∀ z, s.rolesTaken.zone z = s.takeRoles.zone z := fun z => by
      simp only [State.takeRoles, State.triggerIf_eq, State.rolesTaken, State.zone]
    have h3 : s.rolesTaken.smokeNow = s.takeRoles.smokeNow := by simp only [State.smokeNow, h1, h2]
    rw [h3]
    simp only [State.rolesTaken]

/-- R57 to R59: the roles are sound after a recomputation. -/
theorem State.recomputeRoles_rolesSound : s.recomputeRoles.RolesSound := by
  refine s.rolesTaken_rolesSound.congr s.recomputeRoles_resolver ?_ fun z => ?_
  · rw [State.recomputeRoles_eq]; exact plan_of_lasting (State.handSmoke_samePath _ _).lasting
  · rw [State.recomputeRoles_eq, (State.handSmoke_samePath _ _).zone]

theorem State.rolesTaken_indicated : s.rolesTaken.Indicated := fun z => by
  have h : s.rolesTaken.indications[z.val] = indicationOf s.rolesNow[z.val] (s.extractOf z) (s.makeUpOf z) := by
    simp [State.rolesTaken]
  rw [h]; rfl

/-! ### Every zone in turn -/

variable {s}

theorem foldl_keeps {α : Type} {P : State → Prop} {f : State → α → State} (h : ∀ s a, P s → P (f s a)) (l : List α) :
    ∀ s, P s → P (l.foldl f s) := by
  induction l with
  | nil => exact fun _ hs => hs
  | cons a l ih => exact fun s hs => ih _ (h s a hs)

theorem foldl_fixed {α : Type} {f : State → α → State} (h : ∀ a, f s a = s) (l : List α) : l.foldl f s = s :=
  foldl_keeps (P := fun t => t = s) (fun t a ht => by rw [ht, h a]) l s rfl

/-- An operation on each zone's row that reads no other row: each row is left as if it had been alone. -/
theorem State.eachZone_zone {f : State → ZoneId → State} (hh : ∀ s z, (f s z).heads = s.heads)
    (ho : ∀ s z y, y ≠ z → (f s z).zone y = s.zone y)
    (hs : ∀ s t z, t.heads = s.heads → t.zone z = s.zone z → (f t z).zone z = (f s z).zone z) (s : State) (z : ZoneId) :
    (s.eachZone f).zone z = (f s z).zone z := by
  have key : ∀ (l : List ZoneId) (t : State), l.Nodup → t.heads = s.heads → t.zone z = s.zone z →
      (l.foldl f t).zone z = if z ∈ l then (f s z).zone z else s.zone z := by
    intro l
    induction l with
    | nil => intro t _ _ h; simpa using h
    | cons y l ih =>
      intro t hn h1 h2
      obtain ⟨hy, hn⟩ := List.nodup_cons.1 hn
      rw [List.foldl_cons]
      by_cases e : z = y
      · subst e
        have keep : ∀ (l : List ZoneId) (u : State), z ∉ l → (l.foldl f u).zone z = u.zone z := by
          intro l
          induction l with
          | nil => exact fun _ _ => rfl
          | cons x l ih =>
            intro u hx
            obtain ⟨hne, hx⟩ := List.ne_and_not_mem_of_not_mem_cons hx
            rw [List.foldl_cons, ih _ hx, ho _ _ _ hne]
        rw [keep l _ hy, hs s t z h1 h2, if_pos List.mem_cons_self]
      · rw [ih _ hn ((hh t y).trans h1) ((ho t y z e).trans h2)]
        simp [e]
  rw [State.eachZone, key _ s (List.nodup_finRange 16) rfl rfl, if_pos (List.mem_finRange z)]

theorem State.eachZone_heads {f : State → ZoneId → State} (hh : ∀ s z, (f s z).heads = s.heads) (s : State) :
    (s.eachZone f).heads = s.heads :=
  foldl_keeps (P := fun t => t.heads = s.heads) (fun t z h => (hh t z).trans h) _ s rfl

/-- R178 step 5: every row is worked out as if it were alone. -/
theorem State.firstTargets_zone (s : State) (z : ZoneId) : s.firstTargets.zone z = (s.refreshZone z).zone z := by
  refine State.eachZone_zone (fun s z => s.refreshZone_heads z) (fun s z y h => s.refreshZone_zone_other h)
    (fun s t z h1 h2 => ?_) s z
  have hv : ∀ g, t.gasValue z g = s.gasValue z g := fun g => by simp only [State.gasValue, h1]
  have hf : ∀ g, t.anyFailed z g = s.anyFailed z g := fun g => by simp only [State.anyFailed, h1]
  have hr : ∀ q, t.rowNow z q = s.rowNow z q := fun q => by
    simp only [State.rowNow, State.rampNow, State.fallbackNow, hv, hf, h2]
  rw [State.refreshZone_zone, State.refreshZone_zone, if_pos rfl, if_pos rfl, h2, hr]

/-- R23: the boost of each zone of a set starts or ends. -/
theorem State.eachZone_setBoost_zone (c : Zone → ZoneId → Bool) (b : Option Boost) (s : State) (z : ZoneId) :
    (s.eachZone fun q z => if c (q.zone z) z then q.setBoost z b else q).zone z =
      if c (s.zone z) z then (s.setBoost z b).zone z else s.zone z := by
  rw [State.eachZone_zone (f := fun q z => if c (q.zone z) z then q.setBoost z b else q)]
  · split <;> rfl
  · intro s z; split
    · exact s.setBoost_heads z b
    · rfl
  · intro s z y h; split
    · rw [State.setBoost_zone, if_neg h]
    · rfl
  · intro s t z _ h
    rw [h]; split
    · rw [State.setBoost_zone, State.setBoost_zone, if_pos rfl, if_pos rfl, h]
    · exact h

end Sys2Proof.Machine

/-! ## Resets: the start of the blocks (R37, R178 steps 3 to 8) -/

namespace Sys2Proof.Machine

variable {s t u v c g : State}

/-! ### The base plan (R37) -/

/-- R37: the base plan corrected and stored, before its report. -/
def State.based (s : State) : State := if (s.bank s.plan.base).kind = .smoke then s.storeBase s.lowestNormal else s

theorem State.correctBase_eq (s : State) : s.correctBase = s.based.reportIf ((s.bank s.plan.base).kind == .smoke) 5 := by
  unfold State.correctBase State.based
  cases h : (s.bank s.plan.base).kind <;> rfl

theorem State.based_reportIf (s : State) (b : Bool) (g : GroupId) : (s.reportIf b g).based = s.based.reportIf b g := by
  have hl : (s.reportIf b g).lowestNormal = s.lowestNormal := by rw [State.reportIf_eq]; rfl
  have hb : (s.reportIf b g).bank (s.reportIf b g).plan.base = s.bank s.plan.base := by rw [State.reportIf_eq]; rfl
  unfold State.based
  rw [hl, hb]
  by_cases h : (s.bank s.plan.base).kind = .smoke
  · rw [if_pos h, if_pos h]; simp only [State.reportIf_eq]; rfl
  · rw [if_neg h, if_neg h]

theorem State.based_reports (s : State) (f : GroupId → Bool) : (s.reports f).based = s.based.reports f := by
  simp only [State.reports, List.foldl_cons, List.foldl_nil, State.based_reportIf]

/-- Alarm list and ports apart, u is s. -/
def State.Told (s u : State) : Prop := u = { s with alarms := u.alarms, ports := u.ports }

theorem State.Told.refl (s : State) : s.Told s := rfl
theorem State.Told.trans (h : s.Told t) (k : t.Told u) : s.Told u := by
  unfold State.Told at *
  rw [k, h]
theorem State.reportIf_told (s : State) (b : Bool) (g : GroupId) : s.Told (s.reportIf b g) := by
  rw [State.reportIf_eq]; rfl
theorem State.reports_told (s : State) (f : GroupId → Bool) : s.Told (s.reports f) :=
  foldl_keeps (P := s.Told) (fun _ _ h => h.trans (State.reportIf_told _ _ _)) _ s (.refl s)

/-- R178 steps 1 to 3: the part with its groups loaded and its base plan corrected, every failed group reported. -/
theorem State.corrected_eq (s : State) : s.volatileReset.loadGroups.correctBase =
    ((State.filled s.store).based.reports s.store.fails).reportIf
      (((State.filled s.store).bank (State.filled s.store).plan.base).kind == .smoke) 5 := by
  have h := (State.filled s.store).reports_told s.store.fails
  have hb : ((State.filled s.store).reports s.store.fails).bank ((State.filled s.store).reports s.store.fails).plan.base =
      (State.filled s.store).bank (State.filled s.store).plan.base := by rw [h]; rfl
  rw [State.loadGroups_eq, State.correctBase_eq, State.based_reports, hb]

/-! ### What the start of the blocks begins from -/

/-- R29, R74, R97, R102, R111, R154: the loaded part at its volatile reset values. -/
structure State.Loaded (c : State) : Prop where
  zones : ∀ z, c.zone z = { config := (c.zone z).config }
  heads : ∀ h, c.head h = { config := (c.head h).config }
  fans : ∀ n, c.fan n = { config := (c.fan n).config, state := if (c.fan n).config.fitted then .enrolling else .absent }
  duty : c.duty = (List.finRange 8).filter fun n => (c.fan n).config.fitted
  grace : c.grace = none
  extract : ∀ z, c.extractOf z = {}
  makeUp : ∀ z, c.makeUpOf z = {}
  pathProven : c.pathProven = false
  alloc : c.alloc = { normal := c.alloc.normal, standby := c.alloc.standby }
  line : c.line = {}
  plan : c.plan = { State.reset.plan with banks := c.plan.banks, map := c.plan.map, base := c.plan.base }
  resolver : c.resolver = { State.reset.resolver with closures := c.resolver.closures }
  partTime : c.partTime = 0
  pending : c.pending = []

theorem State.filled_loaded (t : Store) : (State.filled t).Loaded where
  zones := fun z => by simp [State.zone, State.filled]
  heads := fun h => by simp [State.head, State.filled]
  fans := fun n => by simp [State.fan, State.filled]
  duty := by simp [State.fan, State.filled]
  grace := rfl
  extract := fun z => by simp [State.extractOf, State.filled, State.reset]
  makeUp := fun z => by simp [State.makeUpOf, State.filled, State.reset]
  pathProven := rfl
  alloc := rfl
  line := rfl
  plan := rfl
  resolver := rfl
  partTime := rfl
  pending := rfl

theorem State.Loaded.based (h : c.Loaded) : c.based.Loaded := by
  unfold State.based
  split
  · obtain ⟨h1, h2, h3, h4, h5, h6, h7, h8, h9, h10, h11, h12, h13, h14⟩ := h
    exact ⟨h1, h2, h3, h4, h5, h6, h7, h8, h9, h10, by simp only [State.storeBase]; rw [h11], h12, h13, h14⟩
  · exact h

theorem State.Loaded.told (h : c.Loaded) (k : c.Told u) : u.Loaded := by
  obtain ⟨h1, h2, h3, h4, h5, h6, h7, h8, h9, h10, h11, h12, h13, h14⟩ := h
  rw [k]
  exact ⟨h1, h2, h3, h4, h5, h6, h7, h8, h9, h10, h11, h12, h13, h14⟩

/-- R178: the part before its blocks start. -/
theorem State.corrected_loaded (s : State) : s.volatileReset.loadGroups.correctBase.Loaded := by
  rw [State.corrected_eq]
  exact (State.filled_loaded s.store).based.told ((State.reports_told _ _).trans (State.reportIf_told _ _ _))

/-! ### The steps of the start -/

/-- R178 steps 3 to 7 after the correction of the base plan. -/
def State.begun (c : State) : State :=
  (((((((c.takeBase).firstEntries).recomputeRoles).firstTargets).rebuildPolls).startExtracts).startMakeUps).startEnrolments

theorem State.Loaded.fan_state (h : c.Loaded) (n : FanId) :
    (c.fan n).state = if (c.fan n).config.fitted then .enrolling else .absent := congrArg Fan.state (h.fans n)

/-- R86, R90: at the start no fan rests and no grace timer runs, so smoke service is handed on to nothing. -/
theorem State.handSmoke_of_rest (hn : ∀ n, (s.fan n).state ≠ .restartHold) (hg : s.grace = none) : s.handSmoke false = s := by
  have hs : { s with grace := none } = s := by rw [← hg]
  unfold State.handSmoke
  split
  · unfold State.smokeBegins State.eachFan
    rw [hs]
    exact foldl_fixed (fun n => if_neg (hn n)) _
  · rfl

/-- R178 step 4, with the plans, the record and the roles of the start. -/
theorem State.Loaded.roles (h : c.Loaded) : c.takeBase.firstEntries.recomputeRoles = c.takeBase.firstEntries.rolesTaken := by
  have hs : c.takeBase.firstEntries.resolver.smoke = false := by
    show c.resolver.smoke = false
    rw [h.resolver]; rfl
  rw [State.recomputeRoles_eq, hs]
  refine State.handSmoke_of_rest (fun n => ?_) h.grace
  show (c.fan n).state ≠ .restartHold
  rw [h.fan_state n]
  split <;> simp

/-- What the starts of dampers and enrolments leave: all but the dampers, their indications and the queue. -/
structure State.Starting (g s : State) : Prop where
  lasting : s.lasting = g.lasting
  fans : s.fans = g.fans
  alloc : s.alloc = g.alloc
  plant : { s.plant with extract := g.extract, makeUp := g.makeUp, indications := g.indications } = g.plant
  quiet : g.Quiet s
  line : { s.line with queue := g.line.queue } = g.line

theorem State.Starting.refl (g : State) : g.Starting g := ⟨rfl, rfl, rfl, rfl, .refl g, rfl⟩
theorem State.Starting.trans (h : s.Starting t) (k : t.Starting u) : s.Starting u := by
  refine ⟨k.lasting.trans h.lasting, k.fans.trans h.fans, k.alloc.trans h.alloc, ?_, h.quiet.trans k.quiet, ?_⟩
  · rw [← h.plant, ← k.plant]
  · rw [← h.line, ← k.line]
theorem State.Starting.link (h : g.Starting s) (d : Device) : s.link d = g.link d := by
  have := congrArg FieldLine.links h.line
  simp only [State.link, ← this]
theorem State.Starting.zone (h : g.Starting s) (z : ZoneId) : s.zone z = g.zone z := by
  simp only [State.zone, zones_of_lasting h.lasting]
theorem State.Starting.fan (h : g.Starting s) (n : FanId) : s.fan n = g.fan n := by simp only [State.fan, h.fans]
theorem State.Starting.deviceFitted (h : g.Starting s) (d : Device) : s.deviceFitted d = g.deviceFitted d := by
  cases d with
  | head k => simp only [State.deviceFitted, State.head, heads_of_lasting h.lasting]
  | drive n => simp only [State.deviceFitted, h.fan]
  | extract z => simp only [State.deviceFitted, h.zone]
  | makeUp z => simp only [State.deviceFitted, h.zone]

theorem State.enqueue_starting (s : State) (o : Order) : s.Starting (s.enqueue o) := by
  unfold State.enqueue; split <;> exact ⟨rfl, rfl, rfl, rfl, ⟨rfl, rfl⟩, rfl⟩
theorem State.modExtract_starting (s : State) (z : ZoneId) (f : ExtractDamper → ExtractDamper) : s.Starting (s.modExtract z f) :=
  ⟨rfl, rfl, rfl, rfl, ⟨rfl, rfl⟩, rfl⟩
theorem State.modMakeUp_starting (s : State) (z : ZoneId) (f : MakeUpDamper → MakeUpDamper) : s.Starting (s.modMakeUp z f) :=
  ⟨rfl, rfl, rfl, rfl, ⟨rfl, rfl⟩, rfl⟩
theorem State.startExtract_starting (s : State) (z : ZoneId) : s.Starting (s.startExtract z) :=
  ((s.modExtract_starting z _).trans (State.modExtract_starting _ z _)).trans (State.enqueue_starting _ _)
theorem State.startMakeUp_starting (s : State) (z : ZoneId) : s.Starting (s.startMakeUp z) :=
  ((s.modMakeUp_starting z _).trans (State.modMakeUp_starting _ z _)).trans (State.enqueue_starting _ _)

/-- R147: what the queue is after an owner has queued a command. -/
theorem State.enqueue_queue (s : State) (o : Order) : (s.enqueue o).line.queue =
    if s.deviceFitted o.device && !(s.link o.device).lost then enter s.line.queue o else s.line.queue := by
  unfold State.enqueue; split <;> rfl

theorem State.startExtract_queue (s : State) (z : ZoneId) (hz : (s.zone z).config.fitted = true)
    (hl : (s.link (.extract z)).lost = false) : (s.startExtract z).line.queue = enter s.line.queue (.set z 0) := by
  have hc : ((s.modExtract z fun _ => {}).extractOf z).command = 0 := by rw [State.modExtract_extractOf_self]
  have h1 := (s.modExtract_starting z fun _ => {}).trans (State.modExtract_starting _ z fun d =>
    { d with state := .moving, timer := (s.modExtract z fun _ => {}).travelTime z })
  unfold State.startExtract State.driveExtract
  rw [State.enqueue_queue, if_pos, hc]
  · rfl
  · rw [h1.deviceFitted, h1.link]
    simp only [Order.device, State.deviceFitted, hz, hl, Bool.not_false, Bool.and_self]

theorem State.startMakeUp_queue (s : State) (z : ZoneId) (hz : (s.zone z).config.fitted = true)
    (hl : (s.link (.makeUp z)).lost = false) : (s.startMakeUp z).line.queue = enter s.line.queue (.close z) := by
  have hc : ((s.modMakeUp z fun _ => {}).makeUpOf z).command = .closed := by rw [State.modMakeUp_makeUpOf_self]
  have h1 := (s.modMakeUp_starting z fun _ => {}).trans (State.modMakeUp_starting _ z fun m =>
    { m with state := m.command.travelling, timer := some Config.makeUpTravel })
  unfold State.startMakeUp State.driveMakeUp
  rw [State.enqueue_queue, hc, makeUpOrder, if_pos]
  · rfl
  · rw [h1.deviceFitted, h1.link]
    simp only [Order.device, State.deviceFitted, hz, hl, Bool.not_false, Bool.and_self]

theorem State.startExtract_extractOf (s : State) (z : ZoneId) :
    (s.startExtract z).extractOf z = { timer := some (s.zone z).config.travelLimit } := by
  unfold State.startExtract
  rw [State.driveExtract_extractOf, State.modExtract_extractOf_self]; rfl
theorem State.startMakeUp_makeUpOf (s : State) (z : ZoneId) : (s.startMakeUp z).makeUpOf z = { timer := some 60 } := by
  unfold State.startMakeUp
  rw [State.driveMakeUp_makeUpOf, State.modMakeUp_makeUpOf_self]; rfl
theorem State.startExtract_extractOf_other (s : State) {z y : ZoneId} (h : y ≠ z) :
    (s.startExtract z).extractOf y = s.extractOf y :=
  ((s.modExtract_onlyExtract z _).trans (State.driveExtract_onlyExtract _ z)).others y h
theorem State.startMakeUp_makeUpOf_other (s : State) {z y : ZoneId} (h : y ≠ z) :
    (s.startMakeUp z).makeUpOf y = s.makeUpOf y :=
  ((s.modMakeUp_onlyMakeUp z _).trans (State.driveMakeUp_onlyMakeUp _ z)).others y h
theorem State.startExtract_makeUpOf (s : State) (z y : ZoneId) : (s.startExtract z).makeUpOf y = s.makeUpOf y := by
  have := congrArg Plant.makeUp ((s.modExtract_onlyExtract z fun _ => {}).trans (State.driveExtract_onlyExtract _ z)).plant
  exact congrArg (fun v : Vector MakeUpDamper 16 => v[y.val]) this
theorem State.startMakeUp_extractOf (s : State) (z y : ZoneId) : (s.startMakeUp z).extractOf y = s.extractOf y := by
  have := congrArg Plant.extract ((s.modMakeUp_onlyMakeUp z fun _ => {}).trans (State.driveMakeUp_onlyMakeUp _ z)).plant
  exact congrArg (fun v : Vector ExtractDamper 16 => v[y.val]) this

/-- R109: the indications stay in step while the dampers start. -/
theorem State.modExtract_indicated (h : s.Indicated) (z : ZoneId) (f : ExtractDamper → ExtractDamper) :
    (s.modExtract z f).Indicated :=
  h.indicate z rfl (fun _ => rfl) (fun _ hy => upd_get_other _ _ hy) fun _ _ => rfl
theorem State.modMakeUp_indicated (h : s.Indicated) (z : ZoneId) (f : MakeUpDamper → MakeUpDamper) :
    (s.modMakeUp z f).Indicated :=
  h.indicate z rfl (fun _ => rfl) (fun _ _ => rfl) fun _ hy => upd_get_other _ _ hy
theorem State.enqueue_indicated (h : s.Indicated) (o : Order) : (s.enqueue o).Indicated := by
  unfold State.enqueue; split <;> exact h
theorem State.startExtract_indicated (h : s.Indicated) (z : ZoneId) : (s.startExtract z).Indicated :=
  State.enqueue_indicated (State.modExtract_indicated (State.modExtract_indicated h z _) z _) _
theorem State.startMakeUp_indicated (h : s.Indicated) (z : ZoneId) : (s.startMakeUp z).Indicated :=
  State.enqueue_indicated (State.modMakeUp_indicated (State.modMakeUp_indicated h z _) z _) _

/-- R78: a fan that is ENROLLING with nothing resolved stays as it is when it enters ENROLLING; its OFFER is queued. -/
theorem State.enterEnrolling_of_new {n : FanId} (h : s.fan n = { config := (s.fan n).config, state := .enrolling }) :
    s.enterEnrolling n = s.enqueue (.offer n) := by
  have h1 : (s.modFan n fun f => { f with ability := none, mode := none, cls := none, minSpeed := none, plainAnswers := 0 }) = s := by
    have : (fun f : Fan => { f with ability := none, mode := none, cls := none, minSpeed := none, plainAnswers := 0 })
        (s.fan n) = s.fan n := by rw [h]
    simp only [State.modFan, upd]
    simp only [State.fan] at this
    rw [this, Vector.set_getElem_self]
  have h2 : s.enterState n .enrolling none = s := by
    have : { s.fan n with state := .enrolling, timer := none } = s.fan n := by rw [h]
    have hm : eligibilityMove s.resolver.smoke (s.fan n).state .enrolling = false := by
      rw [h]; simp [eligibilityMove, FanState.inGroup]
    rw [State.enterState, hm]
    simp only [State.triggerIf, State.modFan, upd]
    simp only [State.fan] at this
    rw [this, Vector.set_getElem_self]
    rfl
  rw [State.enterEnrolling, h1, h2]

/-! ### The queue of the start (R178 step 7) -/

/-- Commands for different devices, none of them queued yet, stand in the queue in the order they are given. -/
theorem foldl_queue {α : Type} {f : State → α → State} {fits : α → Bool} {o : α → Order} {P : State → Prop}
    (hP : ∀ s a, P s → P (f s a))
    (hq : ∀ s a, P s → (f s a).line.queue = if fits a then enter s.line.queue (o a) else s.line.queue)
    (hinj : ∀ a b, (o a).device = (o b).device → a = b) (l : List α) : ∀ s, P s → l.Nodup →
      (∀ a ∈ l, ∀ x ∈ s.line.queue, x.device ≠ (o a).device) →
      (l.foldl f s).line.queue = s.line.queue ++ (l.filter fits).map o := by
  induction l with
  | nil => intro s _ _ _; simp
  | cons a l ih =>
    intro s hs hn hfree
    obtain ⟨ha, hn⟩ := List.nodup_cons.1 hn
    have hstep : (f s a).line.queue = if fits a then s.line.queue ++ [o a] else s.line.queue := by
      rw [hq s a hs]
      split
      · unfold enter
        rw [if_neg]
        simpa using hfree a List.mem_cons_self
      · rfl
    rw [List.foldl_cons, ih _ (hP s a hs) hn, hstep]
    · by_cases hf : fits a = true
      · simp [hf]
      · simp [hf]
    · intro b hb x hx
      rw [hstep] at hx
      split at hx
      · rcases List.mem_append.1 hx with hx | hx
        · exact hfree b (List.mem_cons_of_mem _ hb) x hx
        · obtain rfl := List.mem_singleton.1 hx
          intro e
          exact ha (hinj a b e ▸ hb)
      · exact hfree b (List.mem_cons_of_mem _ hb) x hx

end Sys2Proof.Machine

/-! ## The reset state (R29, R36, R74, R92, R142, R154, R164, R177, R178) -/

namespace Sys2Proof.Machine

/-! ### Each invariant of the reset state -/

theorem State.reset_alarms_sound : State.reset.alarms.Sound where
  entries := fun _ m => nomatch m
  length := by decide +kernel
  keys := List.Pairwise.nil
  sequences := List.Pairwise.nil
  counter := by decide +kernel
  free := fun _ m => nomatch m
  cursors := fun p => by cases p <;> decide +kernel

theorem State.reset_dutySound : State.reset.DutySound where
  once := by decide +kernel
  fitted := by decide +kernel
  runSet := by decide +kernel

theorem State.reset_fan (n : FanId) : State.reset.fan n = {} := by
  revert n; decide +kernel
theorem State.reset_fansSound : State.reset.FansSound := fun n => by
  rw [State.reset_fan n]
  exact ⟨by decide, by decide, by decide⟩

theorem State.reset_link (d : Device) : State.reset.link d = {} := by
  simp [State.link, State.reset]
theorem State.reset_lineSound : State.reset.LineSound where
  polls := by decide +kernel
  position := fun h => absurd (by decide +kernel) h
  once := by decide +kernel
  queued := by decide +kernel
  row := by decide +kernel
  links := fun d => by rw [State.reset_link]; decide
  flight := fun _ h => nomatch h
  idle := fun _ => by decide +kernel

theorem State.reset_dampersSound : State.reset.DampersSound where
  extract := by decide +kernel
  makeUp := by decide +kernel
  path := by unfold State.PathSound State.ProvesPath; decide +kernel
  indications := by decide +kernel

theorem State.reset_incidentSound : State.reset.IncidentSound where
  mapped := by decide +kernel
  saved := by decide +kernel
  normal := by decide +kernel
  quiet := by decide +kernel
  fire := by decide +kernel
  purge := by decide +kernel
  cause := fun h => absurd (by decide +kernel) h
  manual := by decide +kernel
  control := by decide +kernel
  fitted := by decide +kernel

theorem State.reset_storeSound : State.reset.StoreSound where
  zones := by decide +kernel
  heads := by decide +kernel
  fans := by decide +kernel
  plans := by decide +kernel
  budgets := by decide +kernel
  base := by decide +kernel

theorem State.reset_rolesSound : State.reset.RolesSound where
  roles := by decide +kernel
  smoke := by decide +kernel
  cls := by decide +kernel

theorem State.reset_firesListed : State.reset.FiresListed := by
  unfold State.FiresListed; decide +kernel

theorem State.reset_zone (z : ZoneId) : State.reset.zone z = {} := by
  revert z; decide +kernel

/-- R16 to R18: no head is fitted after a reset to the defaults, so no gas has a value. -/
theorem State.reset_gasSound (z : ZoneId) (g : Gas) : State.reset.GasSound z g ((State.reset.zone z).gas g) := by
  have unfitted : ∀ h, (State.reset.head h).config.fitted = false := by decide +kernel
  have senseless : ∀ h, ¬State.reset.Senses h z g := fun h m => by simpa [unfitted h] using m.1
  have row : (State.reset.zone z).gas g = {} := by rw [State.reset_zone]; cases g <;> rfl
  rw [row]
  exact ⟨fun h m => absurd m (senseless h), ⟨fun f => (nomatch f), fun ⟨_, h, m, _⟩ => absurd m (senseless h)⟩, rfl⟩

theorem State.reset_zonesSound : State.reset.ZonesSound where
  zones := fun z => by
    rw [State.reset_zone]
    exact ⟨by unfold ZoneConfig.percents; decide, by decide, by decide, by decide, by decide, by decide, by decide⟩
  gas := State.reset_gasSound
  targets := fun z => by rw [State.reset_zone]; rfl
  stored := by unfold ZoneConfig.percents; decide +kernel
  heads := by intro h g; cases g <;> revert h <;> decide +kernel

theorem State.reset_portsSound : State.reset.PortsSound :=
  fun p => ⟨by cases p <;> decide +kernel, by cases p <;> decide +kernel⟩

/-- Settles O60, invariant by invariant. -/
theorem resetMeetsEveryInvariant : Obligations.ResetMeetsEveryInvariant := by
  unfold Obligations.ResetMeetsEveryInvariant
  exact ⟨State.reset_alarms_sound, State.reset_dutySound, State.reset_fansSound, State.reset_lineSound,
    State.reset_dampersSound, State.reset_incidentSound, State.reset_storeSound, State.reset_rolesSound,
    State.reset_firesListed, State.reset_zonesSound, State.reset_portsSound, Or.inl (by decide +kernel), rfl⟩

end Sys2Proof.Machine

/-! ## Requests: their operands and their refusals (R158, R165, R172) -/

namespace Sys2Proof.Machine

variable {s : State} {p : Port} {row : CatalogueRow} {index : Byte} {data : List Word} {body : State → Answer} {st : Status}

/-! ### Refused requests -/

/-- R158: a request that passes the general checks and that its owner refuses. -/
theorem serve_refused (hd : (s.port p).decoder = .waiting) (hp : row.ports.contains p = true) (hl : row.words ≤ 32)
    (hw : data.length = row.words) (hb : body (s.frameTaken p) = refuse (s.frameTaken p) st) :
    Host.Outcome.next (φ := Fault) (ρ := Refusal) (serve row p index data body s) =
      .next ((s.frameTaken p).modPort p fun q => { q with response := some ⟨st, row.code, index, []⟩ }) := by
  rw [serve_owned hd (hw ▸ hl) hp hw, hb]; rfl

/-! ### Indices -/

theorem zoneOf_eq_none (h : index = 0 ∨ 16 < index.toNat) : zoneOf index = none := by
  refine dif_neg fun k => ?_
  rcases h with rfl | h
  · exact absurd k.1 (by decide)
  · omega
theorem headOf_eq_none (h : index = 0 ∨ 48 < index.toNat) : headOf index = none := by
  refine dif_neg fun k => ?_
  rcases h with rfl | h
  · exact absurd k.1 (by decide)
  · omega
theorem fanOf_eq_none (h : index = 0 ∨ 8 < index.toNat) : fanOf index = none := by
  refine dif_neg fun k => ?_
  rcases h with rfl | h
  · exact absurd k.1 (by decide)
  · omega
theorem planOf_eq_none (h : 7 < index.toNat) : planOf index = none := dif_neg (by omega)

/-- Settles O14, request by request: each owner looks at its index first. -/
theorem indexThatNamesNothingIsRefused : Obligations.IndexThatNamesNothingIsRefused := by
  unfold Obligations.IndexThatNamesNothingIsRefused
  intro index data s hd
  refine ⟨fun hi => ?_, fun hi hl => ?_, fun hi hl => ?_, fun hi => ?_, fun hi => ?_⟩
  · have hz := zoneOf_eq_none hi
    exact ⟨fun hl => serve_refused (hd _) rfl (by decide) hl (by simp only [writeZoneBody, hz]),
      fun hl => serve_refused (hd _) rfl (by decide) hl (by simp only [setZoneClosureBody, hz]),
      fun hl => serve_refused (hd _) rfl (by decide) (by rw [hl]; rfl) (by simp only [fireAlarmBody, hz]),
      fun hl => serve_refused (hd _) rfl (by decide) hl (by simp only [setZoneOverrideBody, hz])⟩
  · have hz := zoneOf_eq_none (.inr hi)
    have h0 : index ≠ 0 := by rintro rfl; exact absurd hi (by decide)
    exact serve_refused (hd _) rfl (by decide) hl (by simp only [setBoostBody, hz, if_neg h0])
  · exact serve_refused (hd _) rfl (by decide) hl (by simp only [writeHeadBody, headOf_eq_none hi])
  · have hn := fanOf_eq_none hi
    exact ⟨fun hl => serve_refused (hd _) rfl (by decide) hl (by simp only [writeFanBody, hn]),
      fun hl => serve_refused (hd _) rfl (by decide) hl (by simp only [setFanServiceBody, hn]),
      fun hl => serve_refused (hd _) rfl (by decide) (by rw [hl]; rfl) (by simp only [reenrolFanBody, hn]),
      fun hl => serve_refused (hd _) rfl (by decide) (by rw [hl]; rfl) (by simp only [resetFanBody, hn]),
      fun hl => serve_refused (hd _) rfl (by decide) (by rw [hl]; rfl) (by simp only [resetFanBody, hn]),
      fun hl => serve_refused (hd _) rfl (by decide) hl (by simp only [setFanBlockBody, hn])⟩
  · have hk := planOf_eq_none hi
    exact ⟨fun hl => serve_refused (hd _) rfl (by decide) hl (by simp only [writePlanBody, hk]),
      fun hl => serve_refused (hd _) rfl (by decide) hl (by simp only [writePlanBody, hk]),
      fun hl => serve_refused (hd _) rfl (by decide) (by rw [hl]; rfl) (by simp only [selectBasePlanBody, hk]),
      fun hl => serve_refused (hd _) rfl (by decide) hl (by simp only [setPlanKindBody, hk]),
      fun hl => serve_refused (hd _) rfl (by decide) (by rw [hl]; rfl) (by simp only [selectPlanBody, hk])⟩

/-! ### Named values -/

theorem Word.ne_of_lt {w : Word} {k : Nat} (h : k < w.toNat) (i : Word) (hi : i.toNat ≤ k) : w ≠ i := by
  rintro rfl; omega

theorem yesNoOf_eq_none {w : Word} (h : 1 < w.toNat) : yesNoOf w = none := by
  rw [yesNoOf, if_neg (Word.ne_of_lt h 0 (by decide)), if_neg (Word.ne_of_lt h 1 (by decide))]
theorem supplyOf_eq_none {w : Word} (h : 1 < w.toNat) : supplyOf w = none := by
  rw [supplyOf, if_neg (Word.ne_of_lt h 0 (by decide)), if_neg (Word.ne_of_lt h 1 (by decide))]
theorem serviceOf_eq_none {w : Word} (h : 1 < w.toNat) : serviceOf w = none := by
  rw [serviceOf, if_neg (Word.ne_of_lt h 0 (by decide)), if_neg (Word.ne_of_lt h 1 (by decide))]
theorem closureOf_eq_none {w : Word} (h : 1 < w.toNat) : closureOf w = none := by
  rw [closureOf, if_neg (Word.ne_of_lt h 0 (by decide)), if_neg (Word.ne_of_lt h 1 (by decide))]
theorem blockOf_eq_none {w : Word} (h : 1 < w.toNat) : blockOf w = none := by
  rw [blockOf, if_neg (Word.ne_of_lt h 0 (by decide)), if_neg (Word.ne_of_lt h 1 (by decide))]
theorem kindOf_eq_none {w : Word} (h : 1 < w.toNat) : kindOf w = none := by
  rw [kindOf, if_neg (Word.ne_of_lt h 0 (by decide)), if_neg (Word.ne_of_lt h 1 (by decide))]
theorem carriedOf_eq_none {w : Word} (h : 2 < w.toNat) : carriedOf w = none := by
  rw [carriedOf, if_neg (Word.ne_of_lt h 0 (by decide)), if_neg (Word.ne_of_lt h 1 (by decide)),
    if_neg (Word.ne_of_lt h 2 (by decide))]
theorem headZoneOf_eq_none {w : Word} (h : w.toNat = 0 ∨ 16 < w.toNat) : headZoneOf w = none := dif_neg (by omega)
theorem roleOf_eq_none {w : Word} (h : 4 < w.toNat) : roleOf w = none := by
  rw [roleOf, if_neg (Word.ne_of_lt h 0 (by decide)), if_neg (Word.ne_of_lt h 1 (by decide)),
    if_neg (Word.ne_of_lt h 2 (by decide)), if_neg (Word.ne_of_lt h 3 (by decide)), if_neg (Word.ne_of_lt h 4 (by decide))]

/-- R30: the roles a NORMAL bank may hold are carried as 1 and 4. -/
theorem normal_allows {w : Word} {r : Option Role} (h : roleOf w = some r) (ha : PlanKind.normal.allows r = true) :
    w.toNat = 1 ∨ w.toNat = 4 := by
  unfold roleOf at h
  split_ifs at h with h0 h1 h2 h3 h4
  · simp only [Option.some.injEq] at h; subst h; cases ha
  · left; rw [h1]; rfl
  · simp only [Option.some.injEq] at h; subst h; cases ha
  · simp only [Option.some.injEq] at h; subst h; cases ha
  · right; rw [h4]; rfl

theorem mapEntryOf_eq_none {w : Word} (h : 7 < w.toNat) (ha : w.toNat ≠ 0xFFFF) : mapEntryOf w = none := by
  rw [mapEntryOf, dif_neg (by omega), if_neg]
  rintro rfl
  exact ha (by decide)
theorem mapEntryOf_eq_some {w : Word} {k : PlanId} (h : w.toNat = k.val) : mapEntryOf w = some (some k) := by
  rw [mapEntryOf, dif_pos (by omega)]
  simp [h]

/-! ### Sixteen values -/

/-- Where the sixteen words are read, each entry is what its word gives. -/
theorem sixteenFrom_entry {α : Type} {read : Word → Option (Option α)} {v : Vector (Option α) 16}
    (h : (sixteenFrom read data 0).map (fun v => v.map fun r => r.getD none) = some v) (z : Fin 16) :
    read (dataWord data z.val) = some v[z.val] := by
  unfold sixteenFrom at h
  split at h
  · rename_i k
    have hz := List.all_eq_true.1 k z (List.mem_finRange z)
    simp only [Option.map_some, Option.some.injEq] at h
    subst h
    obtain ⟨r, hr⟩ := Option.isSome_iff_exists.1 hz
    simp only [Nat.zero_add] at hr
    simp [hr]
  · cases h

/-- R33: roles outside their values, or that the bank's kind forbids, are not taken. -/
theorem writePlanValues_refuses {k : PlanId} (z : ZoneId) (h : 4 < dataNat data z.val ∨
      ((s.bank k).kind = .normal ∧ dataNat data z.val ≠ 1 ∧ dataNat data z.val ≠ 4)) :
    writePlanValues p k data s = refuse s .refusedValue := by
  unfold writePlanValues
  cases hr : rolesOf data with
  | none => rfl
  | some roles =>
    have hz := sixteenFrom_entry hr z
    refine if_neg fun ha => ?_
    rcases h with h | ⟨hk, h1, h4⟩
    · rw [roleOf_eq_none h] at hz; cases hz
    · rw [hk] at ha
      have := List.all_eq_true.1 ha roles[z.val] (by simp)
      exact (normal_allows hz this).elim h1 h4

/-- R35: entries outside their values, or that name a NORMAL plan, are not taken. -/
theorem mapOf_refuses (hi : s.incident = false) (z : ZoneId) (h : (7 < dataNat data z.val ∧ dataNat data z.val ≠ 0xFFFF) ∨
      ∃ k : PlanId, dataNat data z.val = k.val ∧ (s.bank k).kind = .normal) :
    writePlanMapBody data s = refuse s .refusedValue := by
  unfold writePlanMapBody
  rw [if_neg (by simp [hi])]
  cases hm : mapOf data with
  | none => rfl
  | some m =>
    have hz := sixteenFrom_entry hm z
    refine if_neg fun ha => ?_
    rcases h with ⟨h7, hf⟩ | ⟨k, hk, hn⟩
    · rw [mapEntryOf_eq_none h7 hf] at hz; cases hz
    · rw [mapEntryOf_eq_some hk] at hz
      have := List.all_eq_true.1 ha m[z.val] (by simp)
      rw [← Option.some.inj hz] at this
      simp [State.mapEntryAllowed, hn] at this

/-! ### Clamped records -/

/-- R6, R75: a numeric field of a clamped record is its data word brought into the field's range. -/
theorem clampFields_getD {ranges : List (Nat × Nat)} {start i : Nat} (hi : i < ranges.length) (hd : start + i < data.length) :
    (clampFields ranges data start).getD i 0 = clampTo ranges[i].1 ranges[i].2 (dataNat data (start + i)) := by
  unfold clampFields dataNat dataWord
  rw [List.getD_eq_getElem _ _ (by simp; omega), List.getD_eq_getElem _ _ hd]
  simp [clampField]

/-- R6: the fields of the clamped record. -/
theorem zoneRecord_eq (hl : data.length = 14) (f : Bool) : zoneRecord f data =
    { fitted := f, qn := clampTo 10 3000 (dataNat data 1), qs := clampTo 10 3000 (dataNat data 2),
      coStart := clampTo 0 1000 (dataNat data 3), coFull := clampTo 0 1000 (dataNat data 4),
      coAlarm := clampTo 0 1000 (dataNat data 5), no2Start := clampTo 0 300 (dataNat data 6),
      no2Full := clampTo 0 300 (dataNat data 7), no2Alarm := clampTo 0 300 (dataNat data 8),
      floor := clampTo 0 100 (dataNat data 9), fallback := clampTo 0 100 (dataNat data 10),
      confirm := clampTo 1 15 (dataNat data 11), minPosition := clampTo 0 30 (dataNat data 12),
      travelLimit := clampTo 15 240 (dataNat data 13) } := by
  have h : ∀ i (hi : i < zoneRanges.length), (clampFields zoneRanges data 1).getD i 0 =
      clampTo zoneRanges[i].1 zoneRanges[i].2 (dataNat data (1 + i)) := fun i hi =>
    clampFields_getD hi (by change i < 13 at hi; omega)
  unfold zoneRecord
  simp only [h 0 (by decide), h 1 (by decide), h 2 (by decide), h 3 (by decide), h 4 (by decide), h 5 (by decide),
    h 6 (by decide), h 7 (by decide), h 8 (by decide), h 9 (by decide), h 10 (by decide), h 11 (by decide), h 12 (by decide)]
  rfl

/-! ### The level -/

theorem State.incident_of_ne (h : s.plan.level ≠ .none) : s.incident = true := by simpa [State.incident] using h
theorem State.not_incident (h : s.plan.level = .none) : s.incident = false := by simp [State.incident, h]
theorem unlessGuarded_of_quiet (h : s.incident = false) (a : Answer) : unlessGuarded s a = a := if_neg (by simp [h])

theorem State.controlled_of (h : s.resolver.control = .inControl) : s.controlled = true := by simp [State.controlled, h]
theorem State.not_controlled (h : s.resolver.control = .notInControl) : s.controlled = false := by simp [State.controlled, h]

/-! ### Refusals of each kind -/

/-- R60, R63, R64, R50, R51, R88: what the override panel may not do without control. -/
theorem refused_without_control (hc : s.resolver.control = .notInControl) :
    (∀ z, zoneOf index = some z → setZoneOverrideBody index data s = refuse s .refusedState) ∧
    (∀ n, fanOf index = some n → setFanBlockBody index data s = refuse s .refusedState) ∧
    (∀ k, planOf index = some k → selectPlanBody index s = refuse s .refusedState) ∧
    returnToAutomaticBody s = refuse s .refusedState ∧
    (∀ n, fanOf index = some n → resetFanBody .override index s = refuse s .refusedState) := by
  have h := State.not_controlled hc
  refine ⟨fun z hz => ?_, fun n hn => ?_, fun k hk => ?_, ?_, fun n hn => ?_⟩
  · simp only [setZoneOverrideBody, hz, h, Bool.false_eq_true, if_false]
  · simp only [setFanBlockBody, hn, h, Bool.false_eq_true, if_false]
  · simp only [selectPlanBody, hk, h, Bool.false_eq_true, if_false]
  · simp only [returnToAutomaticBody, h, Bool.false_eq_true, if_false]
  · simp [resetFanBody, hn, hc]

/-- R6: a record that the data words do not give, or that is not consistent. -/
theorem writeZone_refuses {z : ZoneId} (hi : s.incident = false) (hz : zoneOf index = some z) (hl : data.length = 14)
    (h : 1 < dataNat data 0 ∨
      ¬(clampTo 0 1000 (dataNat data 3) < clampTo 0 1000 (dataNat data 4) ∧
        clampTo 0 1000 (dataNat data 4) ≤ clampTo 0 1000 (dataNat data 5)) ∨
      ¬(clampTo 0 300 (dataNat data 6) < clampTo 0 300 (dataNat data 7) ∧
        clampTo 0 300 (dataNat data 7) ≤ clampTo 0 300 (dataNat data 8))) :
    writeZoneBody index data s = refuse s .refusedValue := by
  have ha : zoneWriteAllowed s z data = true := by simp [zoneWriteAllowed, hi]
  simp only [writeZoneBody, hz, ha, Bool.true_eq_false, if_false]
  cases hf : yesNoOf (dataWord data 0) with
  | none => rfl
  | some f =>
    have h0 : ¬ 1 < dataNat data 0 := fun k => by rw [yesNoOf_eq_none k] at hf; cases hf
    refine if_neg ?_
    rw [zoneRecord_eq hl]
    simp only [ZoneConfig.consistent, Bool.and_eq_true, decide_eq_true_eq]
    tauto

/-- R10: operands outside their named values. -/
theorem headRecordOf_eq_none (h : 1 < dataNat data 0 ∨ dataNat data 1 = 0 ∨ 16 < dataNat data 1 ∨ 2 < dataNat data 2) :
    headRecordOf data = none := by
  unfold headRecordOf
  split
  · rename_i hf hz hg
    rcases h with h | h | h | h
    · rw [yesNoOf_eq_none h] at hf; cases hf
    · rw [headZoneOf_eq_none (.inl h)] at hz; cases hz
    · rw [headZoneOf_eq_none (.inr h)] at hz; cases hz
    · rw [carriedOf_eq_none h] at hg; cases hg
  · rfl

/-- R75 step 4: a busy fan is not unfitted. -/
theorem writeFan_refuses {n : FanId} (hi : s.incident = false) (hn : fanOf index = some n) (h0 : dataNat data 0 = 0)
    (hf : (s.fan n).config.fitted = true) (hb : (s.fan n).state ∈ [.starting, .running, .stopping]) :
    writeFanBody index data s = refuse s .refusedState := by
  have hw : dataWord data 0 = 0 := BitVec.eq_of_toNat_eq h0
  have hb : (s.fan n).busy = true := by
    simp only [List.mem_cons, List.not_mem_nil, or_false] at hb
    rcases hb with h | h | h <;> simp [Fan.busy, h]
  simp only [writeFanBody, hn, unlessGuarded_of_quiet hi, hw]
  simp [yesNoOf, hf, hb]

/-- R30: the roles of a bank may stand in a NORMAL bank. -/
def PlanBank.Sealed (b : PlanBank) : Prop := ∀ z : ZoneId, b.roles[z.val] = none ∨ b.roles[z.val] = some .isolate

theorem PlanBank.forbids_normal {b : PlanBank} : b.forbids .normal = true ↔ ¬b.Sealed := by
  rw [PlanBank.forbids, PlanBank.Sealed, Bool.not_eq_true', List.all_eq_false]
  simp only [Vector.mem_toList_iff, Vector.mem_iff_getElem, PlanKind.allows]
  push Not
  constructor
  · rintro ⟨_, ⟨i, hi, rfl⟩, h⟩
    exact ⟨⟨i, hi⟩, by simpa using h⟩
  · rintro ⟨z, h⟩
    exact ⟨_, ⟨z.val, z.isLt, rfl⟩, by simpa using h⟩
theorem PlanBank.not_forbids_smoke (b : PlanBank) : b.forbids .smoke = false := by
  simp [PlanBank.forbids, PlanKind.allows]

/-- R34: a kind outside its values, or that the roles of the bank forbid. -/
theorem setPlanKind_refuses_value {n : PlanId} (hi : s.incident = false) (hn : planOf index = some n)
    (h : 1 < dataNat data 0 ∨ (dataNat data 0 = 0 ∧ ¬(s.bank n).Sealed)) :
    setPlanKindBody index data s = refuse s .refusedValue := by
  simp only [setPlanKindBody, hn, hi, Bool.false_eq_true, if_false]
  rcases h with h | ⟨h, hs⟩
  · rw [kindOf_eq_none (w := dataWord data 0) h]
  · rw [show dataWord data 0 = 0 from BitVec.eq_of_toNat_eq h]
    exact if_pos (PlanBank.forbids_normal.2 hs)

/-- R34: a kind that the plan map or the plans in force forbid. -/
theorem setPlanKind_refuses_state {n : PlanId} (hi : s.incident = false) (hn : planOf index = some n)
    (h : (dataNat data 0 = 0 ∧ (s.bank n).Sealed ∧ ∃ z : ZoneId, s.plan.map[z.val] = some n) ∨
      (dataNat data 0 = 1 ∧ (n = s.plan.current ∨ n = s.plan.saved))) :
    setPlanKindBody index data s = refuse s .refusedState := by
  simp only [setPlanKindBody, hn, hi, Bool.false_eq_true, if_false]
  rcases h with ⟨h, hs, z, hz⟩ | ⟨h, hp⟩
  · have hk : s.kindHeld n .normal = true := by
      simp only [State.kindHeld, List.any_eq_true]
      exact ⟨s.plan.map[z.val], by simp, by rw [beq_iff_eq]; exact hz⟩
    rw [show dataWord data 0 = 0 from BitVec.eq_of_toNat_eq h]
    exact (if_neg fun k => PlanBank.forbids_normal.1 k hs).trans (if_pos hk)
  · have hk : s.kindHeld n .smoke = true := by simpa [State.kindHeld] using hp
    rw [show dataWord data 0 = 1 from BitVec.eq_of_toNat_eq h]
    exact (if_neg (by rw [PlanBank.not_forbids_smoke]; simp)).trans (if_pos hk)

/-- R32: the checks of WRITE PLAN before its values. -/
theorem writePlan_quiet {k : PlanId} (hk : planOf index = some k) (hi : s.incident = false)
    (hp : p = .alarm ∨ (p = .building ∧ (s.bank k).kind = .normal)) :
    writePlanBody p index data s = writePlanValues p k data s := by
  have : ¬(p = .building ∧ (s.bank k).kind = .smoke) := by
    rcases hp with rfl | ⟨_, h⟩
    · simp
    · simp [h]
  simp only [writePlanBody, hk, if_neg this, hi, Bool.false_eq_true, if_false]

/-- Settles O15, in the order of its clauses. -/
theorem valueStateAndLevelRefusals : Obligations.ValueStateAndLevelRefusals := by
  unfold Obligations.ValueStateAndLevelRefusals
  intro index data s hd
  have hres : ∀ p, (s.frameTaken p).resolver = s.resolver := fun p => s.frameTaken_resolver p
  refine ⟨fun hc => ?_, fun hc hm hl => ?_, fun hv => ?_, fun k hk hs => ?_, fun z hz hf => ?_, fun hl hw => ?_,
    fun hc hl => ?_, fun hv => ?_⟩
  · obtain ⟨h1, h2, h3, h4, h5⟩ := refused_without_control (s := s.frameTaken .override) (index := index) (data := data)
      (by rw [hres]; exact hc)
    exact ⟨fun z hz hl => serve_refused (hd _) rfl (by decide) hl (h1 z hz),
      fun n hn hl => serve_refused (hd _) rfl (by decide) hl (h2 n hn),
      fun k hk hl => serve_refused (hd _) rfl (by decide) (by rw [hl]; rfl) (h3 k hk),
      fun hl => serve_refused (hd _) rfl (by decide) (by rw [hl]; rfl) h4,
      fun n hn hl => serve_refused (hd _) rfl (by decide) (by rw [hl]; rfl) (h5 n hn)⟩
  · refine serve_refused (hd _) rfl (by decide) (by rw [hl]; rfl) ?_
    simp only [returnToAutomaticBody, State.frameTaken_controlled, State.controlled_of hc, if_true, State.frameTaken_plan, if_neg hm]
  · have hi : ∀ p, (s.frameTaken p).incident = true := fun p => by simpa using State.incident_of_ne hv
    refine ⟨fun k hk hl => serve_refused (hd _) rfl (by decide) hl ?_, fun hl => serve_refused (hd _) rfl (by decide) hl ?_,
      fun k hk hl => serve_refused (hd _) rfl (by decide) hl ?_,
      fun hl => serve_refused (hd _) rfl (by decide) (by rw [hl]; rfl) ?_⟩
    · simp [writePlanBody, hk, hi]
    · simp only [writePlanMapBody, hi, if_true]
    · simp only [setPlanKindBody, hk, hi, if_true]
    · simp only [factoryClearBody, hi, if_true]
  · refine ⟨fun hl => serve_refused (hd _) rfl (by decide) hl ?_,
      fun hl => serve_refused (hd _) rfl (by decide) (by rw [hl]; rfl) ?_⟩
    · simp [writePlanBody, hk, hs]
    · simp [selectBasePlanBody, hk, hs]
  · refine ⟨fun hl => serve_refused (hd _) rfl (by decide) (by rw [hl]; rfl) ?_,
      fun hl => serve_refused (hd _) rfl (by decide) hl ?_⟩
    · simp [fireAlarmBody, hz, hf]
    · have h0 : index ≠ 0 := by rintro rfl; rw [zoneOf_eq_none (.inl rfl)] at hz; cases hz
      simp only [setBoostBody, if_neg h0, hz, State.frameTaken_zone, hf, if_true]
  · exact serve_refused (hd _) rfl (by decide) hl (by simp only [supplyStateBody, supplyOf_eq_none (w := dataWord data 0) hw])
  · have h : (s.frameTaken .override).controlled = true := by simpa using State.controlled_of hc
    exact ⟨fun z hz hw => serve_refused (hd _) rfl (by decide) hl
        (by simp only [setZoneOverrideBody, hz, h, if_true, roleOf_eq_none (w := dataWord data 0) hw]),
      fun n hn hw => serve_refused (hd _) rfl (by decide) hl
        (by simp only [setFanBlockBody, hn, h, if_true, blockOf_eq_none (w := dataWord data 0) hw])⟩
  · have hi : ∀ p, (s.frameTaken p).incident = false := fun p => by simpa using State.not_incident hv
    refine ⟨fun z hz hl h => ?_, fun h hh hl hw => ?_, fun n hn hl => ⟨fun hw => ?_, fun h0 hf hb => ?_⟩, fun z hz hl hw => ?_,
      fun n hn hl hw => ?_, fun k p hk hl hp ⟨z, hz⟩ => ?_, fun hl ⟨z, hz⟩ => ?_, fun n hn hl => ⟨fun h => ?_, fun h => ?_⟩⟩
    · exact serve_refused (hd _) rfl (by decide) hl (writeZone_refuses (hi _) hz hl h)
    · refine serve_refused (hd _) rfl (by decide) hl ?_
      simp only [writeHeadBody, hh, unlessGuarded_of_quiet (hi _), headRecordOf_eq_none hw]
    · refine serve_refused (hd _) rfl (by decide) hl ?_
      simp only [writeFanBody, hn, unlessGuarded_of_quiet (hi _), yesNoOf_eq_none (w := dataWord data 0) hw]
    · exact serve_refused (hd _) rfl (by decide) hl (writeFan_refuses (hi _) hn h0 (by simpa using hf) (by simpa using hb))
    · refine serve_refused (hd _) rfl (by decide) hl ?_
      simp only [setZoneClosureBody, hz, unlessGuarded_of_quiet (hi _), closureOf_eq_none (w := dataWord data 0) hw]
    · refine serve_refused (hd _) rfl (by decide) hl ?_
      simp only [setFanServiceBody, hn, unlessGuarded_of_quiet (hi _), serviceOf_eq_none (w := dataWord data 0) hw]
    · have ht : writePlanBody p index data (s.frameTaken p) = refuse (s.frameTaken p) .refusedValue := by
        rw [writePlan_quiet hk (hi _) (by simpa using hp)]
        exact writePlanValues_refuses z (by simpa using hz)
      rcases hp with rfl | ⟨rfl, -⟩
      · exact serve_refused (hd _) rfl (by decide) hl ht
      · exact serve_refused (hd _) rfl (by decide) hl ht
    · exact serve_refused (hd _) rfl (by decide) hl (mapOf_refuses (hi _) z (by simpa using hz))
    · exact serve_refused (hd _) rfl (by decide) hl
        (setPlanKind_refuses_value (hi _) hn (by simpa [PlanBank.Sealed] using h))
    · exact serve_refused (hd _) rfl (by decide) hl
        (setPlanKind_refuses_state (hi _) hn (by simpa [PlanBank.Sealed] using h))

end Sys2Proof.Machine

/-! ## Accepted requests: the counts, FACTORY CLEAR and boosts (R15, R22, R23, R69, R177) -/

namespace Sys2Proof.Machine

variable {s u : State} {p : Port} {row : CatalogueRow} {index : Byte} {data : List Word} {body : State → Answer} {r : Response}

/-! ### The end of a request -/

/-- R157: what lasts once the response is sent. -/
theorem State.sends_lasting (u : State) (p : Port) (r : Response) : (u.sends p r).lasting =
    { u.lasting with ports := u.lasting.ports.upd p fun q => { q with response := some r } } := by
  have h := respond_lasting p r.code r.index ⟨u.finish, r.status, r.words⟩
  rw [State.finish_lasting] at h
  exact h
theorem State.sends_zone (u : State) (p : Port) (r : Response) (z : ZoneId) : (u.sends p r).zone z = u.zone z := by
  have h : (u.sends p r).zones = u.zones := congrArg Lasting.zones (u.sends_lasting p r)
  simp only [State.zone, h]
theorem State.sends_head (u : State) (p : Port) (r : Response) (k : HeadId) : (u.sends p r).head k = u.head k := by
  have h : (u.sends p r).heads = u.heads := congrArg Lasting.heads (u.sends_lasting p r)
  simp only [State.head, h]

/-- R157, R158: a request that passes the general checks and that its owner accepts. -/
theorem serve_accepted {st : Status} (hd : (s.port p).decoder = .waiting) (hp : row.ports.contains p = true) (hl : row.words ≤ 32)
    (hw : data.length = row.words) (hb : body (s.frameTaken p) = ⟨u.finish, st, []⟩) :
    Host.Outcome.next (φ := Fault) (ρ := Refusal) (serve row p index data body s) = .next (u.sends p ⟨st, row.code, index, []⟩) := by
  rw [serve_owned hd (hw ▸ hl) hp hw, hb]; rfl

/-- R157: a request whose owner works in the zone evaluator alone leaves all else that lasts as it answered. -/
theorem State.InEvaluator.sends (h : (s.frameTaken p).InEvaluator u) (hh : u.heads = s.heads) (r : Response) :
    (u.sends p r).lasting = { s.answered p r with zones := (u.sends p r).zones } := by
  have hz : (u.sends p r).zones = u.zones := congrArg Lasting.zones (u.sends_lasting p r)
  rw [hz, State.sends_lasting, h.lasting, hh, State.answered]
  have : (s.frameTaken p).lasting.heads = s.heads := by simp [State.lasting]
  rw [← this]

/-! ### CLEAR COUNTS and FACTORY CLEAR -/

/-- R177, R178: a start-up looks at the store alone. -/
theorem State.startedUp_congr (s t : State) (h : s.store = t.store) : s.startedUp = t.startedUp := by
  unfold State.startedUp State.volatileReset; rw [h]

theorem State.reset_startedUp : State.reset.startedUp = State.reset := by decide +kernel

/-- R177: the defaults stored and the part reset. -/
theorem State.factoryReset_eq (s : State) : s.factoryReset = { State.reset with pending := s.pending } := by
  have h : State.startedUp { s with store := defaultStore } = State.reset :=
    (State.startedUp_congr _ State.reset rfl).trans State.reset_startedUp
  unfold State.factoryReset State.startUp
  rw [h]

/-- Settles O24: the owners' work written out. -/
theorem countsAreClearedAndDefaultsRestored : Obligations.CountsAreClearedAndDefaultsRestored := by
  unfold Obligations.CountsAreClearedAndDefaultsRestored
  refine ⟨fun index s hd hl => ?_, fun index s hd hl => ?_⟩
  · have hi : (s.frameTaken .building).incident = false := by simpa using State.not_incident hl
    have hb : clearCountsBody (s.frameTaken .building) = doneNow (s.frameTaken .building).countsCleared :=
      unlessGuarded_of_quiet hi _
    refine congrArg Host.Outcome.next ((serve_owned hd (by decide) rfl rfl).trans ?_)
    rw [hb]; rfl
  · have hi : (s.frameTaken .building).incident = false := by simpa using State.not_incident hl
    have hb : factoryClearBody (s.frameTaken .building) = doneNow { State.reset with pending := s.pending } := by
      rw [factoryClearBody, hi, State.factoryReset_eq, State.frameTaken_pending]; rfl
    refine congrArg Host.Outcome.next ((serve_owned hd (by decide) rfl rfl).trans ?_)
    rw [hb]; rfl

/-! ### SET BOOST -/

/-- R22: the boost of two operands, brought into their ranges. -/
theorem boostOf_pair (percent minutes : Word) : boostOf [percent, minutes] =
    if percent = 0 then none else some ⟨min 100 percent.toNat, 60 * clampTo 1 240 minutes.toNat⟩ := by
  have h0 : dataNat [percent, minutes] 0 = 0 ↔ percent = 0 := by
    simp [dataNat, dataWord, BitVec.toNat_eq]
  simp only [boostOf, h0]
  split
  · rfl
  · simp [boostPercentOf, boostMinutesOf, clampTo, dataNat, dataWord]

/-- R22: the operands of a boost are within their ranges, or it is a cancel. -/
theorem boostClamped_pair (percent minutes : Word) : boostClamped [percent, minutes] = false ↔
    percent = 0 ∨ (percent.toNat ≤ 100 ∧ 1 ≤ minutes.toNat ∧ minutes.toNat ≤ 240) := by
  have h0 : percent = 0 ↔ percent.toNat = 0 := by simp [BitVec.toNat_eq]
  simp only [boostClamped, boostPercentOf, boostMinutesOf, clampTo, dataNat, dataWord, List.getD_cons_zero,
    List.getD_cons_succ, h0]
  by_cases h : percent.toNat = 0
  · simp [h]
  · simp only [h, false_or, Bool.and_eq_false_iff, Bool.or_eq_false_iff, bne_eq_false_iff_eq]
    omega

/-- R157: the status of a SET BOOST. -/
theorem boost_status (percent minutes : Word) : (if boostClamped [percent, minutes] = true then Status.doneClamped else .done) =
    if percent = 0 ∨ (percent.toNat ≤ 100 ∧ 1 ≤ minutes.toNat ∧ minutes.toNat ≤ 240) then .done else .doneClamped := by
  by_cases h : boostClamped [percent, minutes] = true
  · rw [if_pos h, if_neg fun k => by rw [(boostClamped_pair percent minutes).2 k] at h; cases h]
  · rw [if_neg h, if_pos ((boostClamped_pair percent minutes).1 (by simpa using h))]

@[simp] theorem State.boostAll_heads (s : State) (b : Option Boost) : (s.boostAll b).heads = s.heads :=
  State.eachZone_heads (fun q z => by
    split
    · exact q.setBoost_heads z b
    · rfl) s
@[simp] theorem State.endBoosts_heads (s : State) : s.endBoosts.heads = s.heads :=
  State.eachZone_heads (fun q z => by
    split
    · exact q.setBoost_heads z none
    · rfl) s

theorem State.boostAll_zone (s : State) (b : Option Boost) (z : ZoneId) : (s.boostAll b).zone z =
    if s.reachedByAll z then (s.setBoost z b).zone z else s.zone z :=
  State.eachZone_setBoost_zone (fun _ z => s.reachedByAll z) b s z

/-- R69: a zone that SET BOOST reaches. -/
theorem State.reachedByAll_iff (s : State) (z : ZoneId) : s.reachedByAll z = true ↔
    (s.zone z).config.fitted = true ∧ (s.plan.level = .none ∨ s.role z = .gas) := by
  simp [State.reachedByAll, State.incident]

/-- Settles O25: the boosts of the reached zones start or end one by one, each in its own row. -/
theorem setBoostReachesItsZones : Obligations.SetBoostReachesItsZones := by
  unfold Obligations.SetBoostReachesItsZones
  intro index percent minutes s hd
  simp only [← boostOf_pair, ← boost_status]
  refine ⟨fun z hz ho => ?_, fun hi => ?_⟩
  · have hf : ¬((s.zone z).config.fitted = false) := by simp [ho.1]
    have hg : ((s.frameTaken .building).incident && (s.frameTaken .building).role z != .gas) = false := by
      rcases ho.2 with h | h
      · simp [State.not_incident h]
      · simp [h]
    have h0 : index ≠ 0 := by rintro rfl; rw [zoneOf_eq_none (.inl rfl)] at hz; cases hz
    have hb : setBoostBody index [percent, minutes] (s.frameTaken .building) =
        doneIf ((s.frameTaken .building).setBoost z (boostOf [percent, minutes])).finish (boostClamped [percent, minutes]) := by
      simp only [setBoostBody, if_neg h0, hz, State.frameTaken_zone, if_neg hf, hg, Bool.false_eq_true, if_false]
    refine ⟨_, serve_accepted hd rfl (by decide) rfl hb, ?_, ?_, fun w hw => ?_⟩
    · exact (State.setBoost_inEvaluator _ z _).sends (by simp) _
    · have := (s.frameTaken .building).setBoost_follows z (boostOf [percent, minutes])
      rw [State.sends_zone]; simpa using this
    · rw [State.sends_zone, State.setBoost_zone, if_neg hw, State.frameTaken_zone]
  · have hb : setBoostBody index [percent, minutes] (s.frameTaken .building) =
        doneIf ((s.frameTaken .building).boostAll (boostOf [percent, minutes])).finish (boostClamped [percent, minutes]) :=
      if_pos hi
    refine ⟨_, serve_accepted hd rfl (by decide) rfl hb, ?_, fun z => ?_⟩
    · exact (State.boostAll_inEvaluator _ _).sends (by simp) _
    · have hr := (s.frameTaken .building).reachedByAll_iff z
      simp only [State.frameTaken_zone, State.frameTaken_plan, State.frameTaken_role] at hr
      rw [State.sends_zone, State.boostAll_zone]
      refine ⟨fun ho => ?_, fun ho => ?_⟩
      · rw [if_pos (hr.2 ho)]
        simpa using (s.frameTaken .building).setBoost_follows z (boostOf [percent, minutes])
      · rw [if_neg fun k => ho (hr.1 k), State.frameTaken_zone]

end Sys2Proof.Machine

/-! ## Zone evaluator: the counts and gas-high (R24 to R26) -/

namespace Sys2Proof.Machine

variable {s t u : State} {z y : ZoneId} {g : Gas}

/-! ### One row under a reading -/

/-- R24 to R26: what a reading does to the count and the gas-high state of a gas, whose value has been worked out with it. -/
def GasRow.counted (r : GasRow) (c : ZoneConfig) (g : Gas) (x : Nat) : GasRow :=
  if c.alarm g ≤ x then { r with count := bump 15 r.count, high := r.high || decide (c.confirm ≤ bump 15 r.count) }
  else if x < c.clearLevel g then { r with count := 0, high := r.high && decide (c.clearLevel g ≤ r.value.getD 0) }
  else r

/-- R24: the row of a zone after a reading of a gas, if there is one; a zone that is not fitted counts none. -/
def Zone.counted (q : Zone) (g : Gas) : Option Nat → Zone
  | none => q
  | some x =>
    if q.config.fitted = true then
      { q.modGas g (fun r => r.counted q.config g x) with
        highEvents :=
          if (!(q.gas g).high && ((q.gas g).counted q.config g x).high) = true then bump Config.lastCount q.highEvents
          else q.highEvents }
    else q

/-- R25: gas-high becomes active. -/
def Zone.rises (q : Zone) (g : Gas) (v : Option Nat) : Bool := !(q.gas g).high && ((q.counted g v).gas g).high

/-- R26: gas-high becomes inactive. -/
def Zone.clears (q : Zone) (g : Gas) (v : Option Nat) : Bool := (q.gas g).high && !((q.counted g v).gas g).high

@[simp] theorem Zone.modGas_gas (q : Zone) (g : Gas) (f : GasRow → GasRow) : (q.modGas g f).gas g = f (q.gas g) := by
  cases g <;> rfl
theorem Zone.modGas_gas_other (q : Zone) {g k : Gas} (h : k ≠ g) (f : GasRow → GasRow) : (q.modGas g f).gas k = q.gas k :=
  match g, k, h with
  | .co, .no2, _ => rfl
  | .no2, .co, _ => rfl
  | .co, .co, h | .no2, .no2, h => absurd rfl h
theorem Zone.modGas_modGas (q : Zone) (g : Gas) (f k : GasRow → GasRow) : (q.modGas g f).modGas g k = q.modGas g (k ∘ f) := by
  cases g <;> rfl
theorem Zone.modGas_congr (q : Zone) (g : Gas) {f k : GasRow → GasRow} (h : f (q.gas g) = k (q.gas g)) : q.modGas g f = q.modGas g k := by
  cases g
  · show { q with co := f q.co } = { q with co := k q.co }; rw [show f q.co = k q.co from h]
  · show { q with no2 := f q.no2 } = { q with no2 := k q.no2 }; rw [show f q.no2 = k q.no2 from h]
theorem Zone.modGas_self (q : Zone) (g : Gas) {f : GasRow → GasRow} (h : f (q.gas g) = q.gas g) : q.modGas g f = q := by
  cases g
  · show { q with co := f q.co } = q; rw [show f q.co = q.co from h]
  · show { q with no2 := f q.no2 } = q; rw [show f q.no2 = q.no2 from h]

theorem Zone.counted_gas_other (q : Zone) {g k : Gas} (h : k ≠ g) (v : Option Nat) : (q.counted g v).gas k = q.gas k := by
  unfold Zone.counted
  split
  · rfl
  · split
    · exact q.modGas_gas_other h _
    · rfl
@[simp] theorem Zone.counted_config (q : Zone) (g : Gas) (v : Option Nat) : (q.counted g v).config = q.config := by
  unfold Zone.counted
  split
  · rfl
  · split
    · exact q.modGas_config g _
    · rfl

theorem Zone.counted_gas (q : Zone) (g : Gas) (x : Nat) (h : q.config.fitted = true) :
    (q.counted g (some x)).gas g = (q.gas g).counted q.config g x := by
  simp only [Zone.counted, if_pos h]
  exact q.modGas_gas g _

/-- R24: of a row a reading changes the counts, the gas-high states and the event count alone. -/
theorem Zone.counted_eq (q : Zone) (g : Gas) (v : Option Nat) : q.counted g v = { q with
    co := { q.co with count := (q.counted g v).co.count, high := (q.counted g v).co.high }
    no2 := { q.no2 with count := (q.counted g v).no2.count, high := (q.counted g v).no2.high }
    highEvents := (q.counted g v).highEvents } := by
  unfold Zone.counted
  split
  · rfl
  · split
    · unfold GasRow.counted
      cases g <;> simp only [Zone.modGas, Zone.mk.injEq, true_and, and_true] <;> split_ifs <;> rfl
    · rfl

/-! ### The state after a reading -/

theorem State.modZone_congr {f k : Zone → Zone} (h : f (s.zone z) = k (s.zone z)) : s.modZone z f = s.modZone z k := by
  simp only [State.zone] at h
  simp only [State.modZone, upd, h]
theorem State.modZone_modZone (s : State) (z : ZoneId) (f k : Zone → Zone) : (s.modZone z f).modZone z k = s.modZone z (k ∘ f) := by
  simp [State.modZone, upd]
theorem State.modZone_self {f : Zone → Zone} (h : f (s.zone z) = s.zone z) : s.modZone z f = s := by
  simp only [State.zone] at h
  simp [State.modZone, upd, h]

/-- R25: an entry and the notice of a gas-high that has become active. -/
def State.tellHigh (s : State) (z : ZoneId) (g : Gas) : State := (s.raiseAlarm (.gasHigh g z) none).raiseAll .gasHigh

/-- R26: the entry cleared and the notice of a gas-high that has become inactive. -/
def State.tellCleared (s : State) (z : ZoneId) (g : Gas) : State := (s.clearAlarm (.gasHigh g z)).raiseAll .gasCleared

/-- R24, R25: a reading at or above the alarm level. -/
theorem State.highReading_eq (s : State) (z : ZoneId) (g : Gas) {x : Nat} (hf : (s.zone z).config.fitted = true)
    (ha : (s.zone z).config.alarm g ≤ x) : s.highReading z g =
      if (s.zone z).rises g (some x) then (s.modZone z fun q => q.counted g (some x)).tellHigh z g
      else s.modZone z fun q => q.counted g (some x) := by
  have hrow : ((s.zone z).gas g).counted (s.zone z).config g x = { (s.zone z).gas g with
      count := bump 15 ((s.zone z).gas g).count
      high := ((s.zone z).gas g).high || decide ((s.zone z).config.confirm ≤ bump 15 ((s.zone z).gas g).count) } := if_pos ha
  have hr : (s.zone z).rises g (some x) = (!((s.zone z).gas g).high &&
      decide ((s.zone z).config.confirm ≤ bump 15 ((s.zone z).gas g).count)) := by
    rw [Zone.rises, Zone.counted_gas _ _ _ hf, hrow]
    cases ((s.zone z).gas g).high <;> simp
  have hc : (s.zone z).counted g (some x) = { (s.zone z).modGas g (fun _ => ((s.zone z).gas g).counted (s.zone z).config g x) with
      highEvents := if (s.zone z).rises g (some x) = true then bump Config.lastCount (s.zone z).highEvents else (s.zone z).highEvents } := by
    rw [Zone.rises, Zone.counted_gas _ _ _ hf]
    simp only [Zone.counted, if_pos hf]
    cases g <;> rfl
  unfold State.highReading
  simp only [State.modZone_zone_self, Zone.modGas_gas, Zone.modGas_config]
  by_cases h : (s.zone z).rises g (some x) = true
  · obtain ⟨hh, hd⟩ : ((s.zone z).gas g).high = false ∧ (s.zone z).config.confirm ≤ bump 15 ((s.zone z).gas g).count := by
      simpa [hr] using h
    rw [if_pos ⟨hd, hh⟩, if_pos h, State.gasRises, State.modZone_modZone]
    refine congrArg (fun v => State.tellHigh v z g) (State.modZone_congr ?_)
    rw [hc, if_pos h, hrow]
    simp only [Function.comp, Zone.modGas_modGas, hh, hd]
    cases g <;> simp [Zone.modGas, Zone.gas]
  · rw [if_neg h, if_neg fun k => h (by simpa [hr] using k.symm)]
    refine State.modZone_congr ?_
    rw [hc, if_neg h, hrow]
    have hk : (((s.zone z).gas g).high || decide ((s.zone z).config.confirm ≤ bump 15 ((s.zone z).gas g).count)) =
        ((s.zone z).gas g).high := by
      rw [hr] at h
      revert h
      cases ((s.zone z).gas g).high <;> simp
    rw [hk]
    cases g <;> rfl

/-- R24, R26: a reading below the clear level. -/
theorem State.lowReading_eq (s : State) (z : ZoneId) (g : Gas) {x : Nat} (hf : (s.zone z).config.fitted = true)
    (ha : ¬(s.zone z).config.alarm g ≤ x) (hl : x < (s.zone z).config.clearLevel g) : s.lowReading z g =
      if (s.zone z).clears g (some x) then (s.modZone z fun q => q.counted g (some x)).tellCleared z g
      else s.modZone z fun q => q.counted g (some x) := by
  have hrow : ((s.zone z).gas g).counted (s.zone z).config g x = { (s.zone z).gas g with
      count := 0
      high := ((s.zone z).gas g).high && decide ((s.zone z).config.clearLevel g ≤ ((s.zone z).gas g).value.getD 0) } :=
    (if_neg ha).trans (if_pos hl)
  have hn : decide ((s.zone z).config.clearLevel g ≤ ((s.zone z).gas g).value.getD 0) =
      !decide (((s.zone z).gas g).value.getD 0 < (s.zone z).config.clearLevel g) := by
    rw [← decide_not]; exact decide_eq_decide.2 not_lt.symm
  have hr : (s.zone z).clears g (some x) = (((s.zone z).gas g).high &&
      decide (((s.zone z).gas g).value.getD 0 < (s.zone z).config.clearLevel g)) := by
    rw [Zone.clears, Zone.counted_gas _ _ _ hf, hrow, hn]
    cases ((s.zone z).gas g).high <;> simp
  have hc : (s.zone z).counted g (some x) = (s.zone z).modGas g (fun _ => ((s.zone z).gas g).counted (s.zone z).config g x) := by
    have hn : (!((s.zone z).gas g).high && (((s.zone z).gas g).counted (s.zone z).config g x).high) = false := by
      rw [hrow]; cases ((s.zone z).gas g).high <;> rfl
    simp only [Zone.counted, if_pos hf, hn, Bool.false_eq_true, if_false]
    cases g <;> rfl
  unfold State.lowReading
  simp only [State.modZone_zone_self, Zone.modGas_gas, Zone.modGas_config]
  by_cases h : (s.zone z).clears g (some x) = true
  · obtain ⟨hh, hd⟩ : ((s.zone z).gas g).high = true ∧ ((s.zone z).gas g).value.getD 0 < (s.zone z).config.clearLevel g := by
      simpa [hr] using h
    rw [if_pos ⟨hh, hd⟩, if_pos h, State.gasClears, State.modZone_modZone]
    refine congrArg (fun v => State.tellCleared v z g) (State.modZone_congr ?_)
    rw [hc, hrow]
    simp only [Function.comp, Zone.modGas_modGas, hh, decide_eq_false (not_le.2 hd)]
    cases g <;> simp [Zone.modGas, Zone.gas]
  · rw [if_neg h, if_neg fun k => h (by simpa [hr] using k)]
    refine State.modZone_congr ?_
    rw [hc, hrow]
    have hk : (((s.zone z).gas g).high && decide ((s.zone z).config.clearLevel g ≤ ((s.zone z).gas g).value.getD 0)) =
        ((s.zone z).gas g).high := by
      rw [hr] at h
      revert h
      cases ((s.zone z).gas g).high <;> simp
    rw [hk]
    cases g <;> rfl

/-- R24 to R26: a reading changes the row of a fitted zone, and tells what gas-high becomes. -/
theorem State.countReading_eq (s : State) (z : ZoneId) (g : Gas) (v : Option Nat) : s.countReading z g v =
    if (s.zone z).rises g v then (s.modZone z fun q => q.counted g v).tellHigh z g
    else if (s.zone z).clears g v then (s.modZone z fun q => q.counted g v).tellCleared z g
    else s.modZone z fun q => q.counted g v := by
  have still : (s.zone z).counted g v = s.zone z → s = if (s.zone z).rises g v then (s.modZone z fun q => q.counted g v).tellHigh z g
      else if (s.zone z).clears g v then (s.modZone z fun q => q.counted g v).tellCleared z g
      else s.modZone z fun q => q.counted g v := by
    intro h
    rw [if_neg (by rw [Zone.rises, h]; simp), if_neg (by rw [Zone.clears, h]; simp), State.modZone_self h]
  unfold State.countReading
  split
  · exact still rfl
  · rename_i x
    split
    · rename_i hf; exact still (if_neg (by simp [hf]))
    · rename_i hf
      have hf : (s.zone z).config.fitted = true := by simpa using hf
      split
      · rename_i ha
        rw [s.highReading_eq z g hf ha, if_neg (c := (s.zone z).clears g (some x) = true)]
        rw [Zone.clears, Zone.counted_gas _ _ _ hf, GasRow.counted, if_pos ha]
        cases ((s.zone z).gas g).high <;> simp
      · rename_i ha
        split
        · rename_i hl
          rw [s.lowReading_eq z g hf ha hl, if_neg (c := (s.zone z).rises g (some x) = true)]
          rw [Zone.rises, Zone.counted_gas _ _ _ hf, GasRow.counted, if_neg ha, if_pos hl]
          cases ((s.zone z).gas g).high <;> simp
        · rename_i hl
          refine still ?_
          have hr : ((s.zone z).gas g).counted (s.zone z).config g x = (s.zone z).gas g := (if_neg ha).trans (if_neg hl)
          have hn : (!((s.zone z).gas g).high && (((s.zone z).gas g).counted (s.zone z).config g x).high) = false := by
            rw [hr]; simp
          simp only [Zone.counted, if_pos hf, hn, Bool.false_eq_true, if_false]
          rw [Zone.modGas_self _ _ hr]

@[simp] theorem State.tellHigh_zone (s : State) (z y : ZoneId) (g : Gas) : (s.tellHigh z g).zone y = s.zone y := by
  simp [State.tellHigh, State.zone]
@[simp] theorem State.tellCleared_zone (s : State) (z y : ZoneId) (g : Gas) : (s.tellCleared z g).zone y = s.zone y := by
  simp [State.tellCleared, State.zone]
@[simp] theorem State.tellHigh_heads (s : State) (z : ZoneId) (g : Gas) : (s.tellHigh z g).heads = s.heads := by
  simp [State.tellHigh]
@[simp] theorem State.tellCleared_heads (s : State) (z : ZoneId) (g : Gas) : (s.tellCleared z g).heads = s.heads := by
  simp [State.tellCleared]

theorem State.countReading_zone (s : State) (z y : ZoneId) (g : Gas) (v : Option Nat) :
    (s.countReading z g v).zone y = if y = z then (s.zone z).counted g v else s.zone y := by
  rw [State.countReading_eq, ← State.modZone_zone s z y fun q => q.counted g v]
  split
  · rw [State.tellHigh_zone]
  · split
    · rw [State.tellCleared_zone]
    · rfl
@[simp] theorem State.countReading_heads (s : State) (z : ZoneId) (g : Gas) (v : Option Nat) :
    (s.countReading z g v).heads = s.heads := by
  rw [State.countReading_eq]
  split
  · simp
  · split <;> simp

end Sys2Proof.Machine

/-! ## Zone evaluator: its laws through its operations (R5, R9, R16 to R20) -/

namespace Sys2Proof.Machine

variable {s t u : State} {z y : ZoneId} {g : Gas} {P Q : ZoneId → Prop}

/-! ### Sound rows -/

/-- R17, R18: a ramp is a percent. -/
theorem ZoneConfig.rampBy_le {c : ZoneConfig} (h : c.percents) (g : Gas) (r : GasRow) : c.rampBy g r ≤ 100 := by
  have hb := h.2
  unfold ZoneConfig.rampBy
  cases r.value with
  | some v => cases g <;> exact rampOf_le _ _ _
  | none =>
    show (if r.fallback = true then c.fallback else 0) ≤ 100
    split <;> omega

/-- R16 to R18: both gases of a row are as the heads and the record give them. -/
def State.GasesSound (s : State) (z : ZoneId) : Prop := ∀ g, s.GasSound z g ((s.zone z).gas g)

theorem State.GasesSound.ramps (h : s.GasesSound z) (hc : (s.zone z).config.percents) :
    (s.zone z).co.ramp ≤ 100 ∧ (s.zone z).no2.ramp ≤ 100 := by
  have h1 := (h .co).ramp
  have h2 := (h .no2).ramp
  simp only [Zone.gas] at h1 h2
  rw [h1, h2]
  exact ⟨ZoneConfig.rampBy_le hc _ _, ZoneConfig.rampBy_le hc _ _⟩

/-- R5, R16 to R20: the laws of one row. -/
structure State.RowSound (s : State) (z : ZoneId) : Prop where
  row : (s.zone z).Sound
  gas : s.GasesSound z
  target : (s.zone z).target = (s.zone z).greatestTerm

/-- The laws of the evaluator but for the rows of P, which are only fit to be worked out again. -/
structure State.SoundBut (s : State) (P : ZoneId → Prop) : Prop where
  sound : ∀ z, ¬P z → s.RowSound z
  fit : ∀ z, (s.zone z).Fit
  stored : ∀ z : ZoneId, s.store.zones.contents[z.val].percents
  heads : ∀ h, (s.head h).Sound

theorem State.ZonesSound.soundBut (h : s.ZonesSound) (P : ZoneId → Prop) : s.SoundBut P :=
  ⟨fun z _ => ⟨h.zones z, h.gas z, h.targets z⟩, fun z => (h.zones z).fit, h.stored, h.heads⟩
theorem State.SoundBut.zonesSound (h : s.SoundBut P) (hP : ∀ z, ¬P z) : s.ZonesSound :=
  ⟨fun z => (h.sound z (hP z)).row, fun z => (h.sound z (hP z)).gas, fun z => (h.sound z (hP z)).target, h.stored, h.heads⟩

theorem State.GasesSound.congr (h : s.GasesSound z)
    (hh : ∀ g k, s.Senses k z g ∨ t.Senses k z g → (s.head k).Agrees (t.head k)) (hz : t.zone z = s.zone z) : t.GasesSound z :=
  fun g => by rw [hz]; exact (h g).congr (hh g) (by rw [hz])
theorem State.RowSound.congr (h : s.RowSound z)
    (hh : ∀ g k, s.Senses k z g ∨ t.Senses k z g → (s.head k).Agrees (t.head k)) (hz : t.zone z = s.zone z) : t.RowSound z :=
  ⟨by rw [hz]; exact h.row, h.gas.congr hh hz, by rw [hz]; exact h.target⟩

/-- The laws speak of the rows, the heads and the stored records alone. -/
theorem State.ZonesSound.sameRows (h : s.ZonesSound) (k : s.SameRows t) : t.ZonesSound := by
  have hz : ∀ z, t.zone z = s.zone z := fun z => by simp only [State.zone, k.zones]
  have hh : ∀ j, t.head j = s.head j := fun j => by simp only [State.head, k.heads]
  refine State.SoundBut.zonesSound (P := fun _ => False) ⟨fun z _ => ?_, fun z => ?_, ?_, fun j => ?_⟩ fun _ => id
  · exact State.RowSound.congr ⟨h.zones z, h.gas z, h.targets z⟩ (fun _ j _ => .of_eq (hh j)) (hz z)
  · rw [hz]; exact (h.zones z).fit
  · rw [k.stored]; exact h.stored
  · rw [hh]; exact h.heads j

/-! ### Changed rows -/

/-- A change of the row of z alone. -/
theorem State.SoundBut.row (h : s.SoundBut P) (ho : ∀ y, y ≠ z → t.zone y = s.zone y) (hh : t.heads = s.heads)
    (hs : t.store.zones = s.store.zones) (hf : (t.zone z).Fit) : t.SoundBut fun y => P y ∨ y = z := by
  have hk : ∀ k, t.head k = s.head k := fun k => by simp only [State.head, hh]
  refine ⟨fun y hy => ?_, fun y => ?_, by rw [hs]; exact h.stored, fun k => by rw [hk]; exact h.heads k⟩
  · exact (h.sound y fun e => hy (.inl e)).congr (fun _ k _ => .of_eq (hk k)) (ho y fun e => hy (.inr e))
  · by_cases e : y = z
    · rw [e]; exact hf
    · rw [ho y e]; exact h.fit y

/-- A row that has become sound. -/
theorem State.SoundBut.mend (h : s.SoundBut fun y => P y ∨ y = z) (k : s.RowSound z) : s.SoundBut fun y => P y ∧ y ≠ z :=
  ⟨fun y hy => by
    by_cases e : y = z
    · rw [e]; exact k
    · exact h.sound y fun m => hy ⟨m.resolve_right e, e⟩, h.fit, h.stored, h.heads⟩

theorem State.InEvaluator.store (h : s.InEvaluator u) : u.store = s.store := congrArg Lasting.store h.lasting

/-- R19, R20: the retargeting of a fit row makes it sound. -/
theorem State.RowSound.retarget (hf : (s.zone z).Fit) (hg : s.GasesSound z) : (s.retarget z).RowSound z := by
  have hz : (s.retarget z).zone z = (s.zone z).follow (s.zone z).targetNow := by rw [State.retarget_zone, if_pos rfl]
  have hgas : ∀ g, ((s.retarget z).zone z).gas g = (s.zone z).gas g := fun g => by
    rw [hz, Zone.follow_eq]; cases g <;> rfl
  refine ⟨?_, fun g => ?_, ?_⟩
  · rw [hz]; exact hf.follow_sound (hg.ramps hf.config)
  · rw [hgas]; exact (hg g).congr (fun k _ => .of_eq (by simp [State.head])) (by simp)
  · rw [hz, Zone.follow_target, Zone.follow_greatestTerm, Zone.targetNow_eq]

theorem State.SoundBut.retarget (h : s.SoundBut P) (hg : s.GasesSound z) : (s.retarget z).SoundBut fun y => P y ∧ y ≠ z := by
  have hr := State.RowSound.retarget (h.fit z) hg
  exact (h.row (fun y e => by rw [State.retarget_zone, if_neg e]) (by simp)
    (congrArg Store.zones (s.retarget_inEvaluator z).store) hr.row.fit).mend hr

theorem State.refreshGas_gases (s : State) (z : ZoneId) : (s.refreshGas z).GasesSound z := fun g => by
  have hz : (s.refreshGas z).zone z = s.rowNow z (s.zone z) := by rw [State.refreshGas_zone, if_pos rfl]
  rw [hz]
  exact (s.rowNow_gasSound z _ g).congr (fun k _ => .of_eq (by simp [State.head])) (by rw [hz]; rfl)

theorem Zone.Fit.rowNow {q : Zone} (h : q.Fit) (s : State) (z : ZoneId) : (s.rowNow z q).Fit :=
  ⟨h.config, h.boost, h.target, h.demand, h.fall⟩

theorem State.SoundBut.refreshGas (h : s.SoundBut P) (z : ZoneId) : (s.refreshGas z).SoundBut fun y => P y ∨ y = z :=
  h.row (fun y e => by rw [State.refreshGas_zone, if_neg e]) rfl rfl
    (by rw [State.refreshGas_zone, if_pos rfl]; exact (h.fit z).rowNow s z)

theorem State.SoundBut.mono (h : s.SoundBut P) (hPQ : ∀ y, P y → Q y) : s.SoundBut Q :=
  ⟨fun z hz => h.sound z fun e => hz (hPQ z e), h.fit, h.stored, h.heads⟩

/-- R16 to R20: the recomputation of a zone makes its row sound. -/
theorem State.SoundBut.refreshZone (h : s.SoundBut P) (z : ZoneId) : (s.refreshZone z).SoundBut fun y => P y ∧ y ≠ z :=
  ((h.refreshGas z).retarget (s.refreshGas_gases z)).mono fun _ hy => ⟨hy.1.resolve_right hy.2, hy.2⟩

/-! ### Boosts and the fall timer -/

/-- R19, R22, R23: a boost of at most 100 percent starts or ends. -/
theorem State.ZonesSound.setBoost (h : s.ZonesSound) {b : Option Boost} (hb : ((b.map Boost.percent).getD 0) ≤ 100) :
    (s.setBoost z b).ZonesSound := by
  have hz : (s.modZone z fun q => { q with boost := b }).zone z = { s.zone z with boost := b } := s.modZone_zone_self z _
  have hf := (h.zones z).fit
  refine ((h.soundBut fun _ => False).row (fun y e => s.modZone_zone_other _ e) rfl rfl ?_).retarget (z := z) (fun g => ?_) |>.zonesSound
    fun y hy => hy.2 (hy.1.resolve_left id)
  · rw [hz]; exact ⟨hf.config, hb, hf.target, hf.demand, hf.fall⟩
  · rw [hz]
    exact ((h.gas z g).row (by cases g <;> rfl) (by cases g <;> rfl) (by cases g <;> rfl)).congr
      (fun _ _ => .of_eq rfl) (by rw [hz])

theorem State.ZonesSound.endBoosts (h : s.ZonesSound) : s.endBoosts.ZonesSound :=
  foldl_keeps (P := State.ZonesSound) (fun q z hq => by
    show State.ZonesSound (if (q.zone z).boost.isSome then q.setBoost z none else q)
    split
    · exact hq.setBoost (by decide)
    · exact hq) _ s h
theorem State.ZonesSound.boostAll (h : s.ZonesSound) {b : Option Boost} (hb : ((b.map Boost.percent).getD 0) ≤ 100) :
    (s.boostAll b).ZonesSound :=
  foldl_keeps (P := State.ZonesSound) (fun q z hq => by
    show State.ZonesSound (if s.reachedByAll z then q.setBoost z b else q)
    split
    · exact hq.setBoost hb
    · exact hq) _ s h

/-- R22: the boost of a request is within 100 percent. -/
theorem boostOf_percent (data : List Word) : (((boostOf data).map Boost.percent).getD 0) ≤ 100 := by
  unfold boostOf
  split
  · simp
  · simp [boostPercentOf, clampTo]

/-- A row whose target, gases, boost and record stay: R19's terms too. -/
theorem State.ZonesSound.demand (h : s.ZonesSound) (ho : ∀ y, y ≠ z → t.zone y = s.zone y) (hh : t.heads = s.heads)
    (hs : t.store.zones = s.store.zones)
    (hz : t.zone z = { s.zone z with demand := (t.zone z).demand, fall := (t.zone z).fall })
    (hd : (s.zone z).target ≤ (t.zone z).demand ∧ (t.zone z).demand ≤ 100)
    (hf : (t.zone z).fall.isSome = true ↔ (s.zone z).target < (t.zone z).demand) : t.ZonesSound := by
  have hq := h.zones z
  have hr : t.RowSound z := by
    refine ⟨?_, fun g => ?_, ?_⟩
    · rw [hz]; exact ⟨hq.config, hq.ramps, hq.boost, hq.floor, hd.1, hd.2, hf⟩
    · exact ((h.gas z g).row (by rw [hz]; cases g <;> rfl) (by rw [hz]; cases g <;> rfl) (by rw [hz]; cases g <;> rfl)).congr
        (fun k _ => .of_eq (by simp only [State.head, hh])) (by rw [hz])
    · rw [hz]; exact h.targets z
  exact (((h.soundBut fun _ => False).row ho hh hs hr.row.fit).mend hr).zonesSound fun y hy => hy.1

/-- R20: the expiry of the fall timer. -/
theorem State.ZonesSound.fallExpired (h : s.ZonesSound) (z : ZoneId) : (s.fallExpired z).ZonesSound := by
  have hq := h.zones z
  have hz : (s.fallExpired z).zone z = (s.zone z).stepDown := by
    rw [State.fallExpired, State.triggerIf_zone, State.modZone_zone_self]
  refine h.demand (z := z) (fun y e => ?_) (by simp [State.fallExpired]) (by simp [State.fallExpired]) (by rw [hz]; rfl) ?_ ?_
  · rw [State.fallExpired, State.triggerIf_zone, State.modZone_zone_other _ _ e]
  · rw [hz]
    have := hq.target
    have := hq.demand
    simp only [Zone.stepDown]; omega
  · rw [hz]
    simp only [Zone.stepDown]
    split
    · rename_i k; simpa using k
    · rename_i k; simpa using k

/-! ### Heads -/

/-- A changed head: the rows of the zone it served and of the one it serves. -/
theorem State.SoundBut.head {h : HeadId} {f : Head → Head} (k : s.SoundBut P) (hf : (f (s.head h)).Sound) :
    (s.modHead h f).SoundBut fun y => P y ∨ y = (s.head h).config.zone ∨ y = (f (s.head h)).config.zone := by
  refine ⟨fun y hy => ?_, k.fit, k.stored, fun j => ?_⟩
  · refine (k.sound y fun e => hy (.inl e)).congr (fun g j hj => ?_) rfl
    by_cases e : j = h
    · subst e
      refine absurd ?_ hy
      rcases hj with hj | hj
      · exact .inr (.inl hj.2.1.symm)
      · have := hj.2.1
        rw [State.modHead_head_self] at this
        exact .inr (.inr this.symm)
    · exact .of_eq (s.modHead_head_other f e)
  · rw [State.modHead_head]
    split
    · exact hf
    · exact k.heads j

/-- A head whose configuration stays changes the row of its zone alone. -/
theorem State.SoundBut.served {h : HeadId} {f : Head → Head} (k : s.SoundBut P) (hf : (f (s.head h)).Sound)
    (hc : (f (s.head h)).config = (s.head h).config) : (s.modHead h f).SoundBut fun y => P y ∨ y = (s.head h).config.zone :=
  (k.head hf).mono fun y hy => by rw [hc] at hy; tauto

/-- R9: a head without readings is sound in every state but VALID. -/
theorem Head.sound_of_none {q : Head} (hs : q.state ≠ .valid) (h1 : q.co = none) (h2 : q.no2 = none) : q.Sound := fun g => by
  have : (q.state == .valid) = false := by simpa using hs
  rw [this]
  cases g
  · simp [Head.reading, h1]
  · simp [Head.reading, h2]

theorem keptReading_isSome (c : Carried) (g : Gas) (limit : Nat) (raw : Word) : (keptReading c g limit raw).isSome = c.has g := by
  unfold keptReading; split <;> simp_all

theorem State.SoundBut.sameRows (h : s.SoundBut P) (k : s.SameRows t) : t.SoundBut P := by
  have hz : ∀ z, t.zone z = s.zone z := fun z => by simp only [State.zone, k.zones]
  have hh : ∀ j, t.head j = s.head j := fun j => by simp only [State.head, k.heads]
  refine ⟨fun z hP => (h.sound z hP).congr (fun _ j _ => .of_eq (hh j)) (hz z), fun z => by rw [hz]; exact h.fit z,
    by rw [k.stored]; exact h.stored, fun j => by rw [hh]; exact h.heads j⟩

theorem State.headFault_sameRows (s : State) (h : HeadId) : s.SameRows (s.headFault h) :=
  .trans (.of_lasting (s.raiseAlarm_lasting _ _)) (State.raiseAll_sameRows _ _)

/-- R12, R16: a fit row under a reading of a gas. -/
theorem Zone.Fit.counted {q : Zone} (h : q.Fit) (g : Gas) (v : Option Nat) : (q.counted g v).Fit := by
  rw [Zone.counted_eq]; exact ⟨h.config, h.boost, h.target, h.demand, h.fall⟩
theorem State.SoundBut.countReading (h : s.SoundBut fun y => y = z) (g : Gas) (v : Option Nat) :
    (s.countReading z g v).SoundBut fun y => y = z :=
  (h.row (z := z) (fun y e => by rw [State.countReading_zone, if_neg e]) (by simp)
    (congrArg Store.zones (s.countReading_inEvaluator z g v).store)
    (by rw [State.countReading_zone, if_pos rfl]; exact (h.fit z).counted g v)).mono fun _ hy => hy.elim id id
theorem State.GasesSound.countReading (h : s.GasesSound z) (g : Gas) (v : Option Nat) : (s.countReading z g v).GasesSound z :=
  fun k => by
    have hz : (s.countReading z g v).zone z = (s.zone z).counted g v := by rw [State.countReading_zone, if_pos rfl]
    rw [hz, Zone.counted_eq]
    exact ((h k).row (by cases k <;> rfl) (by cases k <;> rfl) (by cases k <;> rfl)).congr
      (fun j _ => .of_eq (by simp [State.head])) (by rw [hz]; simp)

/-- R12, R16 to R20, R24: an OK reply. -/
theorem State.ZonesSound.okReply (k : s.ZonesSound) (h : HeadId) (co no2 : Word) : (s.okReply h co no2).ZonesSound := by
  have h1 : (s.headOk h co no2).SoundBut fun y => y = (s.head h).config.zone := by
    refine (State.SoundBut.sameRows ((k.soundBut fun _ => False).served (h := h) ?_ rfl) (State.clearAlarm_sameRows _ _)).mono
      fun _ hy => hy.resolve_left id
    intro g
    cases g <;> simp [Head.reading, keptReading_isSome]
  have h2 := (h1.refreshGas (s.head h).config.zone).mono (Q := fun y => y = (s.head h).config.zone) fun _ hy => hy.elim id id
  have h3 := (State.refreshGas_gases (s.headOk h co no2) (s.head h).config.zone)
  exact (((h2.countReading .co _).countReading .no2 _).retarget ((h3.countReading .co _).countReading .no2 _)).zonesSound
    fun _ hy => hy.2 hy.1

/-- R12, R16 to R20: a head that loses its readings. -/
theorem State.ZonesSound.silenced (k : s.ZonesSound) (h : HeadId) {st : HeadState} (hs : st ≠ .valid)
    (ht : (s.modHead h fun q => { q with state := st, co := none, no2 := none }).SameRows t) :
    (t.refreshZone (s.head h).config.zone).ZonesSound :=
  (((((k.soundBut fun _ => False).served (h := h) (Head.sound_of_none hs rfl rfl) rfl).sameRows ht).refreshZone
    (s.head h).config.zone)).zonesSound fun _ hy => hy.2 (hy.1.resolve_left id)

/-- R11 to R21: a head's reply. -/
theorem State.ZonesSound.headReplied (k : s.ZonesSound) (h : HeadId) (status : Byte) (co no2 : Word) :
    (s.headReplied h status co no2).ZonesSound := by
  unfold State.headReplied
  split
  · exact k.okReply h co no2
  · exact k.silenced h (st := .unknown) (by decide) (.refl _)
  · refine k.silenced h (st := .sensorFault) (by decide) ?_
    unfold State.headFaults; simp only
    split
    · exact .refl _
    · exact State.headFault_sameRows _ h

/-- R13, R16 to R20: a head's loss. -/
theorem State.ZonesSound.loseHead (k : s.ZonesSound) (h : HeadId) : (s.loseHead h).ZonesSound := by
  unfold State.loseHead; simp only
  refine k.silenced h (st := .missing) (by decide) ?_
  split
  · exact .refl _
  · exact State.headFault_sameRows _ h

end Sys2Proof.Machine

/-! ## Resets: the part before the one pass of the start-up (R178 steps 3 to 8) -/

namespace Sys2Proof.Machine

variable {s t u v c g : State} {z : ZoneId}

/-! ### The first rows -/

/-- R29: a row with its record, its target and its demand at the floor. -/
def ZoneConfig.firstRow (k : ZoneConfig) : Zone := { config := k, target := k.floor, demand := k.floor }

/-- R16 to R20, R29: with every head UNKNOWN a new row has no gas value, and takes the floor. -/
theorem State.refreshZone_new (hh : ∀ k, (s.head k).state = .unknown) (hz : s.zone z = { config := (s.zone z).config }) :
    (s.refreshZone z).zone z = (s.zone z).config.firstRow := by
  have hstate : ∀ q ∈ s.heads.toList, q.state = .unknown := fun q hq => by
    obtain ⟨k, rfl⟩ := State.mem_heads.1 hq
    exact hh k
  have hv : ∀ g, s.gasValue z g = none := fun g => by
    unfold State.gasValue
    rw [List.max?_eq_none_iff, List.filterMap_eq_nil_iff]
    exact fun q hq => if_neg (by simp [hstate q hq])
  have hf : ∀ g, s.anyFailed z g = false := fun g => by
    unfold State.anyFailed
    rw [List.any_eq_false]
    exact fun q hq => by simp [hstate q hq]
  have hr : s.rowNow z (s.zone z) = { config := (s.zone z).config } := by
    simp only [State.rowNow, State.rampNow, State.fallbackNow, hv, hf]
    rw [hz]; rfl
  have ht : (s.rowNow z (s.zone z)).targetNow = (s.zone z).config.floor := by
    rw [hr]
    simp [Zone.targetNow, Zone.boostPercent, Zone.highTerm]
  rw [State.refreshZone_zone, if_pos rfl, ht, hr, Zone.follow_eq]
  by_cases h : (s.zone z).config.floor = 0
  · simp [ZoneConfig.firstRow, h]
  · simp [ZoneConfig.firstRow, h]

/-! ### Steps 3 to 6 -/

/-- R178 steps 3 and 4: the base plan, the record and the roles of the start. -/
def State.planned (c : State) : State := c.takeBase.firstEntries.rolesTaken

/-- R178 steps 3 to 6: the rows and the poll list too. -/
def State.worked (c : State) : State := c.planned.firstTargets.rebuildPolls

theorem State.Loaded.begun_eq (h : c.Loaded) : c.begun = c.worked.startExtracts.startMakeUps.startEnrolments := by
  unfold State.begun State.worked State.planned
  rw [h.roles]

theorem State.firstTargets_inEvaluator (s : State) : s.InEvaluator s.firstTargets :=
  s.eachZone_inEvaluator _ State.refreshZone_inEvaluator

theorem State.firstTargets_heads (s : State) : s.firstTargets.heads = s.heads := State.eachZone_heads State.refreshZone_heads s

theorem State.rebuildPolls_lasting (s : State) : s.rebuildPolls.lasting = s.lasting := rfl
theorem State.rebuildPolls_plant (s : State) : s.rebuildPolls.plant = s.plant := rfl
theorem State.rebuildPolls_fans (s : State) : s.rebuildPolls.fans = s.fans := rfl
theorem State.rebuildPolls_alloc (s : State) : s.rebuildPolls.alloc = s.alloc := rfl
theorem State.rebuildPolls_zone (s : State) (z : ZoneId) : s.rebuildPolls.zone z = s.zone z := rfl
theorem State.rebuildPolls_line (s : State) : s.rebuildPolls.line = { s.line with
    pollList := s.rebuildPolls.fittedDevices, position := firstAbove s.rebuildPolls.fittedDevices s.line.lastPolled } := rfl

theorem State.planned_heads (c : State) : c.planned.heads = c.heads := rfl
theorem State.planned_fans (c : State) : c.planned.fans = c.fans := rfl
theorem State.planned_line (c : State) : c.planned.line = c.line := rfl
theorem State.planned_zone (c : State) (z : ZoneId) : c.planned.zone z = c.zone z := rfl

theorem State.worked_lasting (c : State) : c.worked.lasting = { c.planned.lasting with zones := c.worked.zones } := by
  have h := c.planned.firstTargets_inEvaluator.lasting
  rw [State.firstTargets_heads] at h
  have hz : c.worked.zones = c.planned.firstTargets.zones := zones_of_lasting (State.rebuildPolls_lasting _)
  rw [hz, State.worked, State.rebuildPolls_lasting, h]
  simp only [State.lasting]
theorem State.worked_heads (c : State) : c.worked.heads = c.heads := by
  rw [State.worked, heads_of_lasting (State.rebuildPolls_lasting _), State.firstTargets_heads, State.planned_heads]
theorem State.worked_fans (c : State) : c.worked.fans = c.fans := by
  rw [State.worked, State.rebuildPolls_fans, c.planned.firstTargets_inEvaluator.fans, State.planned_fans]
theorem State.worked_plant (c : State) : c.worked.plant = c.planned.plant := by
  rw [State.worked, State.rebuildPolls_plant, c.planned.firstTargets_inEvaluator.plant]
theorem State.worked_alloc (c : State) : c.worked.alloc = { c.planned.alloc with due := c.worked.alloc.due } := by
  rw [State.worked, State.rebuildPolls_alloc]
  exact c.planned.firstTargets_inEvaluator.alloc
theorem State.worked_line (c : State) : c.worked.line = { c.line with
    pollList := c.worked.fittedDevices, position := firstAbove c.worked.fittedDevices c.line.lastPolled } := by
  have h := c.planned.firstTargets_inEvaluator.line
  rw [State.planned_line] at h
  rw [State.worked, State.rebuildPolls_line, h]

/-- R29, R178 step 5. -/
theorem State.Loaded.worked_zone (h : c.Loaded) (z : ZoneId) : c.worked.zone z = (c.zone z).config.firstRow := by
  rw [State.worked, State.rebuildPolls_zone, State.firstTargets_zone]
  exact State.refreshZone_new (s := c.planned) (fun k => congrArg Head.state (h.heads k)) (h.zones z)

/-! ### Step 7: the dampers and the enrolments -/

/-- Operations on different objects: each fitting one is left as its own operation leaves it. -/
theorem foldl_each {α β : Type} [DecidableEq α] {f : State → α → State} {fits : α → Bool} {get : State → α → β} {v : α → β}
    {P : State → Prop} (hP : ∀ s a, P s → P (f s a)) (hv : ∀ s a, P s → fits a = true → get (f s a) a = v a)
    (ho : ∀ s a b, P s → (b = a → fits a = false) → get (f s a) b = get s b) (b : α) (l : List α) : ∀ s, P s →
      get (l.foldl f s) b = if b ∈ l ∧ fits b = true then v b else get s b := by
  induction l with
  | nil => intro s _; simp
  | cons a l ih =>
    intro s hs
    rw [List.foldl_cons, ih _ (hP s a hs)]
    by_cases hl : b ∈ l ∧ fits b = true
    · rw [if_pos hl, if_pos ⟨List.mem_cons_of_mem _ hl.1, hl.2⟩]
    · rw [if_neg hl]
      by_cases hb : b = a ∧ fits a = true
      · obtain ⟨rfl, hf⟩ := hb
        rw [hv s b hs hf, if_pos ⟨List.mem_cons_self, hf⟩]
      · rw [ho s a b hs (by simpa using hb), if_neg]
        rintro ⟨hm, hf⟩
        rcases List.mem_cons.1 hm with rfl | hm
        · exact hb ⟨rfl, hf⟩
        · exact hl ⟨hm, hf⟩

/-- R178 step 7: the dampers of a zone and the drive of a fan, if they are fitted. -/
def State.startExtractIf (s : State) (z : ZoneId) : State := if (s.zone z).config.fitted then s.startExtract z else s
def State.startMakeUpIf (s : State) (z : ZoneId) : State := if (s.zone z).config.fitted then s.startMakeUp z else s
def State.enrolIf (s : State) (n : FanId) : State := if (s.fan n).config.fitted then s.enterEnrolling n else s

theorem State.startExtracts_eq (s : State) : s.startExtracts = (List.finRange 16).foldl State.startExtractIf s := rfl
theorem State.startMakeUps_eq (s : State) : s.startMakeUps = (List.finRange 16).foldl State.startMakeUpIf s := rfl
theorem State.startEnrolments_eq (s : State) : s.startEnrolments = (List.finRange 8).foldl State.enrolIf s := rfl

theorem State.Starting.startExtractIf (h : g.Starting s) (z : ZoneId) : g.Starting (s.startExtractIf z) := by
  unfold State.startExtractIf
  split
  · exact h.trans (s.startExtract_starting z)
  · exact h
theorem State.Starting.startMakeUpIf (h : g.Starting s) (z : ZoneId) : g.Starting (s.startMakeUpIf z) := by
  unfold State.startMakeUpIf
  split
  · exact h.trans (s.startMakeUp_starting z)
  · exact h

theorem State.startExtracts_starting (s : State) : s.Starting s.startExtracts :=
  foldl_keeps (P := s.Starting) (fun _ z h => h.startExtractIf z) _ s (.refl s)
theorem State.startMakeUps_starting (s : State) : s.Starting s.startMakeUps :=
  foldl_keeps (P := s.Starting) (fun _ z h => h.startMakeUpIf z) _ s (.refl s)

theorem State.startExtracts_extractOf (s : State) (z : ZoneId) : s.startExtracts.extractOf z =
    if (s.zone z).config.fitted = true then { timer := some (s.zone z).config.travelLimit } else s.extractOf z := by
  have h := foldl_each (f := State.startExtractIf)
    (fits := fun z => (s.zone z).config.fitted) (get := State.extractOf)
    (v := fun z => { timer := some (s.zone z).config.travelLimit }) (P := s.Starting)
    (fun _ z h => h.startExtractIf z)
    (fun q a hq hf => by
      rw [State.startExtractIf, if_pos (by rw [hq.zone]; exact hf), State.startExtract_extractOf, hq.zone])
    (fun q a b hq hb => by
      unfold State.startExtractIf
      split
      · rename_i hf
        exact q.startExtract_extractOf_other fun e => by rw [hq.zone, hb e] at hf; cases hf
      · rfl) z (List.finRange 16) s (.refl s)
  rw [State.startExtracts_eq, h]
  simp
theorem State.startMakeUps_makeUpOf (s : State) (z : ZoneId) : s.startMakeUps.makeUpOf z =
    if (s.zone z).config.fitted = true then { timer := some 60 } else s.makeUpOf z := by
  have h := foldl_each (f := State.startMakeUpIf)
    (fits := fun z => (s.zone z).config.fitted) (get := State.makeUpOf)
    (v := fun _ => { timer := some 60 }) (P := s.Starting)
    (fun _ z h => h.startMakeUpIf z)
    (fun q a hq hf => by rw [State.startMakeUpIf, if_pos (by rw [hq.zone]; exact hf), State.startMakeUp_makeUpOf])
    (fun q a b hq hb => by
      unfold State.startMakeUpIf
      split
      · rename_i hf
        exact q.startMakeUp_makeUpOf_other fun e => by rw [hq.zone, hb e] at hf; cases hf
      · rfl) z (List.finRange 16) s (.refl s)
  rw [State.startMakeUps_eq, h]
  simp

theorem State.startExtracts_makeUpOf (s : State) (z : ZoneId) : s.startExtracts.makeUpOf z = s.makeUpOf z :=
  foldl_keeps (P := fun q => q.makeUpOf z = s.makeUpOf z) (fun q y h => by
    split
    · rw [State.startExtract_makeUpOf]; exact h
    · exact h) _ s rfl
theorem State.startMakeUps_extractOf (s : State) (z : ZoneId) : s.startMakeUps.extractOf z = s.extractOf z :=
  foldl_keeps (P := fun q => q.extractOf z = s.extractOf z) (fun q y h => by
    split
    · rw [State.startMakeUp_extractOf]; exact h
    · exact h) _ s rfl

theorem State.startExtracts_indicated (h : s.Indicated) : s.startExtracts.Indicated :=
  foldl_keeps (P := State.Indicated) (fun q y h => by
    split
    · exact State.startExtract_indicated h y
    · exact h) _ s h
theorem State.startMakeUps_indicated (h : s.Indicated) : s.startMakeUps.Indicated :=
  foldl_keeps (P := State.Indicated) (fun q y h => by
    split
    · exact State.startMakeUp_indicated h y
    · exact h) _ s h

/-- R147: the queue of the start: the commands of fitted devices in the order of the devices. -/
theorem State.startExtracts_queue (hl : ∀ d, (s.link d).lost = false)
    (hq : ∀ z, ∀ x ∈ s.line.queue, x.device ≠ .extract z) : s.startExtracts.line.queue =
      s.line.queue ++ ((List.finRange 16).filter fun z => (s.zone z).config.fitted).map (Order.set · 0) := by
  rw [State.startExtracts_eq]
  exact foldl_queue (f := State.startExtractIf) (P := s.Starting) (fun _ z h => h.startExtractIf z)
    (fun q z h => by
      rw [← h.zone, State.startExtractIf]
      split
      · rename_i hf; exact q.startExtract_queue z hf (by rw [h.link]; exact hl _)
      · rfl)
    (fun a b e => by simpa [Order.device] using e) _ s (.refl s) (List.nodup_finRange 16) (fun z _ => hq z)
theorem State.startMakeUps_queue (hl : ∀ d, (s.link d).lost = false)
    (hq : ∀ z, ∀ x ∈ s.line.queue, x.device ≠ .makeUp z) : s.startMakeUps.line.queue =
      s.line.queue ++ ((List.finRange 16).filter fun z => (s.zone z).config.fitted).map Order.close := by
  rw [State.startMakeUps_eq]
  exact foldl_queue (f := State.startMakeUpIf) (P := s.Starting) (fun _ z h => h.startMakeUpIf z)
    (fun q z h => by
      rw [← h.zone, State.startMakeUpIf]
      split
      · rename_i hf; exact q.startMakeUp_queue z hf (by rw [h.link]; exact hl _)
      · rfl)
    (fun a b e => by simpa [Order.device] using e) _ s (.refl s) (List.nodup_finRange 16) (fun z _ => hq z)

/-! ### The fans of the start -/

/-- R74, R78: every fan as it stands after a reset. -/
def State.NewFans (s : State) : Prop :=
  ∀ n, s.fan n = { config := (s.fan n).config, state := if (s.fan n).config.fitted then .enrolling else .absent }

theorem State.NewFans.enrolIf (h : s.NewFans) (n : FanId) :
    s.enrolIf n = if (s.fan n).config.fitted then s.enqueue (.offer n) else s := by
  unfold State.enrolIf
  split
  · rename_i hf
    refine State.enterEnrolling_of_new ?_
    have := h n
    rw [if_pos hf] at this
    exact this
  · rfl

/-- R178 step 7, on new fans: an OFFER for each fitted drive and nothing else. -/
def State.Offering (g s : State) : Prop := g.Starting s ∧ s.plant = g.plant ∧ s.NewFans

theorem State.Offering.enrolIf (h : g.Offering s) (n : FanId) : g.Offering (s.enrolIf n) := by
  rw [h.2.2.enrolIf n]
  split
  · have hs := s.enqueue_starting (.offer n)
    refine ⟨h.1.trans hs, ?_, fun m => ?_⟩
    · rw [← h.2.1]; unfold State.enqueue; split <;> rfl
    · rw [hs.fan]; exact h.2.2 m
  · exact h
theorem State.NewFans.startEnrolments (h : s.NewFans) : s.Offering s.startEnrolments :=
  foldl_keeps (P := s.Offering) (fun _ n h => h.enrolIf n) _ s ⟨.refl s, rfl, h⟩

theorem State.NewFans.startEnrolments_queue (h : s.NewFans) (hl : ∀ d, (s.link d).lost = false)
    (hq : ∀ n, ∀ x ∈ s.line.queue, x.device ≠ .drive n) : s.startEnrolments.line.queue =
      s.line.queue ++ ((List.finRange 8).filter fun n => (s.fan n).config.fitted).map Order.offer := by
  rw [State.startEnrolments_eq]
  exact foldl_queue (f := State.enrolIf) (P := s.Offering) (fun _ n h => h.enrolIf n)
    (fun q n hq => by
      rw [hq.2.2.enrolIf n, hq.1.fan]
      split
      · rename_i hf
        rw [State.enqueue_queue, if_pos]
        simp only [Order.device, State.deviceFitted, hq.1.fan, hf, hq.1.link, hl, Bool.not_false, Bool.and_self]
      · rfl)
    (fun a b e => by simpa [Order.device] using e) _ s ⟨.refl s, rfl, h⟩ (List.nodup_finRange 8) (fun n _ => hq n)

/-! ### The part before its one pass -/

theorem State.Loaded.newFans (h : c.Loaded) : c.worked.NewFans := by
  intro n
  have : c.worked.fan n = c.fan n := by simp only [State.fan, State.worked_fans]
  rw [this]
  exact h.fans n

/-- R178 steps 3 to 7: rows, roles and records are those of the work before the dampers and drives are started. -/
theorem State.Loaded.starting (h : c.Loaded) : c.worked.Starting c.begun := by
  rw [h.begun_eq]
  have h1 := c.worked.startExtracts_starting.trans c.worked.startExtracts.startMakeUps_starting
  exact h1.trans (State.NewFans.startEnrolments (fun n => by rw [h1.fan]; exact h.newFans n)).1

theorem State.Loaded.line_worked (h : c.Loaded) : c.worked.line =
    { pollList := c.worked.fittedDevices, position := c.worked.fittedDevices.head? } := by
  rw [State.worked_line, h.line]; rfl
theorem State.Loaded.link_worked (h : c.Loaded) (d : Device) : c.worked.link d = {} := by
  simp only [State.link, h.line_worked, Vector.getElem_replicate]

theorem State.Loaded.begun_zone (h : c.Loaded) (z : ZoneId) : c.begun.zone z = (c.zone z).config.firstRow := by
  rw [h.starting.zone, h.worked_zone]
theorem State.Loaded.begun_fan (h : c.Loaded) (n : FanId) : c.begun.fan n = c.fan n := by
  rw [h.starting.fan]; simp only [State.fan, State.worked_fans]
theorem State.Loaded.begun_head (h : c.Loaded) (k : HeadId) : c.begun.head k = c.head k := by
  simp only [State.head, heads_of_lasting h.starting.lasting, State.worked_heads]

end Sys2Proof.Machine

/-! ## The pass of a part at rest (R178 step 9) -/

namespace Sys2Proof.Machine

variable {s t u v c g : State} {z : ZoneId}

/-! ### A part at rest -/

/-- R74, R97, R108: no fan has enrolled, every extract damper travels, and the path is not proven. -/
structure State.AtRest (s : State) : Prop where
  fans : s.NewFans
  extract : ∀ z, (s.extractOf z).state = .moving
  path : s.pathProven = false
  record : s.alloc.record.runSet = []

theorem State.AtRest.not_inGroup (h : s.AtRest) (n : FanId) (smoke : Bool) : (s.fan n).state.countsIn smoke = false := by
  rw [h.fans n]
  cases (s.fan n).config.fitted <;> cases smoke <;> rfl
/-- R118: no fan is eligible. -/
theorem State.AtRest.eligibleFans (h : s.AtRest) : s.eligibleFans = [] := by
  unfold State.eligibleFans
  rw [List.filter_eq_nil_iff]
  intro n _
  simp [State.eligible, h.not_inGroup]
/-- R120: the run set of a pass is empty. -/
theorem State.AtRest.stage (h : s.AtRest) : s.stage false = noStage := by
  have hh : s.holdApplies false = false := by simp [State.holdApplies, State.holds, h.record]
  rw [State.stage, hh, State.selectStage, h.eligibleFans]
  simp
theorem State.AtRest.newRecord (h : s.AtRest) : (s.newRecord false).runSet = [] := by
  rw [State.newRecord, h.stage]; rfl
theorem State.AtRest.newStageDown (h : s.AtRest) : s.newStageDown false = none := by
  have hh : s.holdApplies false = false := by simp [State.holdApplies, State.holds, h.record]
  rw [State.newStageDown, hh]; rfl

/-! ### What the handover does there -/

theorem State.Starting.duty (h : g.Starting s) : s.duty = g.duty := congrArg Plant.duty h.plant
theorem State.Starting.grace (h : g.Starting s) : s.grace = g.grace := congrArg Plant.grace h.plant
theorem State.Starting.pathProven (h : g.Starting s) : s.pathProven = g.pathProven := congrArg Plant.pathProven h.plant
theorem State.Starting.pollList (h : g.Starting s) : s.line.pollList = g.line.pollList := by
  have := congrArg FieldLine.pollList h.line
  exact this
theorem State.Starting.head (h : g.Starting s) (k : HeadId) : s.head k = g.head k := by
  simp only [State.head, heads_of_lasting h.lasting]

/-- R98: every extract damper travels. -/
def State.Travelling (s : State) : Prop := ∀ z, (s.extractOf z).state = .moving

theorem State.commandExtract_starting (s : State) (z : ZoneId) (k : Nat) : s.Starting (s.commandExtract z k) := by
  unfold State.commandExtract
  split
  · exact .refl s
  · split
    · exact s.modExtract_starting z _
    · exact ((s.modExtract_starting z _).trans (State.modExtract_starting _ z _)).trans (State.enqueue_starting _ _)
theorem State.commandMakeUp_starting (s : State) (z : ZoneId) (k : MakeUpCommand) : s.Starting (s.commandMakeUp z k) := by
  unfold State.commandMakeUp
  split
  · exact .refl s
  · split
    · exact s.modMakeUp_starting z _
    · exact ((s.modMakeUp_starting z _).trans (State.modMakeUp_starting _ z _)).trans (State.enqueue_starting _ _)

theorem State.Travelling.modExtract (h : s.Travelling) {f : ExtractDamper → ExtractDamper}
    (hf : (f (s.extractOf z)).state = .moving) : (s.modExtract z f).Travelling := fun y => by
  rw [State.modExtract_extractOf]
  split
  · exact hf
  · exact h y
theorem State.Travelling.commandExtract (h : s.Travelling) (z : ZoneId) (k : Nat) : (s.commandExtract z k).Travelling := by
  unfold State.commandExtract
  split
  · exact h
  · have h1 : (s.modExtract z fun d => { d with command := k }).Travelling := h.modExtract (h z)
    split
    · exact h1
    · intro y
      rw [State.driveExtract, State.enqueue_extractOf]
      exact h1.modExtract rfl y
theorem State.commandMakeUp_extractOf (s : State) (z y : ZoneId) (k : MakeUpCommand) :
    (s.commandMakeUp z k).extractOf y = s.extractOf y := by
  unfold State.commandMakeUp
  split
  · rfl
  · split
    · rfl
    · rw [State.driveMakeUp, State.enqueue_extractOf]; rfl

/-- R99, R104: the commands of a pass, while every extract damper goes on travelling. -/
theorem State.Travelling.takes (h : s.Travelling) :
    s.Starting ((s.eachZone State.extractTakes).eachZone State.makeUpTakes) ∧
      ((s.eachZone State.extractTakes).eachZone State.makeUpTakes).Travelling := by
  refine foldl_keeps (P := fun q => s.Starting q ∧ q.Travelling) (fun q y hq => ?_) _ _
    (foldl_keeps (P := fun q => s.Starting q ∧ q.Travelling) (fun q y hq => ?_) _ s ⟨.refl s, h⟩)
  · unfold State.makeUpTakes
    split
    · exact ⟨hq.1.trans (State.commandMakeUp_starting _ _ _), fun x => by rw [State.commandMakeUp_extractOf]; exact hq.2 x⟩
    · exact hq
  · unfold State.extractTakes
    split
    · exact ⟨hq.1.trans (State.commandExtract_starting _ _ _), hq.2.commandExtract _ _⟩
    · exact hq

/-- R108: no travelling damper proves the path. -/
theorem State.Travelling.reprove (h : s.Travelling) (hp : s.pathProven = false) : s.reprove = s := by
  have : s.pathNow = false := by
    simp only [State.pathNow, List.any_eq_false, State.proves]
    intro z _
    simp [h z]
  rw [State.reprove, if_pos (this.trans hp.symm)]

/-- R82: a new fan takes nothing of an empty run set. -/
theorem State.NewFans.fanTakes (h : s.NewFans) (hr : s.alloc.record.runSet = []) (n : FanId) : s.fanTakes n = s := by
  have hn := congrArg Fan.state (h n)
  simp only at hn
  rw [State.fanTakes, hr, if_neg (by simp), State.notCalledFor, hn]
  cases (s.fan n).config.fitted <;> rfl

/-- R111, R131: a pass at rest replaces the record by one with an empty run set, and hands dampers their commands. -/
theorem State.AtRest.pass (h : s.AtRest) : (s.putRecord (s.newRecord false) none).Starting (s.pass false) := by
  have hl : (s.putRecord (s.newRecord false) none).fans = s.fans ∧
      (s.putRecord (s.newRecord false) none).extract = s.extract ∧
      (s.putRecord (s.newRecord false) none).pathProven = s.pathProven ∧
      (s.putRecord (s.newRecord false) none).alloc.record = s.newRecord false := by
    unfold State.putRecord; simp only; split <;> exact ⟨rfl, rfl, rfl, rfl⟩
  obtain ⟨h1, h2, h3, h4⟩ := hl
  have ht : (s.putRecord (s.newRecord false) none).Travelling := fun z => by
    simp only [State.extractOf, h2]; exact h.extract z
  obtain ⟨k1, k2⟩ := ht.takes
  have hp : ((((s.putRecord (s.newRecord false) none).eachZone State.extractTakes)).eachZone State.makeUpTakes).pathProven = false := by
    rw [k1.pathProven, h3, h.path]
  have hrec := congrArg Allocator.record k1.alloc
  rw [h4] at hrec
  have hf : ((((s.putRecord (s.newRecord false) none).eachZone State.extractTakes)).eachZone State.makeUpTakes).NewFans :=
    fun n => by rw [k1.fan]; simp only [State.fan, h1]; exact h.fans n
  unfold State.pass State.takeCommands State.takeRunSet State.eachFan
  rw [h.newStageDown, k2.reprove hp]
  rw [foldl_fixed (fun n => hf.fanTakes (by rw [hrec, h.newRecord]) n)]
  rw [State.turnDuty, h.record]
  simpa using k1

/-- R111, R113, R131, R178 step 9: one pass is taken. -/
theorem State.AtRest.settle (h : s.AtRest) (hd : s.alloc.due = true) : s.settle = s.pass false := by
  have hp : (s.pass false).alloc.due = false := by
    rw [h.pass.alloc]
    unfold State.putRecord; simp only; split <;> rfl
  have hc : ∀ k, (s.pass false).chain k = s.pass false := fun k => by
    cases k with
    | zero => rfl
    | succ k => rw [State.chain, if_neg (by simp [hp])]
  have hs : s.settle = s.chain (31 + 1) := rfl
  rw [hs, State.chain, if_pos hd, hc]

theorem FieldLine.choose_links (held : Order → Bool) (l : FieldLine) :
    (l.choose held).links = l.links ∧ (l.choose held).pollList = l.pollList := by
  have hp : l.pollOrIdle.links = l.links ∧ l.pollOrIdle.pollList = l.pollList := by
    unfold FieldLine.pollOrIdle; split <;> exact ⟨rfl, rfl⟩
  unfold FieldLine.choose
  split
  · exact ⟨rfl, rfl⟩
  · split
    · split
      · exact ⟨rfl, rfl⟩
      · exact hp
    · exact hp

theorem State.chooseExchange_blocks (s : State) : s.chooseExchange.fans = s.fans ∧ s.chooseExchange.duty = s.duty ∧
    s.chooseExchange.grace = s.grace ∧ s.chooseExchange.pathProven = s.pathProven ∧ s.chooseExchange.alarms = s.alarms ∧
    s.chooseExchange.alloc = s.alloc := ⟨rfl, rfl, rfl, rfl, rfl, rfl⟩
theorem State.chooseExchange_link (s : State) (d : Device) : s.chooseExchange.link d = s.link d := by
  have h : s.chooseExchange.line.links = s.line.links := (FieldLine.choose_links s.holdsBack s.line).1
  simp only [State.link, h]
theorem State.chooseExchange_pollList (s : State) : s.chooseExchange.line.pollList = s.line.pollList :=
  (FieldLine.choose_links s.holdsBack s.line).2

/-- What a pass and the choice of an exchange leave of a part at rest. -/
structure State.Woken (s t : State) : Prop where
  lasting : t.lasting = s.lasting
  fans : t.fans = s.fans
  duty : t.duty = s.duty
  grace : t.grace = s.grace
  pathProven : t.pathProven = s.pathProven
  alarms : t.alarms = s.alarms
  links : ∀ d, t.link d = s.link d
  pollList : t.line.pollList = s.line.pollList
  alloc : t.alloc = { s.alloc with record := t.alloc.record, stageDown := none, due := false }
  runSet : t.alloc.record.runSet = []

theorem State.AtRest.finish (h : s.AtRest) (hd : s.alloc.due = true) : s.Woken s.finish := by
  have hf : s.finish = (s.pass false).chooseExchange := by rw [State.finish, h.settle hd]
  have hp := h.pass
  have hput : (s.putRecord (s.newRecord false) none).fans = s.fans ∧
      (s.putRecord (s.newRecord false) none).duty = s.duty ∧
      (s.putRecord (s.newRecord false) none).grace = s.grace ∧
      (s.putRecord (s.newRecord false) none).pathProven = s.pathProven ∧
      (s.putRecord (s.newRecord false) none).alarms = s.alarms ∧
      (s.putRecord (s.newRecord false) none).line = s.line ∧
      (s.putRecord (s.newRecord false) none).alloc =
        { s.alloc with record := s.newRecord false, stageDown := none, due := false } := by
    unfold State.putRecord; simp only; split <;> exact ⟨rfl, rfl, rfl, rfl, rfl, rfl, rfl⟩
  obtain ⟨h1, h2, h3, h4, h5, h6, h7⟩ := hput
  obtain ⟨c1, c2, c3, c4, c5, c6⟩ := (s.pass false).chooseExchange_blocks
  have halloc : s.finish.alloc = { s.alloc with record := s.newRecord false, stageDown := none, due := false } := by
    rw [hf, c6, hp.alloc, h7]
  refine ⟨s.finish_lasting, ?_, ?_, ?_, ?_, ?_, fun d => ?_, ?_, ?_, ?_⟩
  · rw [hf, c1, hp.fans, h1]
  · rw [hf, c2, hp.duty, h2]
  · rw [hf, c3, hp.grace, h3]
  · rw [hf, c4, hp.pathProven, h4]
  · rw [hf, c5, hp.quiet.1, h5]
  · rw [hf, State.chooseExchange_link, hp.link]; simp only [State.link, h6]
  · rw [hf, State.chooseExchange_pollList, hp.pollList, h6]
  · rw [halloc]
  · rw [halloc]; exact h.newRecord

end Sys2Proof.Machine

/-! ## Resets: the volatile values (R29, R36, R72, R74, R92, R97, R102, R111, R154, R177, R178) -/

namespace Sys2Proof.Machine

variable {s t u v c g : State} {z : ZoneId}

/-! ### Blocks of equal plants and lasting states -/

theorem extractOf_of_plant (h : t.plant = s.plant) (z : ZoneId) : t.extractOf z = s.extractOf z :=
  congrArg (fun p : Plant => p.extract[z.val]) h
theorem makeUpOf_of_plant (h : t.plant = s.plant) (z : ZoneId) : t.makeUpOf z = s.makeUpOf z :=
  congrArg (fun p : Plant => p.makeUp[z.val]) h
theorem indications_of_plant (h : t.plant = s.plant) : t.indications = s.indications := congrArg Plant.indications h
theorem pathProven_of_plant (h : t.plant = s.plant) : t.pathProven = s.pathProven := congrArg Plant.pathProven h
theorem duty_of_plant (h : t.plant = s.plant) : t.duty = s.duty := congrArg Plant.duty h
theorem grace_of_plant (h : t.plant = s.plant) : t.grace = s.grace := congrArg Plant.grace h

/-- R109: the indications speak of the plant and the roles. -/
theorem State.Indicated.congr (h : s.Indicated) (hp : t.plant = s.plant) (hr : t.resolver = s.resolver) : t.Indicated := fun z => by
  simp only [State.role, extractOf_of_plant hp, makeUpOf_of_plant hp, indications_of_plant hp, hr]
  exact h z

/-! ### Rows worked out without a notice -/

theorem State.modZone_quiet (s : State) (z : ZoneId) (f : Zone → Zone) : s.Quiet (s.modZone z f) := ⟨rfl, rfl⟩
theorem State.modHead_quiet (s : State) (h : HeadId) (f : Head → Head) : s.Quiet (s.modHead h f) := ⟨rfl, rfl⟩
theorem State.modLine_quiet (s : State) (f : FieldLine → FieldLine) : s.Quiet (s.modLine f) := ⟨rfl, rfl⟩
theorem State.triggerIf_quiet (s : State) (b : Bool) : s.Quiet (s.triggerIf b) :=
  ⟨State.triggerIf_alarms _ _, State.triggerIf_ports _ _⟩
theorem State.retarget_quiet (s : State) (z : ZoneId) : s.Quiet (s.retarget z) :=
  (s.modZone_quiet z _).trans (State.triggerIf_quiet _ _)
theorem State.refreshZone_quiet (s : State) (z : ZoneId) : s.Quiet (s.refreshZone z) :=
  (s.modZone_quiet z _).trans (State.retarget_quiet _ z)
theorem State.setBoost_quiet (s : State) (z : ZoneId) (b : Option Boost) : s.Quiet (s.setBoost z b) :=
  (s.modZone_quiet z _).trans (State.retarget_quiet _ z)
theorem State.endBoosts_quiet (s : State) : s.Quiet s.endBoosts :=
  foldl_keeps (P := s.Quiet) (fun q z h => by
    show s.Quiet (if (q.zone z).boost.isSome then q.setBoost z none else q)
    split
    · exact h.trans (q.setBoost_quiet z none)
    · exact h) _ s (.refl s)
theorem State.firstTargets_quiet (s : State) : s.Quiet s.firstTargets :=
  foldl_keeps (P := s.Quiet) (fun q z h => h.trans (q.refreshZone_quiet z)) _ s (.refl s)

theorem State.planned_blocks (c : State) : c.planned.plan = { c.plan with current := c.plan.base, saved := c.plan.base } ∧
    c.planned.pathProven = c.pathProven ∧ c.planned.extract = c.extract ∧ c.planned.makeUp = c.makeUp ∧
    c.planned.duty = c.duty ∧ c.planned.grace = c.grace ∧ c.planned.store = c.store ∧ c.planned.partTime = c.partTime :=
  ⟨rfl, rfl, rfl, rfl, rfl, rfl, rfl, rfl⟩
theorem State.planned_quiet (c : State) : c.Quiet c.planned := ⟨rfl, rfl⟩
theorem State.planned_alloc (c : State) : c.planned.alloc = { c.alloc with
    record := { c.alloc.record with zones := Vector.ofFn fun z => if (c.zone z).config.fitted then some {} else none }
    due := c.planned.alloc.due } := rfl
theorem State.planned_indicated (c : State) : c.planned.Indicated := c.takeBase.firstEntries.rolesTaken_indicated
theorem State.planned_rolesSound (c : State) : c.planned.RolesSound := c.takeBase.firstEntries.rolesTaken_rolesSound
theorem State.planned_reworked (c : State) : c.planned.resolver = c.resolver.reworked c.planned.resolver :=
  c.takeBase.firstEntries.rolesTaken_reworked

/-- The blocks beside the rows of a state that differs in its rows alone. -/
theorem blocks_of_rows (h : t.lasting = { s.lasting with zones := t.zones }) :
    t.resolver = s.resolver ∧ t.plan = s.plan ∧ t.store = s.store ∧ t.partTime = s.partTime :=
  ⟨congrArg Lasting.resolver h, congrArg Lasting.plan h, congrArg Lasting.store h, congrArg Lasting.partTime h⟩

theorem State.worked_resolver (c : State) : c.worked.resolver = c.planned.resolver := (blocks_of_rows c.worked_lasting).1
theorem State.worked_plan (c : State) : c.worked.plan = c.planned.plan := (blocks_of_rows c.worked_lasting).2.1
theorem State.worked_store (c : State) : c.worked.store = c.store := by
  rw [(blocks_of_rows c.worked_lasting).2.2.1, c.planned_blocks.2.2.2.2.2.2.1]
theorem State.worked_partTime (c : State) : c.worked.partTime = c.partTime := by
  rw [(blocks_of_rows c.worked_lasting).2.2.2, c.planned_blocks.2.2.2.2.2.2.2]
theorem State.rebuildPolls_quiet (s : State) : s.Quiet s.rebuildPolls := ⟨rfl, rfl⟩
theorem State.worked_quiet (c : State) : c.Quiet c.worked :=
  (c.planned_quiet.trans (State.firstTargets_quiet _)).trans (State.rebuildPolls_quiet _)

/-- A line that differs from another in its queue alone. -/
theorem FieldLine.of_queue {l k : FieldLine} (h : { l with queue := k.queue } = k) : l = { k with queue := l.queue } := by
  rw [← h]

/-! ### The dampers, the record and the line before the pass -/

theorem State.Loaded.begun_extractOf (h : c.Loaded) (z : ZoneId) : c.begun.extractOf z =
    { timer := if (c.zone z).config.fitted = true then some (c.zone z).config.travelLimit else none } := by
  have h1 := c.worked.startExtracts_starting.trans c.worked.startExtracts.startMakeUps_starting
  have h2 : State.Offering _ _ := State.NewFans.startEnrolments (fun n => by rw [h1.fan]; exact h.newFans n)
  have he : c.begun.extractOf z = c.worked.startExtracts.startMakeUps.extractOf z := by
    rw [h.begun_eq]
    exact extractOf_of_plant h2.2.1 z
  have hw : c.worked.extractOf z = {} := by
    rw [extractOf_of_plant c.worked_plant, State.extractOf, c.planned_blocks.2.2.1]; exact h.extract z
  rw [he, State.startMakeUps_extractOf, State.startExtracts_extractOf, hw, h.worked_zone]
  show (if (c.zone z).config.fitted = true then _ else _) = _
  split <;> rfl
theorem State.Loaded.begun_makeUpOf (h : c.Loaded) (z : ZoneId) : c.begun.makeUpOf z =
    { timer := if (c.zone z).config.fitted = true then some 60 else none } := by
  have h0 := c.worked.startExtracts_starting
  have h1 := h0.trans c.worked.startExtracts.startMakeUps_starting
  have h2 : State.Offering _ _ := State.NewFans.startEnrolments (fun n => by rw [h1.fan]; exact h.newFans n)
  have he : c.begun.makeUpOf z = c.worked.startExtracts.startMakeUps.makeUpOf z := by
    rw [h.begun_eq]
    exact makeUpOf_of_plant h2.2.1 z
  have hw : c.worked.makeUpOf z = {} := by
    rw [makeUpOf_of_plant c.worked_plant, State.makeUpOf, c.planned_blocks.2.2.2.1]; exact h.makeUp z
  rw [he, State.startMakeUps_makeUpOf, State.startExtracts_makeUpOf, hw, h0.zone, h.worked_zone]
  show (if (c.zone z).config.fitted = true then _ else _) = _
  split <;> rfl

/-- R109: the indications follow the roles and the dampers from the start. -/
theorem State.Loaded.begun_indicated (h : c.Loaded) : c.begun.Indicated := by
  have h1 := c.worked.startExtracts_starting.trans c.worked.startExtracts.startMakeUps_starting
  have h2 : State.Offering _ _ := State.NewFans.startEnrolments (fun n => by rw [h1.fan]; exact h.newFans n)
  have hw : c.worked.Indicated := c.planned_indicated.congr c.worked_plant c.worked_resolver
  have h3 := State.startMakeUps_indicated (State.startExtracts_indicated hw)
  rw [h.begun_eq]
  exact h3.congr h2.2.1 (resolver_of_lasting h2.1.lasting)

/-- R109: travelling dampers make the indication of a zone. -/
theorem State.Loaded.begun_indication (h : c.Loaded) (z : ZoneId) :
    c.begun.indications[z.val] = if c.begun.role z = .gas then .normal else .activePending := by
  rw [h.begun_indicated z, h.begun_extractOf, h.begun_makeUpOf, indicationOf_eq]
  simp

theorem State.Loaded.begun_alloc (h : c.Loaded) : c.begun.alloc = { c.alloc with
    record := { c.alloc.record with zones := Vector.ofFn fun z => if (c.zone z).config.fitted then some {} else none }
    due := c.begun.alloc.due } := by
  rw [h.starting.alloc, c.worked_alloc, c.planned_alloc]

theorem State.Loaded.begun_pollList (h : c.Loaded) : c.begun.line.pollList = c.begun.fittedDevices := by
  have hd : c.begun.fittedDevices = c.worked.fittedDevices := by
    simp only [State.fittedDevices, funext h.starting.deviceFitted]
  rw [hd, h.starting.pollList, h.line_worked]

/-- R147, R154, R178: the line before the pass. -/
theorem State.Loaded.begun_line (h : c.Loaded) : c.begun.line =
    { pollList := c.begun.fittedDevices, position := c.begun.fittedDevices.head?
      queue := ((List.finRange 16).filter fun z => (c.zone z).config.fitted).map (Order.set · 0) ++
        ((List.finRange 16).filter fun z => (c.zone z).config.fitted).map Order.close ++
        ((List.finRange 8).filter fun n => (c.fan n).config.fitted).map Order.offer } := by
  have hl : ∀ d, (c.worked.link d).lost = false := fun d => by rw [h.link_worked]
  have h0 := c.worked.startExtracts_starting
  have h1 := h0.trans c.worked.startExtracts.startMakeUps_starting
  have hn : c.worked.startExtracts.startMakeUps.NewFans := fun n => by rw [h1.fan]; exact h.newFans n
  have hz : ∀ z, ((c.zone z).config.firstRow).config = (c.zone z).config := fun _ => rfl
  have hf : ∀ n, c.worked.fan n = c.fan n := fun n => by simp only [State.fan, State.worked_fans]
  have q0 : c.worked.line.queue = [] := by rw [h.line_worked]
  have q1 := State.startExtracts_queue (s := c.worked) hl (by rw [q0]; simp)
  rw [q0, List.nil_append] at q1
  have q2 := State.startMakeUps_queue (s := c.worked.startExtracts) (fun d => by rw [h0.link]; exact hl d) (by
    rw [q1]; intro z x hx
    obtain ⟨y, _, rfl⟩ := List.mem_map.1 hx
    simp [Order.device])
  have q3 := State.NewFans.startEnrolments_queue hn (fun d => by rw [h1.link]; exact hl d) (by
    rw [q2, q1]; intro n x hx
    rcases List.mem_append.1 hx with hx | hx
    · obtain ⟨y, _, rfl⟩ := List.mem_map.1 hx
      simp [Order.device]
    · obtain ⟨y, _, rfl⟩ := List.mem_map.1 hx
      simp [Order.device])
  simp only [q2, q1, h1.fan, h0.zone, h.worked_zone, hz, hf] at q3
  rw [← h.begun_eq] at q3
  have hd : c.begun.fittedDevices = c.worked.fittedDevices := by
    simp only [State.fittedDevices, funext h.starting.deviceFitted]
  rw [FieldLine.of_queue h.starting.line, h.line_worked, hd, q3]

/-! ### The whole start -/

/-- R178: the part before the one pass of its start. -/
def State.primed (s : State) : State := s.volatileReset.loadGroups.correctBase.begun.trigger

theorem State.AtRest.trigger (h : s.AtRest) : s.trigger.AtRest := ⟨h.fans, h.extract, h.path, h.record⟩

theorem State.Loaded.begun_pathProven (h : c.Loaded) : c.begun.pathProven = false := by
  rw [h.starting.pathProven, pathProven_of_plant c.worked_plant, c.planned_blocks.2.1, h.pathProven]
theorem State.Loaded.atRest (h : c.Loaded) : c.begun.AtRest where
  fans := fun n => by rw [h.begun_fan]; exact h.fans n
  extract := fun z => by rw [h.begun_extractOf]
  path := h.begun_pathProven
  record := by
    have := congrArg (fun a : Allocator => a.record.runSet) h.begun_alloc
    rw [h.alloc] at this
    exact this

/-- R178 step 9: what stands at the end of the start. -/
theorem State.Loaded.woken (h : c.Loaded) : c.begun.trigger.Woken c.begun.trigger.finish := h.atRest.trigger.finish rfl

/-- R57 to R59: the roles of the start. -/
theorem State.Loaded.begun_rolesSound (h : c.Loaded) : c.begun.RolesSound := by
  refine c.planned_rolesSound.congr ?_ ?_ fun z => ?_
  · rw [resolver_of_lasting h.starting.lasting, c.worked_resolver]
  · rw [plan_of_lasting h.starting.lasting, c.worked_plan]
  · rw [h.begun_zone, c.planned_zone]; rfl

theorem State.Loaded.begun_plan (h : c.Loaded) :
    c.begun.plan = { c.plan with current := c.plan.base, saved := c.plan.base } := by
  rw [plan_of_lasting h.starting.lasting, c.worked_plan, c.planned_blocks.1]
theorem State.Loaded.begun_resolver (h : c.Loaded) : c.begun.resolver = c.resolver.reworked c.begun.resolver := by
  have h1 : c.begun.resolver = c.planned.resolver := by rw [resolver_of_lasting h.starting.lasting, c.worked_resolver]
  rw [h1]
  exact c.planned_reworked
theorem State.Loaded.begun_store (h : c.Loaded) : c.begun.store = c.store := by
  rw [store_of_lasting h.starting.lasting, c.worked_store]
theorem State.Loaded.begun_partTime (h : c.Loaded) : c.begun.partTime = 0 := by
  rw [partTime_of_lasting h.starting.lasting, c.worked_partTime, h.partTime]
theorem State.Loaded.begun_duty (h : c.Loaded) : c.begun.duty = c.duty := by
  rw [h.starting.duty, duty_of_plant c.worked_plant, c.planned_blocks.2.2.2.2.1]
theorem State.Loaded.begun_grace (h : c.Loaded) : c.begun.grace = none := by
  rw [h.starting.grace, grace_of_plant c.worked_plant, c.planned_blocks.2.2.2.2.2.1, h.grace]
theorem State.Loaded.begun_link (h : c.Loaded) (d : Device) : c.begun.link d = {} := by
  rw [h.starting.link, h.link_worked]

/-- The alarm list and the ports are those of the loads. -/
theorem State.Loaded.begun_quiet (h : c.Loaded) : c.Quiet c.begun := c.worked_quiet.trans h.starting.quiet

end Sys2Proof.Machine

/-! ## Resets: the ports, the alarm list and the whole of the volatile values -/

namespace Sys2Proof.Machine

variable {s t u v c g : State} {z : ZoneId}

/-! ### The reports of failed groups -/

/-- R140: a raise that is no FIRE raise leaves the read cursors. -/
theorem AlarmList.raise_cursors (a : AlarmList) {k : AlarmKey} (hk : k.isFire = false) (d : Option FanDetail) (t : Nat) :
    (a.raise k d t).cursors = a.cursors := by
  unfold AlarmList.raise
  split
  · rfl
  · split
    · rfl
    · rw [hk]; rfl

theorem State.groupFailed_moves (s : State) (g : GroupId) : State.Moves true s (s.groupFailed g) :=
  (State.raiseAlarm_moves _ _ _ (.inr ⟨rfl, rfl⟩)).trans (State.raiseAll_moves _ _)
theorem State.groupFailed_lasting (s : State) (g : GroupId) : (s.groupFailed g).lasting = s.lasting := by
  rw [State.groupFailed, State.raiseAll_lasting, State.raiseAlarm_lasting]

/-- R159, R161 to R164: the ports of a part that starts: as after a reset but for the notices raised since. -/
structure State.PortsNew (s : State) : Prop where
  sound : s.PortsSound
  lasting : ∀ p, (s.port p).lasting = (State.reset.port p).lasting
  restarted : ∀ p, s.noticed .restarted p
  cursors : s.alarms.cursors = ⟨0, 0, 0⟩

theorem State.PortsNew.groupFailed (h : s.PortsNew) (g : GroupId) : (s.groupFailed g).PortsNew where
  sound := (s.groupFailed_moves g).portsSound h.sound
  lasting := fun p => by rw [port_of_lasting (s.groupFailed_lasting g) p]; exact h.lasting p
  restarted := fun p => (s.groupFailed_moves g).keepsNotices _ _ (h.restarted p)
  cursors := by
    rw [State.groupFailed, State.raiseAll_alarms, State.raiseAlarm_alarms, AlarmList.raise_cursors _ rfl]
    exact h.cursors
theorem State.PortsNew.reportIf (h : s.PortsNew) (b : Bool) (g : GroupId) : (s.reportIf b g).PortsNew := by
  cases b with
  | false => exact h
  | true => exact h.groupFailed g
theorem State.PortsNew.reports (h : s.PortsNew) (f : GroupId → Bool) : (s.reports f).PortsNew :=
  foldl_keeps (P := State.PortsNew) (fun _ g h => h.reportIf (f g) g) _ s h

theorem State.PortsNew.quiet (h : s.PortsNew) (q : s.Quiet t) : t.PortsNew := by
  have hp : ∀ p, t.port p = s.port p := fun p => by simp only [State.port, q.2]
  exact ⟨fun p => by rw [hp]; exact h.sound p, fun p => by rw [hp]; exact h.lasting p,
    fun p => by rw [State.noticed, hp]; exact h.restarted p, by rw [q.1]; exact h.cursors⟩

theorem State.reset_portsNew : State.reset.PortsNew where
  sound := State.reset_portsSound
  lasting := fun _ => rfl
  restarted := fun p => by cases p <;> exact ⟨by decide +kernel, by decide +kernel⟩
  cursors := rfl

theorem State.filled_based_quiet (t : Store) : State.reset.Quiet (State.filled t).based := by
  unfold State.based
  split <;> exact ⟨rfl, rfl⟩

/-- R178: the ports before the blocks start. -/
theorem State.corrected_portsNew (s : State) : s.volatileReset.loadGroups.correctBase.PortsNew := by
  rw [State.corrected_eq]
  exact ((State.reset_portsNew.quiet (State.filled_based_quiet _)).reports _).reportIf _ _

theorem State.PortsNew.line (h : s.PortsNew) (p : Port) : (s.port p).line = true := by
  have hl := h.lasting p
  have hm : (s.port p).masked = 0 := by rw [show (s.port p).masked = _ from congrArg PortLasting.masked hl]; cases p <;> rfl
  have hh : (s.port p).holdOff = false := by rw [show (s.port p).holdOff = _ from congrArg PortLasting.holdOff hl]; cases p <;> rfl
  rw [(h.sound p).line, PortState.lineWanted, hm, hh]
  have hb : (s.port p).pending.getLsbD 0 = true := (h.restarted p).1
  have : (s.port p).pending &&& ~~~(0 : BitVec 16) ≠ 0 := fun e => by
    have := congrArg (fun w : BitVec 16 => w.getLsbD 0) e
    simp at this
    simp [this] at hb
  simpa using this

/-! ### The whole start -/

/-- R177, R178: what a reset leaves. -/
theorem State.restart_eq (s : State) (cut : StoreCut) :
    s.restart cut = { (State.primed { s with store := s.store.after cut }).finish with pending := s.pending } := rfl

theorem State.primed_woken (s : State) : s.primed.Woken s.primed.finish := by
  unfold State.primed
  exact s.corrected_loaded.woken

theorem State.trigger_quiet (s : State) : s.Quiet s.trigger := ⟨rfl, rfl⟩

theorem State.primed_portsNew (s : State) : s.primed.finish.PortsNew := by
  have h : s.primed.PortsNew := by
    unfold State.primed
    exact (s.corrected_portsNew.quiet s.corrected_loaded.begun_quiet).quiet (State.trigger_quiet _)
  have hm : State.Moves true s.primed s.primed.finish := State.finish_moves _
  exact ⟨hm.portsSound h.sound, fun p => by rw [port_of_lasting s.primed.finish_lasting]; exact h.lasting p,
    fun p => hm.keepsNotices _ _ (h.restarted p), by rw [s.primed_woken.alarms]; exact h.cursors⟩

theorem fittedDevices_congr (h : ∀ d, t.deviceFitted d = s.deviceFitted d) : t.fittedDevices = s.fittedDevices := by
  simp only [State.fittedDevices, funext h]

theorem deviceFitted_of_lasting (h : t.lasting = s.lasting) (d : Device) : t.deviceFitted d = s.deviceFitted d := by
  cases d with
  | head k => simp only [State.deviceFitted, State.head, heads_of_lasting h]
  | drive n => simp only [State.deviceFitted, config_of_lasting h]
  | extract z => simp only [State.deviceFitted, State.zone, zones_of_lasting h]
  | makeUp z => simp only [State.deviceFitted, State.zone, zones_of_lasting h]

end Sys2Proof.Machine

/-! ## Resets: what they leave (R29, R36, R72, R74, R92, R97, R102, R111, R154, R177, R178) -/

namespace Sys2Proof.Machine

variable {s t u v c g : State} {z : ZoneId}

/-! ### Before the pass -/

theorem State.Loaded.begun_config (h : c.Loaded) (z : ZoneId) : (c.begun.zone z).config = (c.zone z).config := by
  rw [h.begun_zone]; rfl

/-- R97, R102, R109: the dampers of the start. -/
theorem State.Loaded.dampers (h : c.Loaded) (z : ZoneId) :
    c.begun.extractOf z =
      { command := 0, feedback := none, fault := false, state := .moving,
        timer := if (c.begun.zone z).config.fitted then some (c.begun.zone z).config.travelLimit else none } ∧
    c.begun.makeUpOf z =
      { command := .closed, openSwitch := none, closedSwitch := none, fault := false, state := .closing,
        timer := if (c.begun.zone z).config.fitted then some 60 else none } ∧
    c.begun.indications[z.val] = (if c.begun.role z = .gas then .normal else .activePending) := by
  rw [h.begun_config]
  exact ⟨h.begun_extractOf z, h.begun_makeUpOf z, h.begun_indication z⟩

/-- R111: the record of the start. -/
theorem State.Loaded.record (h : c.Loaded) : c.begun.alloc.record =
    { runSet := [], speed := 0, power := 0, required := 0, delivered := 0, flags := {}, held := false, smoke := false, cls := 1,
      zones := Vector.ofFn fun z => if (c.begun.zone z).config.fitted then some ⟨0, 0, 0, .closed⟩ else none } := by
  have h1 := congrArg Allocator.record h.begun_alloc
  simp only [h.begun_config]
  rw [h1, h.alloc]

/-- R154: the line of the start. -/
theorem State.Loaded.line_begun (h : c.Loaded) :
    let zones := (List.finRange 16).filter fun z => (c.begun.zone z).config.fitted
    c.begun.line = { pollList := c.begun.fittedDevices, position := c.begun.fittedDevices.head?, lastPolled := none,
                     queue := zones.map (fun z => .set z 0) ++ zones.map .close ++
                       ((List.finRange 8).filter fun n => (c.begun.fan n).config.fitted).map .offer,
                     row := 0, links := Vector.replicate 88 {}, inFlight := none } := by
  simp only [h.begun_config, h.begun_fan]
  exact h.begun_line

/-! ### After the pass -/

theorem State.Woken.zone (h : s.Woken t) (z : ZoneId) : t.zone z = s.zone z := by simp only [State.zone, zones_of_lasting h.lasting]
theorem State.Woken.head (h : s.Woken t) (k : HeadId) : t.head k = s.head k := by simp only [State.head, heads_of_lasting h.lasting]
theorem State.Woken.fan (h : s.Woken t) (n : FanId) : t.fan n = s.fan n := by simp only [State.fan, h.fans]
theorem State.Woken.plan (h : s.Woken t) : t.plan = s.plan := plan_of_lasting h.lasting
theorem State.Woken.resolver (h : s.Woken t) : t.resolver = s.resolver := resolver_of_lasting h.lasting

theorem State.Loaded.begun_newFans (h : c.Loaded) : c.begun.NewFans := fun n => by rw [h.begun_fan]; exact h.fans n

theorem State.Loaded.begun_duty_eq (h : c.Loaded) : c.begun.duty = (List.finRange 8).filter fun n => (c.begun.fan n).config.fitted := by
  simp only [h.begun_fan]
  rw [h.begun_duty, h.duty]

/-- R36, R37: no incident, and both plans in force at the base plan. -/
theorem State.Loaded.quietPlan (h : c.Loaded) : c.begun.plan.level = .none ∧ c.begun.plan.fireSet = 0 ∧ c.begun.plan.cause = none ∧
    c.begun.plan.purge = none ∧ c.begun.plan.current = c.begun.plan.base ∧ c.begun.plan.saved = c.begun.plan.base := by
  rw [h.begun_plan, h.plan]
  exact ⟨rfl, rfl, rfl, rfl, rfl, rfl⟩

/-- R60, R72: no control, no layer and no block. -/
theorem State.Loaded.uncontrolled (h : c.Loaded) : c.begun.resolver.control = .notInControl ∧
    (∀ z : ZoneId, c.begun.resolver.overrides[z.val] = none) ∧ ∀ n : FanId, c.begun.resolver.blocks[n.val] = false := by
  rw [h.begun_resolver, h.resolver]
  exact ⟨rfl, fun z => by simp [Resolver.reworked, State.reset], fun n => by simp [Resolver.reworked, State.reset]⟩

/-- R112, R116: the allocator of the start. -/
theorem State.Loaded.allocator (h : c.Loaded) : c.begun.alloc.supply = .mains ∧ c.begun.alloc.window = some 60 := by
  rw [h.begun_alloc, h.alloc]
  exact ⟨rfl, rfl⟩

/-- Settles O50: the start-up from the loaded groups (`State.Loaded`), its one pass at rest (`State.Woken`) and the ports that the
loads leave (`State.PortsNew`). -/
theorem resetLeavesTheVolatileValues : Obligations.ResetLeavesTheVolatileValues := by
  unfold Obligations.ResetLeavesTheVolatileValues
  intro cut s
  generalize hq : ({ s with store := s.store.after cut } : State) = q
  have hL : q.volatileReset.loadGroups.correctBase.Loaded := q.corrected_loaded
  have hN := q.primed_portsNew
  have hW := q.primed_woken
  have hr : s.restart cut = { q.primed.finish with pending := s.pending } := by rw [State.restart_eq, hq]
  unfold State.primed at hN hW hr
  generalize q.volatileReset.loadGroups.correctBase = c at hL hN hW hr
  have hz : ∀ z, c.begun.zone z = (c.zone z).config.firstRow := hL.begun_zone
  have hh : ∀ k, c.begun.head k = { config := (c.begun.head k).config } := fun k => by rw [hL.begun_head]; exact hL.heads k
  have hn := hL.begun_newFans
  have hS := hL.begun_rolesSound
  have hd := hL.dampers
  have hrec := hL.record
  have hline := hL.line_begun
  have hduty := hL.begun_duty_eq
  have hgrace := hL.begun_grace
  have hpath := hL.begun_pathProven
  have htime := hL.begun_partTime
  have hlink := hL.begun_link
  have hpoll := hL.begun_pollList
  obtain ⟨p1, p2, p3, p4, p5, p6⟩ := hL.quietPlan
  obtain ⟨r1, r2, r3⟩ := hL.uncontrolled
  obtain ⟨a1, a2⟩ := hL.allocator
  generalize c.begun = b at *
  have hdev : b.trigger.finish.fittedDevices = b.fittedDevices := fittedDevices_congr (deviceFitted_of_lasting hW.lasting)
  refine ⟨b.trigger, s.restart cut, rfl, rfl, hr, rfl, hd, hrec, hline, ?_⟩
  generalize b.trigger.finish = w at *
  have e1 : ∀ z, w.zone z = b.zone z := hW.zone
  have e2 : ∀ k, w.head k = b.head k := hW.head
  have e3 : ∀ n, w.fan n = b.fan n := hW.fan
  have e4 : w.plan = b.plan := hW.plan
  have e5 : w.resolver = b.resolver := hW.resolver
  have e6 : w.partTime = b.partTime := partTime_of_lasting hW.lasting
  have e7 : w.alloc.supply = b.alloc.supply ∧ w.alloc.window = b.alloc.window ∧ w.alloc.stageDown = none := by
    rw [hW.alloc]; exact ⟨rfl, rfl, rfl⟩
  have e8 : w.RolesSound := hS.congr e5 e4 fun z => by rw [e1]
  rw [hr]
  refine ⟨hW.runSet, rfl, e6.trans htime, fun z => ?_, fun k => (e2 k).trans ((hh k).trans (by rw [← e2 k]; rfl)),
    ?_, ?_, ?_, ?_, ?_, ?_, ?_, fun z => ?_, fun n => ?_, e8.congr rfl rfl fun _ => rfl, fun n => ?_, ?_, hW.grace.trans hgrace,
    hW.pathProven.trans hpath, e7.1.trans a1, e7.2.1.trans a2, e7.2.2, hN.cursors, fun d => (hW.links d).trans (hlink d), ?_,
    fun p => ⟨hN.restarted p, hN.line p, ?_⟩⟩
  · have : ({ w with pending := s.pending } : State).zone z = (c.zone z).config.firstRow := (e1 z).trans (hz z)
    rw [this]
    exact ⟨rfl, rfl, rfl, rfl, rfl, rfl, rfl, rfl⟩
  · show w.plan.level = _; rw [e4, p1]
  · show w.plan.fireSet = _; rw [e4, p2]
  · show w.plan.cause = _; rw [e4, p3]
  · show w.plan.purge = _; rw [e4, p4]
  · show w.plan.current = w.plan.base; rw [e4, p5]
  · show w.plan.saved = w.plan.base; rw [e4, p6]
  · show w.resolver.control = _; rw [e5, r1]
  · show w.resolver.overrides[z.val] = _; rw [e5, r2]
  · show w.resolver.blocks[n.val] = _; rw [e5, r3]
  · show w.fan n = { config := (w.fan n).config, state := if (w.fan n).config.fitted then .enrolling else .absent }
    rw [e3]; exact hn n
  · show w.duty = (List.finRange 8).filter fun n => (w.fan n).config.fitted
    simp only [e3]; rw [hW.duty]; exact hduty
  · show w.line.pollList = w.fittedDevices
    rw [hdev, hW.pollList]; exact hpoll
  · show (w.port p).lasting = _
    rw [hN.lasting p]
    cases p <;> rfl

end Sys2Proof.Machine

/-! ## Resets: what they load (R37, R112, R175 to R177) -/

namespace Sys2Proof.Machine

variable {s t u v c g : State} {z : ZoneId}

/-! ### What became of the store -/

/-- R175, R177: the groups found damaged. -/
def CutDamages (cut : StoreCut) (g : GroupId) : Prop :=
  match cut with
  | .clean => False
  | .damaged gs => g ∈ gs
  | .factoryClear k => g = k

/-- R176, R177: the groups that stand at their defaults after the start. -/
def CutClears (cut : StoreCut) (g : GroupId) : Prop :=
  match cut with
  | .clean => False
  | .damaged gs => g ∈ gs
  | .factoryClear k => g ≤ k

/-- R175, R177: one group as the part finds it when it starts. -/
def Sealed.after {α : Type} (image : α → List Word) (d : α) (g : GroupId) (x : Sealed α) : StoreCut → Sealed α
  | .clean => x
  | .damaged gs => if gs.contains g then x.spoiled image else x
  | .factoryClear k =>
    if [k].contains g then (if g.val < k.val then sealWith image d else x).spoiled image
    else if g.val < k.val then sealWith image d else x

/-- R176: a group that was sound fails its check exactly where it was damaged. -/
theorem Sealed.after_intact {α : Type} {image : α → List Word} {x : Sealed α} (d : α) (g : GroupId) (cut : StoreCut)
    (h : x.intact image = true) : (!(x.after image d g cut).intact image) = true ↔ CutDamages cut g := by
  have hs : ∀ y : Sealed α, (y.spoiled image).intact image = false := fun y => y.spoiled_intact image
  have hd : (sealWith image d).intact image = true := sealWith_intact image d
  cases cut with
  | clean => simp [Sealed.after, CutDamages, h]
  | damaged gs =>
    by_cases k : g ∈ gs
    · simp [Sealed.after, CutDamages, k, hs]
    · simp [Sealed.after, CutDamages, k, h]
  | factoryClear k =>
    by_cases e : g = k
    · simp [Sealed.after, CutDamages, e, hs]
    · by_cases l : g.val < k.val
      · simp [Sealed.after, CutDamages, e, l, hd]
      · simp [Sealed.after, CutDamages, e, l, h]

/-- R175 to R177: what a group that was sound loads. -/
theorem Sealed.after_mended {α : Type} {image : α → List Word} {x : Sealed α} (d : α) (g : GroupId) (cut : StoreCut)
    (h : x.intact image = true) :
    (CutClears cut g → ((x.after image d g cut).mended image d).contents = d) ∧
      (¬CutClears cut g → (x.after image d g cut).mended image d = x) := by
  have hs : ∀ y : Sealed α, (y.spoiled image).mended image d = sealWith image d := fun y =>
    Sealed.mended_of_not_intact d (y.spoiled_intact image)
  have hd : (sealWith image d).mended image d = sealWith image d := Sealed.mended_of_intact d (sealWith_intact image d)
  have hx : x.mended image d = x := Sealed.mended_of_intact d h
  have hc : (sealWith image d).contents = d := rfl
  cases cut with
  | clean => exact ⟨fun k => k.elim, fun _ => hx⟩
  | damaged gs =>
    by_cases k : g ∈ gs
    · simp [Sealed.after, CutClears, k, hs, hc]
    · simp [Sealed.after, CutClears, k, hx]
  | factoryClear k =>
    by_cases e : g = k
    · simp [Sealed.after, CutClears, e, hs, hc]
    · by_cases l : g.val < k.val
      · have : g ≤ k := Fin.le_def.2 (by omega)
        simp [Sealed.after, CutClears, e, l, hd, this, hc]
      · have : ¬g ≤ k := fun m => e (Fin.ext (by have := Fin.le_def.1 m; omega))
        simp [Sealed.after, CutClears, e, l, hx, this]

theorem Store.after_zones (t : Store) (cut : StoreCut) : (t.after cut).zones = t.zones.after zonesImage defaultZones 0 cut := by
  cases cut <;> rfl
theorem Store.after_heads (t : Store) (cut : StoreCut) : (t.after cut).heads = t.heads.after headsImage defaultHeads 1 cut := by
  cases cut <;> rfl
theorem Store.after_fans (t : Store) (cut : StoreCut) : (t.after cut).fans = t.fans.after fansImage defaultFans 2 cut := by
  cases cut <;> rfl
theorem Store.after_plans (t : Store) (cut : StoreCut) : (t.after cut).plans = t.plans.after plansImage defaultPlans 3 cut := by
  cases cut <;> rfl
theorem Store.after_budgets (t : Store) (cut : StoreCut) :
    (t.after cut).budgets = t.budgets.after budgetsImage defaultBudgets 4 cut := by
  cases cut <;> rfl
theorem Store.after_base (t : Store) (cut : StoreCut) : (t.after cut).base = t.base.after baseImage defaultBase 5 cut := by
  cases cut with
  | clean => rfl
  | damaged gs => rfl
  | factoryClear k =>
    have : ¬(5 : GroupId).val < k.val := by have := k.isLt; simp; omega
    simp only [Sealed.after, if_neg this]
    rfl

/-- R174: every group of a store passes its check. -/
structure Store.Intact (t : Store) : Prop where
  zones : t.zones.intact zonesImage = true
  heads : t.heads.intact headsImage = true
  fans : t.fans.intact fansImage = true
  plans : t.plans.intact plansImage = true
  budgets : t.budgets.intact budgetsImage = true
  base : t.base.intact baseImage = true

theorem State.StoreSound.intact (h : s.StoreSound) : s.store.Intact where
  zones := by rw [h.zones]; exact sealWith_intact _ _
  heads := by rw [h.heads]; exact sealWith_intact _ _
  fans := by rw [h.fans]; exact sealWith_intact _ _
  plans := by rw [h.plans]; exact sealWith_intact _ _
  budgets := by rw [h.budgets]; exact sealWith_intact _ _
  base := by rw [h.base]; exact sealWith_intact _ _

/-- R176: the groups that fail their check are the damaged ones. -/
theorem Store.Intact.fails {t : Store} (h : t.Intact) (cut : StoreCut) (g : GroupId) :
    (t.after cut).fails g = true ↔ CutDamages cut g := by
  match g with
  | 0 => simp only [Store.fails, Store.after_zones]; exact Sealed.after_intact _ 0 cut h.zones
  | 1 => simp only [Store.fails, Store.after_heads]; exact Sealed.after_intact _ 1 cut h.heads
  | 2 => simp only [Store.fails, Store.after_fans]; exact Sealed.after_intact _ 2 cut h.fans
  | 3 => simp only [Store.fails, Store.after_plans]; exact Sealed.after_intact _ 3 cut h.plans
  | 4 => simp only [Store.fails, Store.after_budgets]; exact Sealed.after_intact _ 4 cut h.budgets
  | 5 => simp only [Store.fails, Store.after_base]; exact Sealed.after_intact _ 5 cut h.base

/-! ### The reports -/

/-- R176: an ACTIVE STORE_FAULT entry stands for the groups of D and no other, among at most n entries. -/
structure State.Reported (s : State) (D : GroupId → Prop) (n : Nat) : Prop where
  length : s.alarms.entries.length ≤ n
  active : ∀ g, s.alarms.hasActive (.storeFault g) = true ↔ D g
  noticed : (∃ g, D g) → s.noticedByAll .storeFault

theorem AlarmList.raise_length (a : AlarmList) {k : AlarmKey} (hk : k.isFire = false) (d : Option FanDetail) (t : Nat) :
    (a.raise k d t).entries.length ≤ a.entries.length + 1 := by
  unfold AlarmList.raise
  split
  · simp [AlarmList.raiseInPlace, AlarmList.advance]
  · split
    · simp [AlarmList.append, AlarmList.advance]
    · rw [hk]; simp

/-- R176: a report of one more group. -/
theorem State.Reported.reportIf {D : GroupId → Prop} {n : Nat} (h : s.Reported D n) (hn : n < 32) (b : Bool) (g : GroupId) :
    (s.reportIf b g).Reported (fun j => D j ∨ (b = true ∧ j = g)) (n + 1) := by
  cases b with
  | false =>
    refine ⟨le_trans h.length (Nat.le_succ n), fun j => ?_, fun ⟨j, hj⟩ => h.noticed ⟨j, ?_⟩⟩
    · simp only [Bool.false_eq_true, false_and, or_false]; exact h.active j
    · simpa using hj
  | true =>
    have ha : (s.reportIf true g).alarms = s.alarms.raise (.storeFault g) none s.partTime := by rw [State.reportIf_eq]; rfl
    refine ⟨?_, fun j => ?_, fun _ => State.raiseAll_noticedByAll _ _⟩
    · rw [ha]
      exact le_trans (AlarmList.raise_length _ rfl _ _) (Nat.succ_le_succ h.length)
    · rw [ha]
      by_cases e : j = g
      · subst e
        obtain ⟨x, hx, hk, hs, _⟩ := AlarmList.raise_listed (a := s.alarms) (k := .storeFault j)
          (.inr (lt_of_le_of_lt h.length hn)) none s.partTime
        simp only [and_self, or_true, iff_true]
        exact AlarmList.hasActive_iff.2 ⟨x, hx, hk, hs⟩
      · rw [AlarmList.raise_hasActive_other (by simpa using e) (.inl rfl), h.active]
        simp [e]

theorem State.Reported.congr {D E : GroupId → Prop} {n : Nat} (h : s.Reported D n) (hD : ∀ g, D g ↔ E g) : s.Reported E n :=
  ⟨h.length, fun g => (h.active g).trans (hD g), fun ⟨g, k⟩ => h.noticed ⟨g, (hD g).2 k⟩⟩

/-- R176: the six groups in turn. -/
theorem State.Reported.reports (h : s.Reported (fun _ => False) 0) (f : GroupId → Bool) :
    (s.reports f).Reported (fun g => f g = true) 6 := by
  have h6 := ((((((h.reportIf (by decide) (f 0) 0).reportIf (by decide) (f 1) 1).reportIf (by decide) (f 2) 2).reportIf
    (by decide) (f 3) 3).reportIf (by decide) (f 4) 4).reportIf (by decide) (f 5) 5)
  refine State.Reported.congr (s := s.reports f) h6 fun g => ?_
  match g with
  | 0 => simp
  | 1 => simp
  | 2 => simp
  | 3 => simp
  | 4 => simp
  | 5 => simp

theorem State.reset_reported : State.reset.Reported (fun _ => False) 0 :=
  ⟨le_refl _, fun g => by simp [AlarmList.hasActive, State.reset], fun ⟨_, h⟩ => h.elim⟩
theorem State.Reported.quiet {D : GroupId → Prop} {n : Nat} (h : s.Reported D n) (q : s.Quiet t) : t.Reported D n :=
  ⟨by rw [q.1]; exact h.length, by rw [q.1]; exact h.active, fun e p => by
    have := h.noticed e p
    simpa only [State.noticed, State.port, q.2] using this⟩

/-! ### The base plan (R37) -/

/-- R37: the lowest NORMAL bank, where there is one. -/
theorem State.lowestNormal_spec (h : ∃ k, (s.bank k).kind = .normal) : (s.bank s.lowestNormal).kind = .normal ∧
    ∀ k, k < s.lowestNormal → (s.bank k).kind = .smoke := by
  unfold State.lowestNormal
  cases hf : (List.finRange 8).find? fun p => (s.bank p).kind == .normal with
  | none =>
    obtain ⟨k, hk⟩ := h
    have := List.find?_eq_none.1 hf k (List.mem_finRange k)
    simp [hk] at this
  | some p =>
    obtain ⟨hp, as, bs, hl, ha⟩ := List.find?_eq_some_iff_append.1 hf
    refine ⟨by simpa using hp, fun k hk => ?_⟩
    have hk : k < p := hk
    have hm : k ∈ as ++ p :: bs := hl ▸ List.mem_finRange k
    have hs : (as ++ p :: bs).Pairwise (· < ·) := hl ▸ List.pairwise_lt_finRange 8
    rcases List.mem_append.1 hm with hm | hm
    · have := ha k hm
      cases hkind : (s.bank k).kind
      · simp [hkind] at this
      · rfl
    · rcases List.mem_cons.1 hm with rfl | hm
      · exact absurd hk (lt_irrefl _)
      · have := (List.pairwise_cons.1 (List.pairwise_append.1 hs).2.1).1 k hm
        exact absurd hk (not_lt.2 (le_of_lt this))

theorem State.based_bank (c : State) (k : PlanId) : c.based.bank k = c.bank k := by
  unfold State.based; split <;> rfl

/-- R37: the base plan that the start corrects. -/
theorem State.based_base (c : State) (h : ∃ k, (c.bank k).kind = .normal) :
    ((c.bank c.plan.base).kind = .normal → c.based.plan.base = c.plan.base) ∧
    ((c.bank c.plan.base).kind = .smoke → (c.bank c.based.plan.base).kind = .normal ∧
      ∀ k, k < c.based.plan.base → (c.bank k).kind = .smoke) := by
  unfold State.based
  refine ⟨fun hk => by rw [if_neg (by rw [hk]; decide)], fun hk => ?_⟩
  rw [if_pos hk]
  exact State.lowestNormal_spec h

/-! ### The store and the blocks (R174) -/

/-- R174: what the laws of the store speak of. -/
theorem State.StoreSound.congr (h : s.StoreSound) (hs : t.store = s.store) (hz : ∀ z, (t.zone z).config = (s.zone z).config)
    (hh : ∀ k, (t.head k).config = (s.head k).config) (hf : ∀ n, (t.fan n).config = (s.fan n).config)
    (hp : t.plan.banks = s.plan.banks ∧ t.plan.map = s.plan.map ∧ t.plan.base = s.plan.base)
    (ha : t.alloc.normal = s.alloc.normal ∧ t.alloc.standby = s.alloc.standby)
    (hc : t.resolver.closures = s.resolver.closures) : t.StoreSound := by
  have h1 : t.zones.map Zone.config = s.zones.map Zone.config := Vector.ext fun i hi => by
    simpa [State.zone] using hz ⟨i, hi⟩
  have h2 : t.heads.map Head.config = s.heads.map Head.config := Vector.ext fun i hi => by
    simpa [State.head] using hh ⟨i, hi⟩
  have h3 : t.fans.map Fan.config = s.fans.map Fan.config := Vector.ext fun i hi => by
    simpa [State.fan] using hf ⟨i, hi⟩
  obtain ⟨k1, k2, k3, k4, k5, k6⟩ := h
  exact ⟨by rw [hs, h1, k1], by rw [hs, h2, k2], by rw [hs, h3, k3], by rw [hs, hp.1, hp.2.1, k4], by rw [hs, ha.1, ha.2, k5],
    by rw [hs, hp.2.2, hc, k6]⟩

theorem State.filled_storeSound (t : Store) : (State.filled t).StoreSound where
  zones := by
    have : (State.filled t).zones.map Zone.config = t.mended.zones.contents := Vector.ext fun i hi => by simp [State.filled]
    rw [this]; exact Sealed.mended_eq _ _ _
  heads := by
    have : (State.filled t).heads.map Head.config = t.mended.heads.contents := Vector.ext fun i hi => by simp [State.filled]
    rw [this]; exact Sealed.mended_eq _ _ _
  fans := by
    have : (State.filled t).fans.map Fan.config = t.mended.fans.contents := Vector.ext fun i hi => by simp [State.filled]
    rw [this]; exact Sealed.mended_eq _ _ _
  plans := Sealed.mended_eq _ _ _
  budgets := Sealed.mended_eq _ _ _
  base := Sealed.mended_eq _ _ _

theorem State.StoreSound.based (h : s.StoreSound) : s.based.StoreSound := by
  unfold State.based
  split
  · obtain ⟨k1, k2, k3, k4, k5, k6⟩ := h
    refine ⟨k1, k2, k3, k4, k5, ?_⟩
    show sealWith baseImage { s.store.base.contents with base := s.lowestNormal } = _
    rw [k6]; rfl
  · exact h

/-- R177, R178: what a start leaves of the configuration it has loaded. -/
structure State.Keeps (c t : State) : Prop where
  store : t.store = c.store
  zone : ∀ z, (t.zone z).config = (c.zone z).config
  head : ∀ k, (t.head k).config = (c.head k).config
  fan : ∀ n, (t.fan n).config = (c.fan n).config
  plan : t.plan.banks = c.plan.banks ∧ t.plan.map = c.plan.map ∧ t.plan.base = c.plan.base
  budgets : t.alloc.normal = c.alloc.normal ∧ t.alloc.standby = c.alloc.standby
  closures : t.resolver.closures = c.resolver.closures

theorem State.Keeps.trans (h : c.Keeps s) (k : s.Keeps t) : c.Keeps t :=
  ⟨k.store.trans h.store, fun z => (k.zone z).trans (h.zone z), fun j => (k.head j).trans (h.head j),
    fun n => (k.fan n).trans (h.fan n), ⟨k.plan.1.trans h.plan.1, k.plan.2.1.trans h.plan.2.1, k.plan.2.2.trans h.plan.2.2⟩,
    ⟨k.budgets.1.trans h.budgets.1, k.budgets.2.trans h.budgets.2⟩, k.closures.trans h.closures⟩
theorem State.Keeps.storeSound (h : c.Keeps t) (k : c.StoreSound) : t.StoreSound :=
  k.congr h.store h.zone h.head h.fan h.plan h.budgets h.closures
theorem State.Keeps.bank (h : c.Keeps t) (k : PlanId) : t.bank k = c.bank k := by simp only [State.bank, h.plan.1]

theorem State.Told.keeps (h : c.Told t) : c.Keeps t := by
  rw [h]; exact ⟨rfl, fun _ => rfl, fun _ => rfl, fun _ => rfl, ⟨rfl, rfl, rfl⟩, ⟨rfl, rfl⟩, rfl⟩

theorem State.Loaded.begun_keeps (h : c.Loaded) : c.Keeps c.begun where
  store := h.begun_store
  zone := h.begun_config
  head := fun k => by rw [h.begun_head]
  fan := fun n => by rw [h.begun_fan]
  plan := by rw [h.begun_plan]; exact ⟨rfl, rfl, rfl⟩
  budgets := by rw [h.begun_alloc]; exact ⟨rfl, rfl⟩
  closures := by
    have hr := h.begun_resolver
    generalize c.begun.resolver = r at hr ⊢
    rw [hr]; rfl

theorem State.Woken.keeps (h : s.Woken t) : s.Keeps t where
  store := store_of_lasting h.lasting
  zone := fun z => by rw [h.zone]
  head := fun k => by rw [h.head]
  fan := fun n => by rw [h.fan]
  plan := by rw [h.plan]; exact ⟨rfl, rfl, rfl⟩
  budgets := by rw [h.alloc]; exact ⟨rfl, rfl⟩
  closures := by rw [h.resolver]

/-! ### The whole load -/

/-- R176: the base plan that the groups of a store load, before R37 corrects it. -/
def Store.loadedBase (t : Store) : PlanId := t.mended.base.contents.base

/-- R37, R176 to R178: what a start leaves of a store in which a NORMAL bank stands. -/
theorem State.primed_keeps (s : State) : (State.filled s.store).based.Keeps s.primed.finish := by
  have h : s.volatileReset.loadGroups.correctBase.Loaded := s.corrected_loaded
  have h1 : (State.filled s.store).based.Keeps s.volatileReset.loadGroups.correctBase := by
    rw [State.corrected_eq]
    exact ((State.reports_told _ _).trans (State.reportIf_told _ _ _)).keeps
  unfold State.primed
  have h2 : ∀ q : State, q.Keeps q.trigger := fun q => ⟨rfl, fun _ => rfl, fun _ => rfl, fun _ => rfl, ⟨rfl, rfl, rfl⟩, ⟨rfl, rfl⟩, rfl⟩
  exact ((h1.trans h.begun_keeps).trans (h2 _)).trans h.woken.keeps

/-- R37, R176: the groups reported by a start. -/
theorem State.primed_reported (s : State) : s.primed.finish.Reported (fun g => s.store.fails g = true ∨
    (((State.filled s.store).bank s.store.loadedBase).kind = .smoke ∧ g = 5)) 7 := by
  have h : s.volatileReset.loadGroups.correctBase.Loaded := s.corrected_loaded
  have h1 : s.volatileReset.loadGroups.correctBase.Reported (fun g => s.store.fails g = true ∨
      (((State.filled s.store).bank s.store.loadedBase).kind = .smoke ∧ g = 5)) 7 := by
    rw [State.corrected_eq]
    refine (((State.reset_reported.quiet (State.filled_based_quiet _)).reports _).reportIf (by decide) _ 5).congr fun g => ?_
    rw [beq_iff_eq]; exact Iff.rfl
  have h2 := (h1.quiet h.begun_quiet).quiet (State.trigger_quiet _)
  have hw := s.primed_woken
  have hm : State.Moves true s.primed s.primed.finish := State.finish_moves _
  unfold State.primed at hw hm ⊢
  refine ⟨by rw [hw.alarms]; exact h2.length, by rw [hw.alarms]; exact h2.active, fun e p => ?_⟩
  exact hm.keepsNotices _ _ (h2.noticed e p)

/-- R176: with every group intact and a NORMAL base plan nothing is reported. -/
theorem State.primed_alarms (s : State) (hf : ∀ g, s.store.fails g = false)
    (hb : ((State.filled s.store).bank s.store.loadedBase).kind = .normal) : s.primed.finish.alarms = {} := by
  have h : s.volatileReset.loadGroups.correctBase.Loaded := s.corrected_loaded
  have hr : ∀ q : State, q.reports s.store.fails = q := fun q =>
    foldl_fixed (fun g => by rw [hf g]; rfl) _
  have hk : ((State.filled s.store).bank (State.filled s.store).plan.base).kind = .normal := hb
  have h1 : s.volatileReset.loadGroups.correctBase = (State.filled s.store).based := by
    rw [State.corrected_eq, hr, hk]; rfl
  have h2 : State.reset.Quiet s.volatileReset.loadGroups.correctBase := by rw [h1]; exact State.filled_based_quiet _
  have hw := s.primed_woken
  unfold State.primed at hw ⊢
  rw [hw.alarms, State.trigger_alarms, h.begun_quiet.1, h2.1]
  rfl

/-- R31, R38: of the default plans bank 0 is NORMAL. -/
theorem defaultPlans_normal : (defaultPlans.banks[(0 : PlanId).val]).kind = .normal := by decide +kernel

theorem State.filled_bank (t : Store) (k : PlanId) : (State.filled t).bank k = t.mended.plans.contents.banks[k.val] := rfl

theorem State.filled_based (t : Store) :
    (∀ z, ((State.filled t).based.zone z).config = t.mended.zones.contents[z.val]) ∧
    (∀ k, ((State.filled t).based.head k).config = t.mended.heads.contents[k.val]) ∧
    (∀ n, ((State.filled t).based.fan n).config = t.mended.fans.contents[n.val]) ∧
    (State.filled t).based.plan.banks = t.mended.plans.contents.banks ∧
    (State.filled t).based.plan.map = t.mended.plans.contents.map ∧
    (State.filled t).based.alloc.normal = t.mended.budgets.contents.normal ∧
    (State.filled t).based.alloc.standby = t.mended.budgets.contents.standby ∧
    (State.filled t).based.resolver.closures = t.mended.base.contents.closures := by
  have hz : ∀ z, ((State.filled t).zone z).config = t.mended.zones.contents[z.val] := fun z => by simp [State.zone, State.filled]
  have hk : ∀ k, ((State.filled t).head k).config = t.mended.heads.contents[k.val] := fun k => by simp [State.head, State.filled]
  have hn : ∀ n, ((State.filled t).fan n).config = t.mended.fans.contents[n.val] := fun n => by simp [State.fan, State.filled]
  unfold State.based
  split <;> exact ⟨hz, hk, hn, rfl, rfl, rfl, rfl, rfl⟩

/-- R175 to R177: what the six groups of a sound store hold once they have been loaded. -/
theorem State.StoreSound.mended (h : s.StoreSound) (cut : StoreCut) :
    (∀ z : ZoneId, (CutClears cut 0 → (s.store.after cut).mended.zones.contents[z.val] = {}) ∧
      (¬CutClears cut 0 → (s.store.after cut).mended.zones.contents[z.val] = (s.zone z).config)) ∧
    (∀ k : HeadId, (CutClears cut 1 → (s.store.after cut).mended.heads.contents[k.val] = defaultHead k) ∧
      (¬CutClears cut 1 → (s.store.after cut).mended.heads.contents[k.val] = (s.head k).config)) ∧
    (∀ n : FanId, (CutClears cut 2 → (s.store.after cut).mended.fans.contents[n.val] = {}) ∧
      (¬CutClears cut 2 → (s.store.after cut).mended.fans.contents[n.val] = (s.fan n).config)) ∧
    (CutClears cut 3 → (s.store.after cut).mended.plans.contents = defaultPlans) ∧
    (¬CutClears cut 3 → (s.store.after cut).mended.plans.contents = ⟨s.plan.banks, s.plan.map⟩) ∧
    (CutClears cut 4 → (s.store.after cut).mended.budgets.contents = defaultBudgets) ∧
    (¬CutClears cut 4 → (s.store.after cut).mended.budgets.contents = ⟨s.alloc.normal, s.alloc.standby⟩) ∧
    (CutClears cut 5 → (s.store.after cut).mended.base.contents = defaultBase) ∧
    (¬CutClears cut 5 → (s.store.after cut).mended.base.contents = ⟨s.plan.base, s.resolver.closures⟩) := by
  have hi := h.intact
  obtain ⟨z1, z2⟩ : (CutClears cut 0 → (s.store.after cut).mended.zones.contents = defaultZones) ∧
      (¬CutClears cut 0 → (s.store.after cut).mended.zones = s.store.zones) := by
    rw [Store.mended, Store.after_zones]; exact Sealed.after_mended defaultZones 0 cut hi.zones
  obtain ⟨k1, k2⟩ : (CutClears cut 1 → (s.store.after cut).mended.heads.contents = defaultHeads) ∧
      (¬CutClears cut 1 → (s.store.after cut).mended.heads = s.store.heads) := by
    rw [Store.mended, Store.after_heads]; exact Sealed.after_mended defaultHeads 1 cut hi.heads
  obtain ⟨n1, n2⟩ : (CutClears cut 2 → (s.store.after cut).mended.fans.contents = defaultFans) ∧
      (¬CutClears cut 2 → (s.store.after cut).mended.fans = s.store.fans) := by
    rw [Store.mended, Store.after_fans]; exact Sealed.after_mended defaultFans 2 cut hi.fans
  obtain ⟨p1, p2⟩ : (CutClears cut 3 → (s.store.after cut).mended.plans.contents = defaultPlans) ∧
      (¬CutClears cut 3 → (s.store.after cut).mended.plans = s.store.plans) := by
    rw [Store.mended, Store.after_plans]; exact Sealed.after_mended defaultPlans 3 cut hi.plans
  obtain ⟨b1, b2⟩ : (CutClears cut 4 → (s.store.after cut).mended.budgets.contents = defaultBudgets) ∧
      (¬CutClears cut 4 → (s.store.after cut).mended.budgets = s.store.budgets) := by
    rw [Store.mended, Store.after_budgets]; exact Sealed.after_mended defaultBudgets 4 cut hi.budgets
  obtain ⟨d1, d2⟩ : (CutClears cut 5 → (s.store.after cut).mended.base.contents = defaultBase) ∧
      (¬CutClears cut 5 → (s.store.after cut).mended.base = s.store.base) := by
    rw [Store.mended, Store.after_base]; exact Sealed.after_mended defaultBase 5 cut hi.base
  refine ⟨fun z => ⟨fun k => ?_, fun k => ?_⟩, fun j => ⟨fun k => ?_, fun k => ?_⟩, fun n => ⟨fun k => ?_, fun k => ?_⟩,
    p1, fun k => ?_, b1, fun k => ?_, d1, fun k => ?_⟩
  · rw [z1 k]; simp [defaultZones]
  · rw [z2 k, h.zones]; simp [sealWith, State.zone]
  · rw [k1 k]; simp [defaultHeads]
  · rw [k2 k, h.heads]; simp [sealWith, State.head]
  · rw [n1 k]; simp [defaultFans]
  · rw [n2 k, h.fans]; simp [sealWith, State.fan]
  · rw [p2 k, h.plans]; rfl
  · rw [b2 k, h.budgets]; rfl
  · rw [d2 k, h.base]; rfl

/-- R38: a NORMAL bank stands in the plans that load. -/
theorem State.IncidentSound.loads_normal (hI : s.IncidentSound) (hS : s.StoreSound) (cut : StoreCut) :
    ∃ k, ((State.filled (s.store.after cut)).bank k).kind = .normal := by
  obtain ⟨-, -, -, p1, p2, -⟩ := hS.mended cut
  by_cases h : CutClears cut 3
  · exact ⟨0, by rw [State.filled_bank, p1 h]; exact defaultPlans_normal⟩
  · exact ⟨s.plan.saved, by rw [State.filled_bank, p2 h]; exact hI.normal⟩

/-- The model's queue of commands is no part of what a start keeps. -/
theorem State.Keeps.withPending (h : c.Keeps t) (l : List Instr) : c.Keeps { t with pending := l } :=
  ⟨h.store, h.zone, h.head, h.fan, h.plan, h.budgets, h.closures⟩

theorem Store.Intact.mended {t : Store} (h : t.Intact) : t.mended = t := by
  simp only [Store.mended, Sealed.mended_of_intact _ h.zones, Sealed.mended_of_intact _ h.heads, Sealed.mended_of_intact _ h.fans,
    Sealed.mended_of_intact _ h.plans, Sealed.mended_of_intact _ h.budgets, Sealed.mended_of_intact _ h.base]

/-- R175 to R177: a clean reset of a sound part keeps its store and loads it, with an empty alarm list. -/
theorem State.StoreSound.clean (hS : s.StoreSound) (hI : s.IncidentSound) :
    (s.restart .clean).store = s.store ∧ (s.restart .clean).alarms = {} ∧ s.Keeps (s.restart .clean) := by
  have hi := hS.intact
  have hK := (State.primed_keeps { s with store := s.store.after .clean }).withPending s.pending
  have hA := State.primed_alarms { s with store := s.store.after .clean } fun g => by
    have := (hi.fails .clean g).not.2 id
    simpa using this
  rw [← s.restart_eq .clean] at hK
  have hm : (s.store.after .clean).mended = s.store := hi.mended
  obtain ⟨f1, f2, f3, f4, f5, f6, f7, f8⟩ := State.filled_based (s.store.after .clean)
  rw [hm] at f1 f2 f3 f4 f5 f6 f7 f8
  have hl : (s.store.after .clean).loadedBase = s.plan.base := by rw [Store.loadedBase, hm, hS.base]; rfl
  have hn : ((State.filled (s.store.after .clean)).bank (s.store.after .clean).loadedBase).kind = .normal := by
    rw [State.filled_bank, hl, hm, hS.plans, ← hI.saved]; exact hI.normal
  have hb : (State.filled (s.store.after .clean)).based = State.filled (s.store.after .clean) :=
    if_neg fun e => absurd (hn.symm.trans e) (by decide)
  have hs : (State.filled (s.store.after .clean)).based.store = s.store := by rw [hb]; exact hm
  have hp : (State.filled (s.store.after .clean)).based.plan.base = s.plan.base := by rw [hb]; exact hl
  refine ⟨hK.store.trans hs, ?_, State.Keeps.trans ?_ hK⟩
  · have hA := hA hn
    rw [State.restart_eq]
    generalize State.finish (State.primed { s with store := s.store.after .clean }) = w at hA ⊢
    exact hA
  · refine ⟨hs, fun z => ?_, fun k => ?_, fun n => ?_, ⟨?_, ?_, hp⟩, ⟨?_, ?_⟩, ?_⟩
    · rw [f1, hS.zones]; simp [sealWith, State.zone]
    · rw [f2, hS.heads]; simp [sealWith, State.head]
    · rw [f3, hS.fans]; simp [sealWith, State.fan]
    · rw [f4, hS.plans]; rfl
    · rw [f5, hS.plans]; rfl
    · rw [f6, hS.budgets]; rfl
    · rw [f7, hS.budgets]; rfl
    · rw [f8, hS.base]; rfl

/-- Settles O51: what each group loads (`State.StoreSound.mended`), what the start keeps of it (`State.primed_keeps`), and what is
reported (`State.primed_reported`). -/
theorem resetLoadsTheStore : Obligations.ResetLoadsTheStore := by
  unfold Obligations.ResetLoadsTheStore
  intro s hS hI
  refine ⟨?_, fun cut => ?_⟩
  · obtain ⟨h1, h2, hK⟩ := hS.clean hI
    exact ⟨s.restart .clean, rfl, h1, by rw [h2], by rw [h2], hK.zone, hK.head, hK.fan, hK.plan.1, hK.plan.2.1,
      hK.plan.2.2, hK.closures, hK.budgets.1, hK.budgets.2⟩
  · have hK := (State.primed_keeps { s with store := s.store.after cut }).withPending s.pending
    have hR := State.primed_reported { s with store := s.store.after cut }
    have hN := hI.loads_normal hS cut
    obtain ⟨f1, f2, f3, f4, f5, f6, f7, f8⟩ := State.filled_based (s.store.after cut)
    obtain ⟨m1, m2, m3, p1, p2, b1, b2, d1, d2⟩ := hS.mended cut
    obtain ⟨k1, k2⟩ := State.based_base _ hN
    have hr := s.restart_eq cut
    have hSound := hK.storeSound (State.filled_storeSound _).based
    have hbank := fun k => (hK.bank k).trans (State.based_bank _ k)
    have hfail := hS.intact.fails cut
    simp only at hR
    rw [← hr] at hK hSound hbank
    have hR : (s.restart cut).Reported (fun g => (s.store.after cut).fails g = true ∨
        ((State.filled (s.store.after cut)).bank (s.store.after cut).loadedBase).kind = .smoke ∧ g = 5) 7 := by
      rw [hr]
      generalize State.finish (State.primed { s with store := s.store.after cut }) = w at hR ⊢
      exact ⟨hR.length, hR.active, hR.noticed⟩
    have he : exec (.powerOn cut) s = .next (s.restart cut) := rfl
    generalize s.restart cut = t at hK hSound hbank hR he
    have hloaded : (State.filled (s.store.after cut)).plan.base = (s.store.after cut).loadedBase := rfl
    generalize State.filled (s.store.after cut) = c at hloaded hbank f1 f2 f3 f4 f5 f6 f7 f8 k1 k2 hK hR
    refine ⟨t, (s.store.after cut).loadedBase, he, hSound, fun z => ?_, fun k => ?_, fun n => ?_, fun h => ?_, fun h => ?_,
      fun h => ?_, fun h => ?_, fun h => ?_, fun h => ?_, fun h => ?_, fun h => ?_, fun g => ?_⟩
    · rw [hK.zone, f1]; exact m1 z
    · rw [hK.head, f2]; exact m2 k
    · rw [hK.fan, f3]; exact m3 n
    · rw [hK.plan.1, hK.plan.2.1, f4, f5, p1 h]; exact ⟨rfl, rfl⟩
    · rw [hK.plan.1, hK.plan.2.1, f4, f5, p2 h]; exact ⟨rfl, rfl⟩
    · rw [hK.budgets.1, hK.budgets.2, f6, f7, b1 h]; exact ⟨rfl, rfl⟩
    · rw [hK.budgets.1, hK.budgets.2, f6, f7, b2 h]; exact ⟨rfl, rfl⟩
    · rw [hK.closures, f8, Store.loadedBase, d1 h]; exact ⟨rfl, rfl⟩
    · rw [hK.closures, f8, Store.loadedBase, d2 h]; exact ⟨rfl, rfl⟩
    · simp only [hbank] at h; rw [hK.plan.2.2, k1 (by rw [hloaded]; exact h), hloaded]
    · simp only [hbank] at h ⊢; rw [hK.plan.2.2]; exact k2 (by rw [hloaded]; exact h)
    · simp only [hbank]
      exact ⟨(hR.active g).trans (or_congr (hfail g) and_comm), fun hg => hR.noticed ⟨g, (hR.active g).mp hg⟩⟩

end Sys2Proof.Machine

/-! ## Zones and ports under the owners' work (R16 to R20, R159, R164) -/

namespace Sys2Proof.Machine

/-- R5, R9, R16 to R20, R159, R164: the rows of the zone evaluator and the station ports are sound. -/
def State.ZonesAndPorts (s : State) : Prop := s.ZonesSound ∧ s.PortsSound

section
variable {s t u : State} {p : Port} {n : FanId} {z : ZoneId}

/-! ### The ports -/

theorem State.PortsSound.of_ports (h : s.PortsSound) (e : t.ports = s.ports) : t.PortsSound := fun p => by
  simpa only [State.port, e] using h p

theorem State.PortsSound.modPort (h : s.PortsSound) {f : PortState → PortState}
    (hf : (s.port p).Sound → (f (s.port p)).Sound) : (s.modPort p f).PortsSound := fun q => by
  by_cases e : q = p
  · subst e; rw [State.modPort_port_self]; exact hf (h q)
  · rw [State.modPort_port_other _ _ e]; exact h q

theorem State.PortsSound.quiet (h : s.PortsSound) (q : s.Quiet t) : t.PortsSound := h.of_ports q.2

/-- R76: the fitting of a fan reaches no port. -/
theorem State.fitFan_ports (s : State) (n : FanId) : (s.fitFan n).ports = s.ports := by
  have hd : ∀ w : State, State.ports (State.trigger { w with duty := w.duty ++ [n] }) = w.ports := fun _ => rfl
  exact (hd _).trans (State.enterEnrolling_quiet _ n).2
theorem State.unfitFan_ports (s : State) (n : FanId) : (s.unfitFan n).ports = s.ports := by
  have hd : ∀ w : State, State.ports (State.trigger (State.rebuildPolls (State.unfitDevice
      { w with duty := w.duty.filter (· != n) } (.drive n)))) = w.ports := fun _ => rfl
  exact (hd _).trans (State.enterState_quiet _ n _ _).2
theorem State.refitFan_ports (s : State) (n : FanId) (old new : Bool) : (s.refitFan n old new).ports = s.ports := by
  unfold State.refitFan
  split
  · rfl
  · split
    · exact s.fitFan_ports n
    · exact s.unfitFan_ports n

theorem State.ratingsChanged_ports (s : State) (n : FanId) (old new : FanConfig) :
    (s.ratingsChanged n old new).ports = s.ports := by
  unfold State.ratingsChanged; split <;> rfl

/-- R98: the table of an extract damper's reply, for a zone fitted or not. -/
theorem State.PortsSound.judgeExtract (h : s.PortsSound) (z : ZoneId) : (s.judgeExtract z).PortsSound := by
  have hf := (State.faultExtract_moves (w := true) s z).portsSound h
  have hs := (State.settleExtract_moves (w := true) s z).portsSound h
  have hd := h.quiet (s.driveExtract_quiet z)
  unfold State.judgeExtract
  simp only
  split
  · exact hd
  · split
    · exact hf
    · split
      · exact hs
      · exact h
  · split
    · exact hf
    · split
      · exact h
      · exact hd
  · split
    · exact h
    · split
      · exact hs
      · exact h

/-- R103: the cases of a make-up damper's reply, for a zone fitted or not. -/
theorem State.PortsSound.judgeMakeUp (h : s.PortsSound) (z : ZoneId) : (s.judgeMakeUp z).PortsSound := by
  have hd := h.quiet (s.driveMakeUp_quiet z)
  unfold State.judgeMakeUp
  simp only
  split
  · exact hd
  · split
    · split
      · exact h
      · exact (State.faultMakeUp_moves (w := true) s z).portsSound h
    · split
      · exact (State.settleMakeUp_moves (w := true) s z).portsSound h
      · unfold State.straysMakeUp
        split
        · exact hd
        · exact hd
        · exact h
        · exact h
        · exact h
        · exact h

/-! ### Work that leaves the rows -/

theorem State.ZonesAndPorts.aside (h : s.ZonesAndPorts) (k : s.SameRows t) (hp : s.PortsSound → t.PortsSound) : t.ZonesAndPorts :=
  ⟨h.1.sameRows k, hp h.2⟩
theorem State.ZonesAndPorts.kept (h : s.ZonesAndPorts) (hl : t.lasting = s.lasting) (hp : s.PortsSound → t.PortsSound) :
    t.ZonesAndPorts := h.aside (.of_lasting hl) hp

theorem State.ZonesAndPorts.finish (h : s.ZonesAndPorts) : s.finish.ZonesAndPorts :=
  h.kept s.finish_lasting (State.finish_moves (w := true) s).portsSound
theorem State.ZonesAndPorts.finishExpiry (h : s.ZonesAndPorts) : s.finishExpiry.ZonesAndPorts :=
  h.kept s.finishExpiry_lasting (State.finishExpiry_moves (w := true) s).portsSound
theorem State.ZonesAndPorts.modPort (h : s.ZonesAndPorts) {f : PortState → PortState}
    (hf : (s.port p).Sound → (f (s.port p)).Sound) : (s.modPort p f).ZonesAndPorts :=
  h.aside ⟨rfl, rfl, rfl⟩ fun k => k.modPort hf
theorem State.ZonesAndPorts.withAlarms (h : s.ZonesAndPorts) (a : AlarmList) : State.ZonesAndPorts { s with alarms := a } :=
  h.aside ⟨rfl, rfl, rfl⟩ fun k => k.of_ports rfl
theorem State.ZonesAndPorts.withPending (h : s.ZonesAndPorts) (l : List Instr) : State.ZonesAndPorts { s with pending := l } :=
  h.aside ⟨rfl, rfl, rfl⟩ fun k => k.of_ports rfl
theorem State.ZonesAndPorts.modLine (h : s.ZonesAndPorts) (f : FieldLine → FieldLine) : (s.modLine f).ZonesAndPorts :=
  h.aside (s.modLine_sameRows f) fun k => k.of_ports rfl

theorem State.fanWritten_ports (h : s.PortsSound) (n : FanId) (c : FanConfig) : (s.fanWritten n c).PortsSound := by
  have h1 : (s.commitFan n c).PortsSound := h.of_ports rfl
  have h2 := (State.configChanged_moves (s.commitFan n c) .building).portsSound h1
  exact h2.of_ports ((State.refitFan_ports _ _ _ _).trans (State.ratingsChanged_ports _ _ _ _))
theorem State.serviceSet_ports (h : s.PortsSound) (n : FanId) (v : Service) : (s.serviceSet n v).PortsSound := by
  have h1 : (s.commitFan n { (s.fan n).config with service := v }).PortsSound := h.of_ports rfl
  exact ((State.configChanged_moves _ .building).trans (State.triggerIf_moves _ _)).portsSound h1

/-! ### The taking of a frame and the response -/

theorem State.ZonesAndPorts.frameTaken (h : s.ZonesAndPorts) (p : Port) : (s.frameTaken p).ZonesAndPorts :=
  h.aside ⟨by simp, by simp, by simp⟩ (s.frameTaken_moves p).portsSound
theorem State.ZonesAndPorts.respond {a : Answer} (h : a.state.ZonesAndPorts) (p : Port) (code index : Byte) :
    (respond p code index a).ZonesAndPorts := h.modPort fun k => ⟨k.silence, k.line⟩
theorem State.ZonesAndPorts.discardFrame (h : s.ZonesAndPorts) (p : Port) : (s.discardFrame p).ZonesAndPorts :=
  h.modPort fun k => ⟨k.silence, k.line⟩

/-- R157: a request keeps the rows and the ports where its owner's work does. -/
theorem State.ZonesAndPorts.serve {row : CatalogueRow} {index : Byte} {data : List Word} {body : State → Answer}
    (h : s.ZonesAndPorts) (hb : ∀ u : State, u.ZonesAndPorts → (body u).state.ZonesAndPorts) :
    (serve row p index data body s).ZonesAndPorts :=
  serve_keeps (P := State.ZonesAndPorts) (fun _ k => k.frameTaken p) (fun _ _ k => k.modPort fun e => ⟨e.silence, e.line⟩) hb h

theorem State.ZonesAndPorts.guarded (h : s.ZonesAndPorts) : (refuseGuarded s).state.ZonesAndPorts :=
  h.aside (s.raiseAll_sameRows _) (State.raiseAll_moves (w := true) s .protectedWrite).portsSound
theorem State.ZonesAndPorts.unlessGuarded {body : Answer} (h : s.ZonesAndPorts) (hb : body.state.ZonesAndPorts) :
    (unlessGuarded s body).state.ZonesAndPorts := by
  unfold Machine.unlessGuarded
  split
  · exact h.guarded
  · exact hb

end

end Sys2Proof.Machine

/-! ## Requests, replies and expiries that write no zone and no head record (R16 to R20, R159, R164) -/

namespace Sys2Proof.Machine

section
variable {s u : State} {p : Port} {index : Byte} {data : List Word}

/-! ### Requests of every port -/

theorem State.ZonesAndPorts.ackAlarmBody (h : u.ZonesAndPorts) : (ackAlarmBody p data u).state.ZonesAndPorts := by
  unfold Machine.ackAlarmBody
  split
  · exact h
  · split
    · exact h
    · split
      · exact h
      · exact h.withAlarms _

/-! ### Requests of the building port -/

theorem State.ZonesAndPorts.writeFanBody (h : u.ZonesAndPorts) : (writeFanBody index data u).state.ZonesAndPorts := by
  unfold Machine.writeFanBody
  split
  · exact h
  · refine h.unlessGuarded ?_
    split
    · exact h
    · split
      · exact h
      · exact (h.aside (u.fanWritten_sameRows _ _) fun k => State.fanWritten_ports k _ _).finish

theorem State.ZonesAndPorts.writeNormalBudgetBody (h : u.ZonesAndPorts) :
    (writeNormalBudgetBody data u).state.ZonesAndPorts :=
  h.unlessGuarded (h.aside (u.normalWritten_sameRows _) (u.normalWritten_moves _).portsSound).finish

theorem State.ZonesAndPorts.writePlanBody (h : u.ZonesAndPorts) : (writePlanBody p index data u).state.ZonesAndPorts := by
  unfold Machine.writePlanBody writePlanValues
  split
  · exact h
  · split
    · exact h
    · split
      · split
        · exact h.guarded
        · exact h
      · split
        · exact h
        · split
          · exact (h.aside (u.planWritten_sameRows _ _ _) (u.planWritten_moves _ _ _).portsSound).finish
          · exact h

theorem State.ZonesAndPorts.selectBasePlanBody (h : u.ZonesAndPorts) : (selectBasePlanBody index u).state.ZonesAndPorts := by
  unfold Machine.selectBasePlanBody
  split
  · exact h
  · split
    · exact h
    · exact (h.aside (u.baseSelected_sameRows _) (u.baseSelected_moves _).portsSound).finish

theorem State.ZonesAndPorts.setZoneClosureBody (h : u.ZonesAndPorts) :
    (setZoneClosureBody index data u).state.ZonesAndPorts := by
  unfold Machine.setZoneClosureBody
  split
  · exact h
  · refine h.unlessGuarded ?_
    split
    · exact h
    · exact (h.aside (u.closureSet_sameRows _ _) (u.closureSet_moves _ _).portsSound).finish

theorem State.ZonesAndPorts.setBoostBody (h : u.ZonesAndPorts) : (setBoostBody index data u).state.ZonesAndPorts := by
  have h1 : ∀ z, (u.setBoost z (boostOf data)).ZonesAndPorts := fun z =>
    ⟨h.1.setBoost (boostOf_percent data), (u.setBoost_moves z _).portsSound h.2⟩
  have h2 : (u.boostAll (boostOf data)).ZonesAndPorts :=
    ⟨h.1.boostAll (boostOf_percent data), (u.boostAll_moves _).portsSound h.2⟩
  unfold Machine.setBoostBody
  split
  · exact h2.finish
  · split
    · exact h
    · split
      · exact h
      · split
        · exact h.guarded
        · exact (h1 _).finish

theorem State.ZonesAndPorts.setFanServiceBody (h : u.ZonesAndPorts) :
    (setFanServiceBody index data u).state.ZonesAndPorts := by
  unfold Machine.setFanServiceBody
  split
  · exact h
  · refine h.unlessGuarded ?_
    split
    · exact h
    · exact (h.aside (u.serviceSet_sameRows _ _) fun k => State.serviceSet_ports k _ _).finish

theorem State.ZonesAndPorts.reenrolFanBody (h : u.ZonesAndPorts) : (reenrolFanBody index u).state.ZonesAndPorts := by
  unfold Machine.reenrolFanBody
  split
  · exact h
  · rename_i n _
    refine h.unlessGuarded ?_
    have h1 : ∀ f : Fan → Fan, ((u.modFan n f).enterEnrolHold n).ZonesAndPorts := fun f =>
      (h.aside (u.modFan_sameRows n f) fun k => k.of_ports rfl).kept (State.enterEnrolHold_lasting _ n)
        fun k => k.quiet (State.enterEnrolHold_quiet _ n)
    have h2 : ∀ f : Fan → Fan, ((u.modFan n f).stopFan n).ZonesAndPorts := fun f =>
      (h.aside (u.modFan_sameRows n f) fun k => k.of_ports rfl).kept (State.stopFan_lasting _ n)
        fun k => k.quiet (State.stopFan_quiet _ n)
    unfold reenrolByState
    split
    · exact (h1 _).finish
    · exact (h1 _).finish
    · exact (h2 _).finish
    · exact (h2 _).finish
    all_goals exact h

theorem State.ZonesAndPorts.resetFanBody (h : u.ZonesAndPorts) : (resetFanBody p index u).state.ZonesAndPorts := by
  unfold Machine.resetFanBody
  split
  · exact h
  · split
    · exact h.guarded
    · split
      · exact h
      · split
        · exact h
        · rename_i n _ _ _ ht
          split
          · exact h
          · exact (h.aside (u.fanReset_sameRows n) (u.fanReset_moves n (by simpa using ht)).portsSound).finish

/-- R9 does not speak of a head's total misses. -/
theorem Head.Agrees.sound {a b : Head} (h : a.Agrees b) (k : a.Sound) : b.Sound := fun g => by
  have hr : b.reading g = a.reading g := by
    cases g
    · exact h.co
    · exact h.no2
  rw [hr, h.state, h.config]
  exact k g

/-- R15: the counts are no part of what R16 to R20 speak of. -/
theorem State.ZonesSound.countsCleared (h : u.ZonesSound) : u.countsCleared.ZonesSound := by
  have hz : ∀ z, u.countsCleared.zone z = { u.zone z with highEvents := 0 } := fun z => by
    simp [State.zone, State.countsCleared]
  have hh : ∀ k, u.countsCleared.head k = { u.head k with misses := 0 } := fun k => by
    simp [State.head, State.countsCleared]
  refine ⟨fun z => ?_, fun z g => ?_, fun z => ?_, h.stored, fun k => ?_⟩
  · rw [hz]
    obtain ⟨h1, h2, h3, h4, h5, h6, h7⟩ := h.zones z
    exact ⟨h1, h2, h3, h4, h5, h6, h7⟩
  · have hg : (u.countsCleared.zone z).gas g = (u.zone z).gas g := by rw [hz]; cases g <;> rfl
    rw [hg]
    exact (h.gas z g).congr (fun k _ => by rw [hh]; exact ⟨rfl, rfl, rfl, rfl⟩) (by rw [hz])
  · rw [hz]; exact h.targets z
  · rw [hh]; exact Head.Agrees.sound ⟨rfl, rfl, rfl, rfl⟩ (h.heads k)

theorem State.ZonesAndPorts.clearCountsBody (h : u.ZonesAndPorts) : (clearCountsBody u).state.ZonesAndPorts :=
  h.unlessGuarded ⟨h.1.countsCleared, h.2.of_ports rfl⟩

theorem State.ZonesAndPorts.factoryClearBody (h : u.ZonesAndPorts) : (factoryClearBody u).state.ZonesAndPorts := by
  unfold Machine.factoryClearBody
  split
  · exact h
  · show u.factoryReset.ZonesAndPorts
    rw [factoryReset_eq]
    exact State.ZonesAndPorts.withPending ⟨State.reset_zonesSound, State.reset_portsSound⟩ _

/-! ### Requests of the alarm port -/

theorem State.ZonesAndPorts.fireAlarmBody (h : u.ZonesAndPorts) : (fireAlarmBody index u).state.ZonesAndPorts := by
  unfold Machine.fireAlarmBody
  split
  · exact h
  · split
    · exact (h.aside (u.fireAlarmed_sameRows _) (u.fireAlarmed_moves _).portsSound).finish
    · exact h

theorem State.ZonesAndPorts.fireResetBody (h : u.ZonesAndPorts) : (fireResetBody u).state.ZonesAndPorts :=
  (h.aside u.fireReset_sameRows u.fireReset_moves.portsSound).finish

theorem State.ZonesAndPorts.supplyStateBody (h : u.ZonesAndPorts) : (supplyStateBody data u).state.ZonesAndPorts := by
  unfold Machine.supplyStateBody
  split
  · exact h
  · exact (h.aside (u.supplySet_sameRows _) (u.supplySet_moves _).portsSound).finish

theorem State.ZonesAndPorts.writeStandbyBudgetBody (h : u.ZonesAndPorts) :
    (writeStandbyBudgetBody data u).state.ZonesAndPorts :=
  (h.aside (u.standbyWritten_sameRows _) (u.standbyWritten_moves _).portsSound).finish

theorem State.ZonesAndPorts.writePlanMapBody (h : u.ZonesAndPorts) : (writePlanMapBody data u).state.ZonesAndPorts := by
  unfold Machine.writePlanMapBody
  split
  · exact h
  · split
    · exact h
    · split
      · exact h.aside (u.mapWritten_sameRows _) (u.mapWritten_moves _).portsSound
      · exact h

theorem State.ZonesAndPorts.setPlanKindBody (h : u.ZonesAndPorts) : (setPlanKindBody index data u).state.ZonesAndPorts := by
  unfold Machine.setPlanKindBody setPlanKindValue
  split
  · exact h
  · split
    · exact h
    · split
      · exact h
      · split
        · exact h
        · split
          · exact h
          · exact h.aside (u.kindSet_sameRows _ _) (u.kindSet_moves _ _).portsSound

/-! ### Requests of the override port -/

theorem State.ZonesAndPorts.giveControlBody (h : u.ZonesAndPorts) : (giveControlBody u).state.ZonesAndPorts := by
  unfold Machine.giveControlBody
  split
  · exact (h.aside u.giveControl_sameRows u.giveControl_moves.portsSound).finish
  · exact h

theorem State.ZonesAndPorts.setZoneOverrideBody (h : u.ZonesAndPorts) :
    (setZoneOverrideBody index data u).state.ZonesAndPorts := by
  unfold Machine.setZoneOverrideBody
  split
  · exact h
  · split
    · split
      · exact h
      · exact (h.aside (u.overrideSet_sameRows _ _) (u.overrideSet_moves _ _).portsSound).finish
    · exact h

theorem State.ZonesAndPorts.setFanBlockBody (h : u.ZonesAndPorts) : (setFanBlockBody index data u).state.ZonesAndPorts := by
  unfold Machine.setFanBlockBody
  split
  · exact h
  · split
    · split
      · exact h
      · exact (h.aside (u.blockSet_sameRows _ _) (u.blockSet_moves _ _).portsSound).finish
    · exact h

theorem State.ZonesAndPorts.selectPlanBody (h : u.ZonesAndPorts) : (selectPlanBody index u).state.ZonesAndPorts := by
  unfold Machine.selectPlanBody
  split
  · exact h
  · split
    · exact (h.aside (u.selectPlan_sameRows _) (u.selectPlan_moves _).portsSound).finish
    · exact h

theorem State.ZonesAndPorts.returnToAutomaticBody (h : u.ZonesAndPorts) : (returnToAutomaticBody u).state.ZonesAndPorts := by
  unfold Machine.returnToAutomaticBody
  split
  · split
    · exact (h.aside (u.toAutomatic_sameRows.trans (State.handPlan_sameRows _ _))
        (u.toAutomatic_moves.trans (State.handPlan_moves _ _)).portsSound).finish
    · exact h
  · exact h

/-! ### Replies and the reply timeout -/

theorem State.ZonesAndPorts.takeReply {α : Type} {address : Byte} {kind : Device → Option α}
    {owner : α → Option Order → State → State} (h : s.ZonesAndPorts)
    (ho : ∀ a k (u : State), u.ZonesAndPorts → (owner a k u).ZonesAndPorts) : (s.takeReply address kind owner).ZonesAndPorts := by
  have h1 : s.endExchange.ZonesAndPorts := h.modLine _
  unfold State.takeReply
  split
  · unfold State.exchangeAnswered
    split
    · exact h1.finish
    · exact (ho _ _ _ (h1.modLine _)).finish
  · exact h

theorem State.ZonesAndPorts.extractReplied (h : u.ZonesAndPorts) (z : ZoneId) (position flag : Byte) :
    (u.extractReplied z position flag).ZonesAndPorts :=
  h.kept (u.extractReplied_lasting z position flag) fun k =>
    (State.reprove_moves (w := true) _).portsSound ((k.of_ports (t := u.storeExtract z position flag) rfl).judgeExtract z)
theorem State.ZonesAndPorts.makeUpReplied (h : u.ZonesAndPorts) (z : ZoneId) (o c flag : Byte) :
    (u.makeUpReplied z o c flag).ZonesAndPorts :=
  h.kept (u.makeUpReplied_lasting z o c flag) fun k => (k.of_ports (t := u.storeMakeUp z o c flag) rfl).judgeMakeUp z

/-- R15: a head's total misses are no part of what R16 to R20 speak of. -/
theorem State.ZonesSound.countTotal (h : u.ZonesSound) (d : Device) : (u.countTotal d).ZonesSound := by
  cases d with
  | head k =>
    have hh : ∀ j, (u.head j).Agrees ((u.countTotal (.head k)).head j) := fun j => by
      unfold State.countTotal
      simp only [State.modHead_head]
      split
      · rename_i e; subst e; exact ⟨rfl, rfl, rfl, rfl⟩
      · exact .of_eq rfl
    refine ⟨h.zones, fun z g => (h.gas z g).congr (fun j _ => hh j) rfl, h.targets, h.stored, fun j => ?_⟩
    exact (hh j).sound (h.heads j)
  | drive | extract | makeUp => exact h

theorem State.ZonesAndPorts.missed (h : s.ZonesAndPorts) (x : Exchange) : (s.missed x).ZonesAndPorts := by
  have h1 : s.endExchange.ZonesAndPorts := h.modLine _
  unfold State.missed
  split
  · exact h1
  · have h2 : (s.endExchange.countMiss x.device).ZonesAndPorts := h1.modLine _
    have h3 : ((s.endExchange.countMiss x.device).countTotal x.device).ZonesAndPorts :=
      ⟨h2.1.countTotal _, h2.2.of_ports (by cases x.device <;> rfl)⟩
    unfold State.judgeMiss
    split
    · have h4 : ∀ d : Device, (((s.endExchange.countMiss x.device).countTotal x.device).markLost d).ZonesAndPorts :=
        fun d => h3.modLine _
      unfold State.ownerLoses
      split
      · exact ⟨(h4 _).1.loseHead _, (State.loseHead_moves _ _).portsSound (h4 _).2⟩
      · exact (h4 _).kept (State.loseFan_lasting _ _) (State.loseFan_moves (w := true) _ _).portsSound
      · exact (h4 _).kept (State.loseExtract_lasting _ _) (State.loseExtract_moves (w := true) _ _).portsSound
      · exact (h4 _).kept (State.loseMakeUp_lasting _ _) (State.loseMakeUp_moves (w := true) _ _).portsSound
    · unfold State.requeue
      split
      · exact h3
      · split
        · exact h3
        · exact h3.kept (State.enqueue_lasting _ _) (State.enqueue_moves (w := true) _ _).portsSound

/-! ### Expiries -/

theorem State.ZonesAndPorts.linkGone (h : s.ZonesAndPorts) (p : Port) : (s.linkGone p).ZonesAndPorts := by
  refine ⟨?_, (s.linkGone_moves p).portsSound h.2⟩
  have h1 : State.ZonesSound (((s.modPort p fun q => { q with link := .lost, silence := none }).raiseAlarm (.linkLost p) none).raiseAll
      .linkLost) :=
    h.1.sameRows (.trans (State.SameRows.trans (t := s.modPort p fun q => { q with link := .lost, silence := none }) ⟨rfl, rfl, rfl⟩
      (.of_lasting (State.raiseAlarm_lasting _ _ _))) (State.raiseAll_sameRows _ _))
  cases p with
  | building => exact h1.endBoosts
  | alarm | override => exact h1

end

end Sys2Proof.Machine

/-! ## Writes of a zone's and of a head's record (R6 to R8, R10) -/

namespace Sys2Proof.Machine

section
variable {s t u : State} {z y : ZoneId} {index : Byte} {data : List Word}

/-! ### A zone that ceases to be fitted (R8) -/

/-- R8: the row of a zone that has ceased to be fitted. -/
def Zone.unfitted (q : Zone) : Zone :=
  { q with boost := none, co := { q.co with count := 0, high := false }, no2 := { q.no2 with count := 0, high := false } }

theorem State.endHigh_zone (s : State) (z y : ZoneId) (g : Gas) : (s.endHigh z g).zone y =
    if y = z then (s.zone z).modGas g (fun r => { r with high := false }) else s.zone y := by
  unfold State.endHigh
  split
  · exact s.modZone_zone z y _
  · rename_i h
    split
    · rename_i e
      have hg : ((s.zone z).gas g).high = false := by simpa using h
      rw [e, Zone.modGas_congr (k := id) _ g (by rw [← hg]; rfl)]
      cases g <;> rfl
    · rfl

theorem State.unfitZone_zone (s : State) (z y : ZoneId) :
    (s.unfitZone z).zone y = if y = z then (s.zone z).unfitted else s.zone y := by
  unfold State.unfitZone
  simp only [State.modZone_zone, State.endHigh_zone]
  split <;> rfl

theorem State.endHigh_inEvaluator (s : State) (z : ZoneId) (g : Gas) : s.InEvaluator (s.endHigh z g) := by
  unfold State.endHigh
  split
  · exact s.gasClears_inEvaluator z g
  · exact .refl _
theorem State.unfitZone_inEvaluator (s : State) (z : ZoneId) : s.InEvaluator (s.unfitZone z) :=
  (((s.modZone_inEvaluator z _).trans (State.endHigh_inEvaluator _ z _)).trans (State.endHigh_inEvaluator _ z _)).trans
    (State.modZone_inEvaluator _ z _)

theorem State.endHigh_heads (s : State) (z : ZoneId) (g : Gas) : (s.endHigh z g).heads = s.heads := by
  unfold State.endHigh; split <;> rfl
theorem State.unfitZone_heads (s : State) (z : ZoneId) : (s.unfitZone z).heads = s.heads :=
  (State.endHigh_heads _ z .no2).trans (State.endHigh_heads _ z .co)

theorem State.endHigh_moves (s : State) (z : ZoneId) (g : Gas) : State.Moves true s (s.endHigh z g) := by
  unfold State.endHigh
  split
  · exact s.gasClears_moves z g
  · exact .refl _
theorem State.unfitZone_moves (s : State) (z : ZoneId) : State.Moves true s (s.unfitZone z) :=
  (((s.modZone_moves z _ rfl).trans (State.endHigh_moves _ z _)).trans (State.endHigh_moves _ z _)).trans
    (State.modZone_moves _ z _ rfl)

theorem Zone.Fit.unfitted {q : Zone} (h : q.Fit) : q.unfitted.Fit := ⟨h.config, Nat.zero_le _, h.target, h.demand, h.fall⟩

/-! ### The dampers of a zone that becomes or ceases to be fitted (R107) -/

theorem State.fitDampers_starting (s : State) (z : ZoneId) :
    State.Starting (((s.fitDevice (.extract z)).fitDevice (.makeUp z)).rebuildPolls) (s.fitDampers z) := by
  unfold State.fitDampers
  exact (State.startExtract_starting _ z).trans (State.startMakeUp_starting _ z)
theorem State.fitDampers_sameRows (s : State) (z : ZoneId) : s.SameRows (s.fitDampers z) :=
  ((s.modLine_sameRows _).trans ((State.modLine_sameRows _ _).trans (State.modLine_sameRows _ _))).trans
    (.of_lasting (s.fitDampers_starting z).lasting)
theorem State.fitDampers_ports (s : State) (z : ZoneId) : (s.fitDampers z).ports = s.ports :=
  (s.fitDampers_starting z).quiet.2

theorem State.stopExtract_sameRows (s : State) (z : ZoneId) : s.SameRows (s.stopExtract z) :=
  State.SameRows.trans (t := s.modExtract z fun d => { d with timer := none }) ⟨rfl, rfl, rfl⟩ (State.clearAlarm_sameRows _ _)
theorem State.stopMakeUp_sameRows (s : State) (z : ZoneId) : s.SameRows (s.stopMakeUp z) :=
  State.SameRows.trans (t := s.modMakeUp z fun m => { m with timer := none }) ⟨rfl, rfl, rfl⟩ (State.clearAlarm_sameRows _ _)
theorem State.unfitDampers_sameRows (s : State) (z : ZoneId) : s.SameRows (s.unfitDampers z) := by
  unfold State.unfitDampers
  exact ((s.stopExtract_sameRows z).trans (State.stopMakeUp_sameRows _ z)).trans ((State.modLine_sameRows _ _).trans
    ((State.modLine_sameRows _ _).trans (State.modLine_sameRows _ _)))
theorem State.unfitDampers_ports (s : State) (z : ZoneId) : (s.unfitDampers z).ports = s.ports := by
  unfold State.unfitDampers
  exact (show ((s.stopExtract z).stopMakeUp z).ports = s.ports from rfl)

/-! ### WRITE ZONE -/

theorem State.refit_zone (s : State) (z y : ZoneId) (old new : Bool) : (s.refit z old new).zone y =
    if y = z ∧ (old && !new) = true then (s.zone z).unfitted else s.zone y := by
  unfold State.refit
  by_cases h : (old && !new) = true
  · have hd : ((s.unfitZone z).unfitDampers z).zone y = (s.unfitZone z).zone y :=
      congrArg (fun v : Vector Zone 16 => v[y.val]) (State.unfitDampers_sameRows _ z).zones
    rw [if_pos h, hd, State.unfitZone_zone]
    simp only [h, and_true]
  · rw [if_neg h, if_neg (c := y = z ∧ _) fun k => h k.2]
    split
    · exact congrArg (fun v : Vector Zone 16 => v[y.val]) (s.fitDampers_sameRows z).zones
    · rfl

theorem State.refit_heads (s : State) (z : ZoneId) (old new : Bool) : (s.refit z old new).heads = s.heads := by
  unfold State.refit
  split
  · exact (State.unfitDampers_sameRows _ z).heads.trans (s.unfitZone_heads z)
  · split
    · exact (s.fitDampers_sameRows z).heads
    · rfl

theorem State.refit_storedZones (s : State) (z : ZoneId) (old new : Bool) : (s.refit z old new).store.zones = s.store.zones := by
  unfold State.refit
  split
  · exact (State.unfitDampers_sameRows _ z).stored.trans (congrArg Store.zones (s.unfitZone_inEvaluator z).store)
  · split
    · exact (s.fitDampers_sameRows z).stored
    · rfl

theorem State.PortsSound.refit (h : s.PortsSound) (z : ZoneId) (old new : Bool) : (s.refit z old new).PortsSound := by
  unfold State.refit
  split
  · exact ((s.unfitZone_moves z).portsSound h).of_ports (State.unfitDampers_ports _ z)
  · split
    · exact h.of_ports (s.fitDampers_ports z)
    · exact h

theorem State.judgeFit_sameRows (s : State) (b : Bool) : s.SameRows (s.judgeFit b) := by
  unfold State.judgeFit
  split
  · exact (State.SameRows.of_lasting s.reprove_lasting).trans (State.recomputeRoles_sameRows _)
  · exact .refl _
theorem State.judgeFit_moves (s : State) (b : Bool) : State.Moves true s (s.judgeFit b) := by
  unfold State.judgeFit
  split
  · exact s.reprove_moves.trans (State.recomputeRoles_moves _)
  · exact .refl _

/-- R7, R9: a record within its ranges leaves every row but its own sound. -/
theorem State.ZonesSound.commitZone (h : s.ZonesSound) {c : ZoneConfig} (hc : c.percents) :
    (s.commitZone z c).SoundBut fun y => y = z := by
  have hz : ∀ y, (s.commitZone z c).zone y = if y = z then { s.zone z with config := c } else s.zone y :=
    fun y => s.modZone_zone z y _
  refine ⟨fun y hy => ?_, fun y => ?_, fun y => ?_, h.heads⟩
  · exact State.RowSound.congr ⟨h.zones y, h.gas y, h.targets y⟩ (fun _ _ _ => .of_eq rfl) (by rw [hz, if_neg hy])
  · rw [hz]
    split
    · have k := (h.zones z).fit
      exact ⟨hc, k.boost, k.target, k.demand, k.fall⟩
    · exact (h.zones y).fit
  · have hs : (s.commitZone z c).store.zones.contents[y.val] = if y = z then c else s.store.zones.contents[y.val] :=
      upd_get _ _ _ _
    rw [hs]
    split
    · exact hc
    · exact h.stored y

theorem State.SoundBut.refit (h : s.SoundBut fun y => y = z) (old new : Bool) :
    (s.refit z old new).SoundBut fun y => y = z := by
  refine (h.row (z := z) (fun y e => ?_) (s.refit_heads z old new) (s.refit_storedZones z old new) ?_).mono fun y => by simp
  · rw [State.refit_zone, if_neg (by simp [e])]
  · rw [State.refit_zone]
    split
    · exact (h.fit z).unfitted
    · exact h.fit z

theorem State.ZonesSound.zoneWritten (h : s.ZonesSound) {c : ZoneConfig} (hc : c.percents) : (s.zoneWritten z c).ZonesSound := by
  have h1 := (((h.commitZone (z := z) hc).sameRows (State.configChanged_sameRows _ .building)).refit
    (s.zone z).config.fitted c.fitted).sameRows (State.judgeFit_sameRows _ ((s.zone z).config.fitted != c.fitted))
  exact ((h1.refreshZone z).sameRows (State.trigger_sameRows _)).zonesSound fun y hy => hy.2 hy.1

theorem State.PortsSound.zoneWritten (h : s.PortsSound) (z : ZoneId) (c : ZoneConfig) : (s.zoneWritten z c).PortsSound := by
  have h1 : (s.commitZone z c).PortsSound := h.of_ports rfl
  have h2 := ((State.configChanged_moves _ .building).portsSound h1).refit z (s.zone z).config.fitted c.fitted
  exact (((State.judgeFit_moves _ ((s.zone z).config.fitted != c.fitted)).trans (State.refreshZone_moves _ z)).trans
    (State.trigger_moves _)).portsSound h2

/-- R6: a clamped field lies below the end of its range, whatever the number of the data words. -/
theorem clampFields_getD_le (ranges : List (Nat × Nat)) (data : List Word) (start i hi : Nat)
    (h : ∀ (k : i < ranges.length), ranges[i].1 ≤ hi ∧ ranges[i].2 ≤ hi) : (clampFields ranges data start).getD i 0 ≤ hi := by
  unfold clampFields
  by_cases hl : i < (List.zipWith clampField ranges (data.drop start)).length
  · rw [List.getD_eq_getElem _ _ hl, List.getElem_zipWith]
    have := h (by simp at hl; omega)
    unfold clampField clampTo
    omega
  · rw [List.getD_eq_default _ _ (by omega)]; omega

theorem zoneRecord_percents (f : Bool) (data : List Word) : (zoneRecord f data).percents :=
  ⟨clampFields_getD_le _ _ _ 8 100 (by decide), clampFields_getD_le _ _ _ 9 100 (by decide)⟩

theorem State.ZonesAndPorts.writeZoneBody (h : u.ZonesAndPorts) : (writeZoneBody index data u).state.ZonesAndPorts := by
  unfold Machine.writeZoneBody
  split
  · exact h
  · split
    · exact h.guarded
    · split
      · exact h
      · split
        · exact State.ZonesAndPorts.finish ⟨h.1.zoneWritten (zoneRecord_percents _ _), h.2.zoneWritten _ _⟩
        · exact h

/-! ### WRITE HEAD -/

theorem State.modHead_modHead (s : State) (h : HeadId) (f k : Head → Head) :
    (s.modHead h f).modHead h k = s.modHead h (k ∘ f) := by
  simp [State.modHead, upd]

theorem State.modHead_self {h : HeadId} {f : Head → Head} (e : f (s.head h) = s.head h) : s.modHead h f = s := by
  simp only [State.head] at e
  simp [State.modHead, upd, e]

theorem State.refitHead_sameRows (s : State) (h : HeadId) (old new : Bool) : s.SameRows (s.refitHead h old new) := by
  unfold State.refitHead
  split
  · exact .refl _
  · split <;> exact ⟨rfl, rfl, rfl⟩
theorem State.refitHead_ports (s : State) (h : HeadId) (old new : Bool) : (s.refitHead h old new).ports = s.ports := by
  unfold State.refitHead
  split
  · rfl
  · split <;> rfl

/-- R10: the record of a head whose fields a write has changed. -/
def Head.rewritten (q : Head) (c : HeadConfig) : Head := { q with config := c, state := .unknown, co := none, no2 := none }

theorem State.refreshZones_moves (s : State) (old new : ZoneId) : State.Moves true s (s.refreshZones old new) := by
  unfold State.refreshZones
  split
  · exact s.refreshZone_moves old
  · exact (s.refreshZone_moves old).trans (State.refreshZone_moves _ new)

theorem State.SoundBut.refreshZones {old new : ZoneId} (h : s.SoundBut fun y => y = old ∨ y = new) :
    (s.refreshZones old new).ZonesSound := by
  unfold State.refreshZones
  split
  · rename_i e
    exact (h.refreshZone old).zonesSound fun y hy => hy.1.elim hy.2 (e ▸ hy.2)
  · exact ((h.refreshZone old).refreshZone new).zonesSound fun y hy => hy.1.1.elim hy.1.2 hy.2

theorem State.resetHead_sameRows (s : State) (h : HeadId) (c : HeadConfig) :
    (s.modHead h fun q => q.rewritten c).SameRows (((s.commitHead h c).configChanged .building).resetHead h) := by
  have hh : ((s.modHead h fun q => { q with config := c }).modHead h fun q =>
      { q with state := .unknown, co := none, no2 := none }) = s.modHead h fun q => q.rewritten c := State.modHead_modHead s h _ _
  have hh := congrArg State.heads hh
  exact ⟨rfl, hh, rfl⟩

theorem State.ZonesSound.headWritten (k : s.ZonesSound) (h : HeadId) (c : HeadConfig) : (s.headWritten h c).ZonesSound := by
  unfold State.headWritten
  simp only
  split
  · rename_i e
    have hm : (s.modHead h fun q => { q with config := c }) = s := State.modHead_self (by rw [e])
    have hc : (s.commitHead h c).heads = (s.modHead h fun q => { q with config := c }).heads := rfl
    exact k.sameRows (State.SameRows.trans (t := s.commitHead h c) ⟨rfl, hc.trans (congrArg State.heads hm), rfl⟩
      (State.configChanged_sameRows _ .building))
  · have h1 := ((k.soundBut fun _ => False).head (h := h) (f := fun q => q.rewritten c)
      (Head.sound_of_none (by simp [Head.rewritten]) rfl rfl)).mono fun y hy => hy.resolve_left id
    exact ((h1.sameRows (s.resetHead_sameRows h c)).sameRows (State.refitHead_sameRows _ h _ _)).refreshZones

theorem State.PortsSound.headWritten (k : s.PortsSound) (h : HeadId) (c : HeadConfig) : (s.headWritten h c).PortsSound := by
  have h1 := (State.configChanged_moves (s.commitHead h c) .building).portsSound (k.of_ports rfl)
  unfold State.headWritten
  simp only
  split
  · exact h1
  · exact (State.refreshZones_moves _ _ _).portsSound
      ((h1.of_ports (t := ((s.commitHead h c).configChanged .building).resetHead h) rfl).of_ports (State.refitHead_ports _ h _ _))

theorem State.ZonesAndPorts.writeHeadBody (h : u.ZonesAndPorts) : (writeHeadBody index data u).state.ZonesAndPorts := by
  unfold Machine.writeHeadBody
  split
  · exact h
  · refine h.unlessGuarded ?_
    split
    · exact h
    · exact State.ZonesAndPorts.finish ⟨h.1.headWritten _ _, h.2.headWritten _ _⟩

end

end Sys2Proof.Machine

/-! ## O59: the tick, the reset and the step (R2, R16 to R20, R159, R164, R177) -/

namespace Sys2Proof.Machine

section
variable {s t u : State}

/-! ### A second of part time -/

theorem lessOne_isSome' (o : Option Nat) : (lessOne o).isSome = o.isSome := by cases o <;> rfl

theorem Zone.second_eq (q : Zone) : q.second = { q with fall := lessOne q.fall, boost := q.boost.map Boost.second } := rfl

theorem Zone.second_boostPercent (q : Zone) : q.second.boostPercent = q.boostPercent := by
  unfold Zone.boostPercent
  rw [Zone.second_eq]
  cases q.boost <;> rfl

theorem Zone.Sound.second {q : Zone} (h : q.Sound) : q.second.Sound := by
  refine ⟨h.config, h.ramps, by rw [q.second_boostPercent]; exact h.boost, h.floor, h.target, h.demand, ?_⟩
  rw [Zone.second_eq, lessOne_isSome']
  exact h.fall

theorem Zone.second_greatestTerm (q : Zone) : q.second.greatestTerm = q.greatestTerm := by
  rw [← Zone.targetNow_eq, ← Zone.targetNow_eq]
  unfold Zone.targetNow
  rw [q.second_boostPercent]
  rfl

theorem State.second_zone (s : State) (z : ZoneId) : s.second.zone z = (s.zone z).second := by simp [State.zone, State.second]
theorem State.second_port (s : State) (p : Port) : s.second.port p = (s.port p).second := by cases p <;> rfl

theorem State.ZonesAndPorts.second (h : s.ZonesAndPorts) : s.second.ZonesAndPorts := by
  refine ⟨⟨fun z => ?_, fun z g => ?_, fun z => ?_, h.1.stored, h.1.heads⟩, fun p => ?_⟩
  · rw [State.second_zone]; exact (h.1.zones z).second
  · have hg : (s.second.zone z).gas g = (s.zone z).gas g := by rw [State.second_zone]; cases g <;> rfl
    rw [hg]
    exact (h.1.gas z g).congr (fun k _ => .of_eq rfl) (by rw [State.second_zone]; rfl)
  · rw [State.second_zone, Zone.second_greatestTerm]; exact h.1.targets z
  · rw [State.second_port]
    exact ⟨by rw [show (s.port p).second.silence = lessOne (s.port p).silence from rfl, lessOne_isSome']; exact (h.2 p).silence,
      (h.2 p).line⟩

/-! ### The resets -/

theorem Sealed.after_contents {α : Type} (image : α → List Word) (d : α) (g : GroupId) (x : Sealed α) (cut : StoreCut) :
    (x.after image d g cut).contents = x.contents ∨ (x.after image d g cut).contents = d := by
  have hs : ∀ (b : Bool) (y : Sealed α), (if b = true then y.spoiled image else y).contents = y.contents := by
    intro b y; cases b <;> rfl
  cases cut with
  | clean => exact .inl rfl
  | damaged gs => exact .inl (hs _ x)
  | factoryClear k =>
    by_cases hk : g.val < k.val
    · exact .inr ((hs _ _).trans (by rw [if_pos hk]; rfl))
    · exact .inl ((hs _ _).trans (by rw [if_neg hk]))
theorem Sealed.mended_contents {α : Type} (image : α → List Word) (d : α) (x : Sealed α) :
    (x.mended image d).contents = x.contents ∨ (x.mended image d).contents = d := by
  unfold Sealed.mended
  split
  · exact .inl rfl
  · exact .inr rfl

/-- R5, R176: the records that a start loads are those stored or the defaults. -/
theorem State.ZonesSound.loads (h : s.ZonesSound) (cut : StoreCut) (z : ZoneId) :
    (s.store.after cut).mended.zones.contents[z.val].percents := by
  have hd : (defaultZones[z.val]).percents := by
    simp only [defaultZones, Vector.getElem_replicate]
    unfold ZoneConfig.percents
    decide
  have hm : (s.store.after cut).mended.zones.contents = s.store.zones.contents ∨
      (s.store.after cut).mended.zones.contents = defaultZones := by
    rcases Sealed.mended_contents zonesImage defaultZones (s.store.after cut).zones with e | e
    · rcases Sealed.after_contents zonesImage defaultZones 0 s.store.zones cut with k | k
      · exact .inl (e.trans ((congrArg Sealed.contents (s.store.after_zones cut)).trans k))
      · exact .inr (e.trans ((congrArg Sealed.contents (s.store.after_zones cut)).trans k))
    · exact .inr e
  rcases hm with e | e
  · simp only [e]; exact h.stored z
  · simp only [e]; exact hd

/-- R16 to R20: the row of a zone none of whose heads has reported. -/
theorem ZoneConfig.firstRow_sound {c : ZoneConfig} (h : c.percents) : c.firstRow.Sound :=
  ⟨h, ⟨Nat.zero_le _, Nat.zero_le _⟩, Nat.zero_le _, le_refl _, le_refl _, h.1, by simp [ZoneConfig.firstRow]⟩

theorem ZoneConfig.firstRow_greatestTerm (c : ZoneConfig) : c.firstRow.target = c.firstRow.greatestTerm := by
  rw [← Zone.targetNow_eq]
  unfold Zone.targetNow
  split
  · simp [ZoneConfig.firstRow, Zone.boostPercent, Zone.highTerm]
  · rfl

theorem State.ZonesSound.of_first (hz : ∀ z, s.zone z = (s.zone z).config.firstRow) (hh : ∀ k, s.head k = { config := (s.head k).config })
    (hc : ∀ z, (s.zone z).config.percents) (hs : ∀ z : ZoneId, s.store.zones.contents[z.val].percents) : s.ZonesSound where
  zones := fun z => by rw [hz]; exact ZoneConfig.firstRow_sound (hc z)
  gas := fun z g => by
    have hst : ∀ k, (s.head k).state = .unknown := fun k => by rw [hh]
    have hg : (s.zone z).gas g = {} := by rw [hz]; cases g <;> rfl
    rw [hg]
    refine ⟨fun k _ e => ?_, ⟨fun e => ?_, fun ⟨_, k, _, e⟩ => ?_⟩, rfl⟩
    · rw [hst] at e; cases e
    · cases e
    · rw [hst] at e; exact e.elim (fun e => nomatch e) (fun e => nomatch e)
  targets := fun z => by rw [hz]; exact ZoneConfig.firstRow_greatestTerm _
  stored := hs
  heads := fun k => by rw [hh]; exact Head.sound_of_none (fun e => nomatch e) rfl rfl

/-- R177, R178: both resets leave sound rows and ports, whatever became of the store. -/
theorem State.ZonesAndPorts.restart (h : s.ZonesAndPorts) (cut : StoreCut) : (s.restart cut).ZonesAndPorts := by
  have hp : ∀ z : ZoneId, (s.store.after cut).mended.zones.contents[z.val].percents := h.1.loads cut
  have hst : (State.filled (s.store.after cut)).based.store.zones = (s.store.after cut).mended.zones := by
    unfold State.based; split <;> rfl
  have hcf := (State.filled_based (s.store.after cut)).1
  rw [State.restart_eq]
  generalize hq : ({ s with store := s.store.after cut } : State) = q
  have hqs : s.store.after cut = q.store := by rw [← hq]
  rw [hqs] at hp hst hcf
  have hL : q.volatileReset.loadGroups.correctBase.Loaded := q.corrected_loaded
  have hK := q.primed_keeps
  have hN := q.primed_portsNew
  have hW := q.primed_woken
  unfold State.primed at hW hN hK ⊢
  generalize q.volatileReset.loadGroups.correctBase = c at hL hN hW hK ⊢
  have hz : ∀ z, c.begun.zone z = (c.zone z).config.firstRow := hL.begun_zone
  have hh : ∀ k, c.begun.head k = c.head k := hL.begun_head
  generalize c.begun = b at *
  generalize b.trigger.finish = w at *
  have hc : ∀ z, (w.zone z).config.percents := fun z => by rw [hK.zone, hcf]; exact hp z
  refine State.ZonesAndPorts.withPending ⟨State.ZonesSound.of_first (fun z => ?_) (fun k => ?_) hc fun z => ?_, hN.sound⟩ _
  · have e : w.zone z = (c.zone z).config.firstRow := (hW.zone z).trans (hz z)
    rw [e]; rfl
  · have e : w.head k = c.head k := (hW.head k).trans (hh k)
    rw [e]; exact hL.heads k
  · simp only [hK.store, hst]; exact hp z

end

end Sys2Proof.Machine

/-! ## O59: every command keeps the rows and the ports sound -/

namespace Sys2Proof.Machine

section
variable {s t u w : State}

theorem State.ZonesAndPorts.of_next (e : (Host.Outcome.next w : Result) = .next t) (h : w.ZonesAndPorts) : t.ZonesAndPorts := by
  cases e; exact h

theorem State.ZonesAndPorts.unlessNot {b : Bool} (h : s.ZonesAndPorts) (k : b = true → t.ZonesAndPorts) :
    (if b then t else s).ZonesAndPorts := by
  cases b with
  | false => exact h
  | true => exact k rfl

theorem Fan.timing_iff {f : Fan} {st : FanState} : f.timing st = true ↔ f.state = st ∧ f.timer.isSome = true := by
  simp [Fan.timing]

theorem State.ZonesAndPorts.tripped (h : s.ZonesAndPorts) {n : FanId} {st : FanState} (d : FanDetail)
    (ht : (s.fan n).timing st = true) (he : st.enrolled = true) : (s.tripFan n d).finish.ZonesAndPorts := by
  have hst := (Fan.timing_iff.1 ht).1
  exact (h.kept (s.tripFan_lasting n d) (State.tripFan_moves (w := true) s n d fun hs => hs.able (hst ▸ he)).portsSound).finish

theorem State.ZonesAndPorts.unknownRequest (h : s.ZonesAndPorts) {p : Port} {code object index : Byte} {data : List Word}
    (e : execUnknownRequest p code object index data s = .next t) : t.ZonesAndPorts := by
  unfold execUnknownRequest at e
  split at e
  · cases e
  · split at e
    · exact .of_next e (State.ZonesAndPorts.respond (a := refuse (s.frameTaken p) .unknown) (h.frameTaken p) p _ _)
    · exact .of_next e (h.discardFrame p)

theorem State.ZonesAndPorts.read (h : s.ZonesAndPorts) (p : Port) (object index : Byte) (data : List Word) :
    State.ZonesAndPorts (if s.takesFrame p data then Machine.respond p rowRead.code index (readChecks object index p data (s.frameTaken p))
      else s.discardFrame p) := by
  split
  · refine State.ZonesAndPorts.respond ?_ p _ _
    unfold readChecks generalChecks readBody
    split
    · exact h.frameTaken p
    · split
      · exact h.frameTaken p
      · split
        · exact h.frameTaken p
        · split <;> exact h.frameTaken p
  · exact h.discardFrame p

theorem State.ZonesAndPorts.replyTimeout (h : s.ZonesAndPorts) (e : execReplyTimeout s = .next t) : t.ZonesAndPorts := by
  unfold execReplyTimeout at e
  split at e
  · exact .of_next e (h.missed _).finish
  · exact .of_next e h

/-- R16 to R20, R159, R164: one arm for each command. -/
theorem exec_zonesAndPorts (h : s.ZonesAndPorts) : ∀ c : Instr, exec c s = .next t → t.ZonesAndPorts
  | .ping _ _ _, e => .of_next e (h.serve fun _ k => k.withAlarms _)
  | .read p object index data, e => .of_next e (h.read p object index data)
  | .readNotices _ _ _, e => .of_next e (h.serve fun _ k => k.modPort fun q => ⟨q.silence, q.line⟩)
  | .ackNotices _ _ _, e => .of_next e (h.serve fun _ k => k.modPort fun q => ⟨q.silence, rfl⟩)
  | .setNoticeMask _ _ _, e => .of_next e (h.serve fun _ k => k.modPort fun q => ⟨q.silence, rfl⟩)
  | .endService _ _ _, e => .of_next e (h.serve fun _ k => k.modPort fun q => ⟨q.silence, rfl⟩)
  | .readAlarmList _ _ _, e => .of_next e (h.serve fun _ k => k.withAlarms _)
  | .ackAlarm _ _ _, e => .of_next e (h.serve fun _ k => k.ackAlarmBody)
  | .writeZone _ _ _, e => .of_next e (h.serve fun _ k => k.writeZoneBody)
  | .writeHead _ _ _, e => .of_next e (h.serve fun _ k => k.writeHeadBody)
  | .writeFan _ _ _, e => .of_next e (h.serve fun _ k => k.writeFanBody)
  | .writeNormalBudget _ _ _, e => .of_next e (h.serve fun _ k => k.writeNormalBudgetBody)
  | .writePlan _ _ _, e => .of_next e (h.serve fun _ k => k.writePlanBody)
  | .selectBasePlan _ _ _, e => .of_next e (h.serve fun _ k => k.selectBasePlanBody)
  | .setZoneClosure _ _ _, e => .of_next e (h.serve fun _ k => k.setZoneClosureBody)
  | .setBoost _ _ _, e => .of_next e (h.serve fun _ k => k.setBoostBody)
  | .setFanService _ _ _, e => .of_next e (h.serve fun _ k => k.setFanServiceBody)
  | .reenrolFan _ _ _, e => .of_next e (h.serve fun _ k => k.reenrolFanBody)
  | .resetFan _ _ _, e => .of_next e (h.serve fun _ k => k.resetFanBody)
  | .clearCounts _ _ _, e => .of_next e (h.serve fun _ k => k.clearCountsBody)
  | .factoryClear _ _ _, e => .of_next e (h.serve fun _ k => k.factoryClearBody)
  | .fireAlarm _ _ _, e => .of_next e (h.serve fun _ k => k.fireAlarmBody)
  | .fireReset _ _ _, e => .of_next e (h.serve fun _ k => k.fireResetBody)
  | .supplyState _ _ _, e => .of_next e (h.serve fun _ k => k.supplyStateBody)
  | .writePlanMap _ _ _, e => .of_next e (h.serve fun _ k => k.writePlanMapBody)
  | .writeStandbyBudget _ _ _, e => .of_next e (h.serve fun _ k => k.writeStandbyBudgetBody)
  | .setPlanKind _ _ _, e => .of_next e (h.serve fun _ k => k.setPlanKindBody)
  | .takeControl _ _ _, e => .of_next e (h.serve fun u k => k.aside u.takeControl_sameRows u.takeControl_moves.portsSound)
  | .giveControl _ _ _, e => .of_next e (h.serve fun _ k => k.giveControlBody)
  | .setZoneOverride _ _ _, e => .of_next e (h.serve fun _ k => k.setZoneOverrideBody)
  | .setFanBlock _ _ _, e => .of_next e (h.serve fun _ k => k.setFanBlockBody)
  | .selectPlan _ _ _, e => .of_next e (h.serve fun _ k => k.selectPlanBody)
  | .returnToAutomatic _ _ _, e => .of_next e (h.serve fun _ k => k.returnToAutomaticBody)
  | .unknownRequest _ _ _ _ _, e => h.unknownRequest e
  | .requestFrameDiscarded _ _, e => .of_next e (h.modPort fun q => ⟨q.silence, q.line⟩)
  | .lineQuiet _, e => .of_next e (h.modPort fun q => ⟨q.silence, q.line⟩)
  | .headReply _ status co no2, e => .of_next e (h.takeReply fun k _ u q =>
      ⟨q.1.headReplied k status co no2, (u.headReplied_moves k status co no2).portsSound q.2⟩)
  | .statusReply _ _ _ _, e => .of_next e (h.takeReply fun n _ u q =>
      q.kept (u.driveReply_lasting n _ _ _ _ _) (State.driveReply_moves (w := true) u n _ _ _ _ _).portsSound)
  | .abilityReply _ _ _ _ _ _ _, e => .of_next e (h.takeReply fun n _ u q =>
      q.kept (u.driveReply_lasting n _ _ _ _ _) (State.driveReply_moves (w := true) u n _ _ _ _ _).portsSound)
  | .extractReply _ _ _, e => .of_next e (h.takeReply fun z _ _ q => q.extractReplied z _ _)
  | .makeUpReply _ _ _ _, e => .of_next e (h.takeReply fun z _ _ q => q.makeUpReplied z _ _ _)
  | .fieldFrameDiscarded _, e => .of_next e h
  | .replyTimeout, e => h.replyTimeout e
  | .fallTimerExpiry z, e => .of_next e (h.unlessNot fun _ =>
      State.ZonesAndPorts.finish ⟨h.1.fallExpired z, (s.fallExpired_moves z).portsSound h.2⟩)
  | .boostExpiry z, e => .of_next e (h.unlessNot fun _ =>
      State.ZonesAndPorts.finish ⟨h.1.setBoost (b := none) (Nat.zero_le _), (s.setBoost_moves z none).portsSound h.2⟩)
  | .purgeTimerExpiry, e => .of_next e (h.unlessNot fun _ =>
      (h.aside s.doReturn_sameRows s.doReturn_moves.portsSound).finish)
  | .startLimitExpiry _, e => .of_next e (h.unlessNot fun k => h.tripped .startFail k rfl)
  | .stopLimitExpiry _, e => .of_next e (h.unlessNot fun k => h.tripped .stopFail k rfl)
  | .restartHoldExpiry n, e => .of_next e (h.unlessNot fun k =>
      (h.kept (s.enterReady_lasting n) (State.enterReady_moves (w := true) s n fun q =>
        q.able ((Fan.timing_iff.1 k).1 ▸ rfl)).portsSound).finish)
  | .enrolHoldExpiry n, e => .of_next e (h.unlessNot fun _ =>
      (h.kept (s.enterEnrolling_lasting n) fun q => q.quiet (s.enterEnrolling_quiet n)).finish)
  | .graceTimerExpiry, e => .of_next e (h.unlessNot fun _ =>
      (h.kept s.graceExpired_lasting (State.graceExpired_moves (w := true) s).portsSound).finish)
  | .extractTravelTimerExpiry z, e => .of_next e (h.unlessNot fun _ =>
      (h.kept ((State.reprove_lasting _).trans (s.faultExtract_lasting z))
        ((State.faultExtract_moves (w := true) s z).trans (State.reprove_moves _)).portsSound).finish)
  | .makeUpTravelTimerExpiry z, e => .of_next e (h.unlessNot fun _ =>
      (h.kept (s.faultMakeUp_lasting z) (State.faultMakeUp_moves (w := true) s z).portsSound).finish)
  | .stageDownTimerExpiry, e => .of_next e (h.unlessNot fun _ => h.finishExpiry)
  | .startUpWindowEnd, e => .of_next e (h.unlessNot fun _ =>
      (h.aside (t := s.closeWindow) ⟨rfl, rfl, rfl⟩ fun q => q.of_ports rfl).finish)
  | .silenceTimerExpiry p, e => .of_next e (h.unlessNot fun _ => (h.linkGone p).finish)
  | .holdOffExpiry _, e => .of_next e (h.unlessNot fun _ => h.modPort fun q => ⟨q.silence, rfl⟩)
  | .powerOn cut, e => .of_next e (h.restart cut)
  | .resetLine cut, e => .of_next e (h.restart cut)
  | .partTimeTick, e => .of_next e h.second

/-- Settles O59: each block's work keeps the rows or makes the one it changes sound again, and the ports change by raises,
frames and silence alone. -/
theorem zonesAndPortsStaySound : Obligations.ZonesAndPortsStaySound := by
  unfold Obligations.ZonesAndPortsStaySound
  intro s t hz hp e
  match hq : s.pending with
  | [] =>
    rw [step_of_pending_nil hq] at e
    exact State.ZonesAndPorts.of_next e ⟨hz, hp⟩
  | c :: rest =>
    rw [step_of_pending_cons hq] at e
    exact exec_zonesAndPorts (State.ZonesAndPorts.withPending ⟨hz, hp⟩ rest) c e

end

end Sys2Proof.Machine

/-! ## The expiries of the zones' and the ports' timers (R20, R23, R100, R104, R159, R160) -/

namespace Sys2Proof.Machine

section
variable {s u : State} {k : AlarmKey} {d : Option FanDetail}

/-! ### A raise with DEVICE_FAULT -/

theorem State.Faults.noticedByAll (h : s.Faults u k d) : u.noticedByAll .deviceFault := fun p => by
  have := (s.raiseAlarm k d).raiseAll_noticedByAll .deviceFault p
  simpa only [State.noticed, State.port, h.2] using this

/-- R135: a raise that finds its entry or room leaves its entry ACTIVE. -/
theorem AlarmList.raise_hasActive {a : AlarmList} (h : a.has k = true ∨ a.entries.length < 32) (d : Option FanDetail) (t : Nat) :
    (a.raise k d t).hasActive k = true := by
  obtain ⟨e, he, h1, h2, _⟩ := AlarmList.raise_listed h d t
  exact AlarmList.hasActive_iff.2 ⟨e, he, h1, h2⟩

theorem State.Faults.hasActive (h : s.Faults u k d) (hr : s.alarms.has k = true ∨ s.alarms.entries.length < 32) :
    u.alarms.hasActive k = true := by
  rw [h.1, State.raiseAlarm_alarms]
  exact AlarmList.raise_hasActive hr d _

end

section
variable {s : State} {z : ZoneId}

/-! ### The zone evaluator's timers -/

theorem State.fallExpired_eq (s : State) (z : ZoneId) : s.fallExpired z = { s with
    zones := upd s.zones z fun _ => (s.zone z).stepDown
    alloc := { s.alloc with due := s.alloc.due || (s.zone z).stepDown.demand != (s.zone z).demand } } := by
  unfold State.fallExpired
  rw [State.triggerIf_eq, State.modZone_congr (k := fun _ => (s.zone z).stepDown) rfl]
  rfl

theorem State.setBoost_alloc (s : State) (z : ZoneId) (b : Option Boost) : (s.setBoost z b).alloc =
    { s.alloc with due := s.alloc.due || ((s.setBoost z b).zone z).demand != (s.zone z).demand } := by
  unfold State.setBoost
  rw [State.retarget_alloc, State.modZone_zone_self]
  rfl

theorem State.InEvaluator.of_heads {u : State} (h : s.InEvaluator u) (hh : u.heads = s.heads) :
    u.lasting = { s.lasting with zones := u.zones } := by rw [h.lasting, hh]; rfl

/-! ### The dampers' travel timers -/

theorem State.damperFault_line (s : State) (k : AlarmKey) : (s.damperFault k).line = s.line := by
  unfold State.damperFault State.raiseAlarm; split <;> rfl

/-- Settles O45, expiry by expiry. -/
theorem zoneTimersActAtTheirExpiry : Obligations.ZoneTimersActAtTheirExpiry := by
  unfold Obligations.ZoneTimersActAtTheirExpiry
  refine ⟨fun z s => ⟨fun hf => ?_, fun hb => ?_⟩, fun z s => ⟨fun hm ht => ?_, fun hm ht => ?_⟩⟩
  · show execFallTimerExpiry z s = _
    rw [execFallTimerExpiry, if_pos hf, State.fallExpired_eq]
    rfl
  · refine ⟨s.setBoost z none, ?_, (s.setBoost_inEvaluator z none).of_heads (s.setBoost_heads z none),
      (s.setBoost_inEvaluator z none).plant, (s.setBoost_inEvaluator z none).fans, s.setBoost_quiet z none,
      (s.setBoost_inEvaluator z none).line, fun w hw => by rw [State.setBoost_zone, if_neg hw], s.setBoost_follows z none,
      s.setBoost_alloc z none⟩
    show execBoostExpiry z s = _
    rw [execBoostExpiry, if_pos hb]
  · have hF := s.faultExtract_faults z
    refine ⟨s.faultExtract z, ?_, s.faultExtract_onlyExtract z, State.damperFault_line _ _, s.faultExtract_extractOf z, hF,
      hF.noticedByAll, fun _ hl => hF.hasActive (.inr hl)⟩
    show execExtractTravelTimerExpiry z s = _
    rw [execExtractTravelTimerExpiry, if_pos (by simp [ExtractDamper.timing, hm, ht])]
  · have hF := s.faultMakeUp_faults z
    refine ⟨s.faultMakeUp z, ?_, s.faultMakeUp_onlyMakeUp z, State.damperFault_line _ _, s.faultMakeUp_makeUpOf z, hF,
      hF.noticedByAll, fun _ hl => hF.hasActive (.inr hl)⟩
    show execMakeUpTravelTimerExpiry z s = _
    rw [execMakeUpTravelTimerExpiry, if_pos (by simp [MakeUpDamper.timing, hm, ht])]

/-! ### The silence timers -/

/-- R159: the link of a port is lost, before what the loss does to the other blocks. -/
def State.linkLost (s : State) (p : Port) : State :=
  ((s.modPort p fun q => { q with link := .lost, silence := none }).raiseAlarm (.linkLost p) none).raiseAll .linkLost

theorem State.linkGone_eq (s : State) (p : Port) : s.linkGone p = (s.linkLost p).portLost p := rfl

theorem State.linkLost_blocks (s : State) (p : Port) : (s.linkLost p).zones = s.zones ∧ (s.linkLost p).plant = s.plant ∧
    (s.linkLost p).fans = s.fans ∧ (s.linkLost p).line = s.line := by
  unfold State.linkLost State.raiseAlarm
  split <;> exact ⟨rfl, rfl, rfl, rfl⟩

theorem State.linkLost_lasting (s : State) (p : Port) : (s.linkLost p).lasting = { s.lasting with
    ports := s.lasting.ports.upd p fun q => { q with link := .lost, silence := none } } := by
  have hp : (s.ports.upd p fun q => { q with link := .lost, silence := none }).map PortState.lasting =
      (s.ports.map PortState.lasting).upd p fun q => { q with link := .lost, silence := none } := by cases p <;> rfl
  rw [State.linkLost, State.raiseAll_lasting, State.raiseAlarm_lasting]
  simp only [State.lasting, State.modPort, hp]

theorem State.linkLost_keepsRest (s : State) (p : Port) : s.KeepsRest (s.linkLost p) [.linkLost p] [.linkLost, .listFull] := by
  have h1 : s.KeepsRest (s.modPort p fun q => { q with link := .lost, silence := none }) [.linkLost p] [.linkLost, .listFull] := by
    refine ⟨rfl, fun q n _ => ?_⟩
    by_cases e : q = p
    · subst e; rw [State.modPort_port_self]; exact ⟨rfl, rfl⟩
    · rw [State.modPort_port_other _ _ e]; exact ⟨rfl, rfl⟩
  have h2 := h1.trans (State.raiseAlarm_keepsRest (k := .linkLost p) _ (List.mem_singleton_self _) rfl
    (List.mem_cons_of_mem _ (List.mem_singleton_self _)) none)
  exact h2.trans (State.raiseAll_keepsRest _ (List.mem_cons_self ..))

/-- R160: the loss of a link reaches the rows of the zones alone, by the end of the boosts. -/
theorem State.portLost_inEvaluator (s : State) (p : Port) : s.InEvaluator (s.portLost p) := by
  cases p with
  | building => exact s.endBoosts_inEvaluator
  | alarm | override => exact .refl s
theorem State.portLost_heads (s : State) (p : Port) : (s.portLost p).heads = s.heads := by
  cases p with
  | building => exact s.endBoosts_heads
  | alarm | override => rfl
theorem State.portLost_quiet (s : State) (p : Port) : s.Quiet (s.portLost p) := by
  cases p with
  | building => exact s.endBoosts_quiet
  | alarm | override => exact .refl s

theorem State.endBoosts_zone (s : State) (z : ZoneId) :
    s.endBoosts.zone z = if (s.zone z).boost.isSome then (s.setBoost z none).zone z else s.zone z :=
  State.eachZone_setBoost_zone (fun q _ => q.boost.isSome) none s z

/-- Settles O48: the port's own loss, and then the end of the boosts where it is the building link. -/
theorem silenceLosesTheLink : Obligations.SilenceLosesTheLink := by
  unfold Obligations.SilenceLosesTheLink
  intro p s hs
  obtain ⟨hz, hplant, hfans, hline⟩ := s.linkLost_blocks p
  have hl := s.linkLost_lasting p
  have hk := s.linkLost_keepsRest p
  have hn : (s.linkLost p).noticedByAll .linkLost := State.raiseAll_noticedByAll _ _
  have ha : (s.linkLost p).alarms = s.alarms.raise (.linkLost p) none s.partTime := by
    rw [State.linkLost, State.raiseAll_alarms, State.raiseAlarm_alarms]; rfl
  have he : exec (.silenceTimerExpiry p) s = .next (State.finish ((s.linkLost p).portLost p)) := by
    show execSilenceTimerExpiry p s = _
    rw [execSilenceTimerExpiry, if_pos hs, State.linkGone_eq]
  generalize s.linkLost p = v at *
  have hE := v.portLost_inEvaluator p
  have hQ := v.portLost_quiet p
  have hrow : ∀ y, v.zone y = s.zone y := fun y => by simp only [State.zone, hz]
  refine ⟨v.portLost p, he, ?_, hE.plant.trans hplant, hE.fans.trans hfans, hE.line.trans hline, fun q => ?_,
    hk.trans (hQ.keepsRest _ _), fun _ hr => ?_, fun hp => ?_, fun hp z => ?_⟩
  · rw [hE.of_heads (v.portLost_heads p), hl]
  · simpa only [State.noticed, State.port, hQ.2] using hn q
  · rw [hQ.1, ha]; exact AlarmList.raise_hasActive (.inr hr) none _
  · cases p with
    | building => exact absurd rfl hp
    | alarm | override => exact hz
  · subst hp
    have hv : (v.portLost .building).zone z = if (v.zone z).boost.isSome then (v.setBoost z none).zone z else v.zone z :=
      v.endBoosts_zone z
    rw [hv, hrow]
    refine ⟨fun hb => by rw [hb]; rfl, fun hb => ?_⟩
    rw [if_pos hb, ← hrow]
    exact v.setBoost_follows z none

end

end Sys2Proof.Machine

/-! ## The reply timeout (R13, R15, R150, R151, R153) -/

namespace Sys2Proof.Machine

section
variable {s t u w : State} {d : Device} {h : HeadId} {n : FanId} {z : ZoneId}

/-! ### The miss counted -/

/-- R15: a head's record with one miss more. -/
def Head.counted (q : Head) : Head := { q with misses := if q.misses < 65535 then q.misses + 1 else q.misses }

/-- R150: the part with one miss of a device counted, its link and the queue given, and no exchange in flight. -/
def State.afterMiss (s : State) (d : Device) (link : Link) (queue : List Order) : State :=
  { s with
    heads := match d with
      | .head h => upd s.heads h Head.counted
      | .drive _ | .extract _ | .makeUp _ => s.heads
    line := { s.line with links := upd s.line.links d.place fun _ => link, queue := queue, inFlight := none } }

/-- R150 step 1: a count of misses that holds at 3. -/
def Link.counted (k : Link) : Link := { k with misses := if k.misses < 3 then k.misses + 1 else k.misses }

theorem State.missCounted_eq (s : State) (d : Device) :
    (s.endExchange.countMiss d).countTotal d = s.afterMiss d (s.link d).counted s.line.queue := by
  cases d <;> rfl

theorem State.afterMiss_link (s : State) (d : Device) (link : Link) (queue : List Order) :
    (s.afterMiss d link queue).link d = link := upd_get_self _ _ _

theorem State.afterMiss_head (s : State) (h j : HeadId) (link : Link) (queue : List Order) :
    (s.afterMiss (.head h) link queue).head j = if j = h then (s.head h).counted else s.head j := upd_get _ _ _ _

theorem State.afterMiss_deviceFitted (s : State) (d e : Device) (link : Link) (queue : List Order) :
    (s.afterMiss d link queue).deviceFitted e = s.deviceFitted e := by
  cases e with
  | head j =>
    cases d with
    | head h =>
      simp only [State.deviceFitted, State.afterMiss_head]
      split
      · rename_i e; rw [e]; rfl
      · rfl
    | drive | extract | makeUp => rfl
  | drive | extract | makeUp => cases d <;> rfl

theorem Link.counted_lostNow (k : Link) : k.counted.lostNow = true ↔ 2 ≤ k.misses ∧ k.lost = false := by
  have hm : 3 ≤ k.counted.misses ↔ 2 ≤ k.misses := by
    simp only [Link.counted]
    split <;> omega
  have hl : k.counted.lost = k.lost := rfl
  simp [Link.lostNow, hl, Config.missLimit, hm]

/-- R150 step 4: the queue once the command that timed out is queued again. -/
def State.requeued (s : State) (d : Device) (link : Link) : Option Order → List Order
  | none => s.line.queue
  | some o =>
    if (∃ x ∈ s.line.queue, x.device = d) ∨ s.deviceFitted d = false ∨ link.lost = true then s.line.queue
    else s.line.queue ++ [o]

theorem State.requeue_afterMiss (s : State) (d : Device) (link : Link) (order : Option Order)
    (ho : ∀ o, order = some o → o.device = d) :
    (s.afterMiss d link s.line.queue).requeue order = s.afterMiss d link (s.requeued d link order) := by
  match order with
  | none => rfl
  | some o =>
    have hd : o.device = d := ho o rfl
    have hq : (s.line.queue.any fun x => x.device == o.device) = true ↔ ∃ x ∈ s.line.queue, x.device = d := by
      simp [List.any_eq_true, hd]
    have hline : (s.afterMiss d link s.line.queue).line.queue = s.line.queue := rfl
    unfold State.requeue State.requeued
    simp only [hline]
    by_cases h1 : ∃ x ∈ s.line.queue, x.device = d
    · rw [if_pos (hq.2 h1), if_pos (.inl h1)]
    · rw [if_neg (mt hq.1 h1)]
      have he : enter s.line.queue o = s.line.queue ++ [o] := by
        unfold enter; rw [if_neg (mt hq.1 h1)]
      unfold State.enqueue
      rw [hd, State.afterMiss_deviceFitted, State.afterMiss_link]
      by_cases h2 : s.deviceFitted d = false ∨ link.lost = true
      · have hf : (s.deviceFitted d && !link.lost) = false := by rcases h2 with h | h <;> simp [h]
        rw [hf, if_neg Bool.false_ne_true, if_pos (.inr h2)]
      · have hf : (s.deviceFitted d && !link.lost) = true := by simpa using h2
        rw [hf, if_pos rfl, if_neg (not_or.2 ⟨h1, h2⟩), ← he]
        rfl

/-- R151: the queued command of a lost device is dropped. -/
theorem State.markLost_afterMiss (s : State) (d : Device) (link : Link) : (s.afterMiss d link s.line.queue).markLost d =
    s.afterMiss d ⟨3, true⟩ (s.line.queue.filter fun o => o.device ≠ d) := by
  have hq : dropFor d s.line.queue = s.line.queue.filter fun o => o.device ≠ d := by
    unfold dropFor
    exact List.filter_congr fun o _ => Bool.eq_iff_iff.2 (by simp)
  rw [← hq]
  simp [State.markLost, State.modLine, State.afterMiss, FieldLine.setLink, upd, Config.missLimit]

/-! ### The owners' losses -/

theorem State.Faults.from (hF : w.Faults u k e) (q : s.Quiet w) (ht : w.partTime = s.partTime) : s.Faults u k e := by
  have hr := q.raiseAlarm ht k e
  exact ⟨hF.1.trans hr.1, hF.2.trans (by rw [State.raiseAll_ports, State.raiseAll_ports, hr.2])⟩

theorem State.refreshZone_alloc (s : State) (z : ZoneId) : (s.refreshZone z).alloc =
    { s.alloc with due := s.alloc.due || ((s.refreshZone z).zone z).demand != (s.zone z).demand } := by
  have hd : ((s.refreshGas z).zone z).demand = (s.zone z).demand := by rw [State.refreshGas_zone, if_pos rfl]; rfl
  rw [State.refreshZone, State.retarget_alloc, hd]
  rfl

theorem State.headFault_blocks (s : State) (h : HeadId) : (s.headFault h).zones = s.zones ∧ (s.headFault h).heads = s.heads ∧
    (s.headFault h).alloc = s.alloc := by
  unfold State.headFault State.raiseAlarm
  split <;> exact ⟨rfl, rfl, rfl⟩

/-- R13, R16 to R20: what the loss of a head does to the rows, the allocator, the alarm list and the ports. -/
theorem State.loseHead_effect (w : State) (h : HeadId) :
    (w.loseHead h).head h = { w.head h with state := .missing, co := none, no2 := none } ∧
    (∀ j, j ≠ h → (w.loseHead h).head j = w.head j) ∧
    (∀ y, y ≠ (w.head h).config.zone → (w.loseHead h).zone y = w.zone y) ∧
    (w.loseHead h).WorkedOut (w.head h).config.zone (w.zone (w.head h).config.zone) ∧
    (w.loseHead h).alloc = { w.alloc with due := w.alloc.due ||
      ((w.loseHead h).zone (w.head h).config.zone).demand != (w.zone (w.head h).config.zone).demand } ∧
    ((w.head h).state = .missing → w.Quiet (w.loseHead h)) ∧
    ((w.head h).state ≠ .missing → w.Faults (w.loseHead h) (.headFault h) none) := by
  have hq := w.modHead_quiet h fun q => { q with state := .missing, co := none, no2 := none }
  have hh := fun j => w.modHead_head h j fun q => { q with state := .missing, co := none, no2 := none }
  have hz : ∀ y, (w.modHead h fun q => { q with state := .missing, co := none, no2 := none }).zone y = w.zone y := fun _ => rfl
  have ha : (w.modHead h fun q => { q with state := .missing, co := none, no2 := none }).alloc = w.alloc := rfl
  have ht : (w.modHead h fun q => { q with state := .missing, co := none, no2 := none }).partTime = w.partTime := rfl
  unfold State.loseHead
  simp only
  generalize (w.modHead h fun q => { q with state := .missing, co := none, no2 := none }) = m at *
  have hv : ∃ v : State, (if (w.head h).state = .missing then m else m.headFault h) = v ∧ (∀ j, v.head j = m.head j) ∧
      (∀ y, v.zone y = w.zone y) ∧ v.alloc = w.alloc ∧ ((w.head h).state = .missing → w.Quiet v) ∧
      ((w.head h).state ≠ .missing → w.Faults v (.headFault h) none) := by
    refine ⟨_, rfl, ?_⟩
    split
    · rename_i e
      exact ⟨fun _ => rfl, hz, ha, fun _ => hq, fun k => absurd e k⟩
    · rename_i e
      obtain ⟨h1, h2, h3⟩ := m.headFault_blocks h
      exact ⟨fun j => by simp only [State.head, h2], fun y => (by simp only [State.zone, h1] : _ = m.zone y).trans (hz y), h3.trans ha,
        fun k => absurd k e, fun _ => State.Faults.of_raise hq ht⟩
  obtain ⟨v, e, h1, h2, h3, h4, h5⟩ := hv
  rw [e]
  have hr : ∀ j, (v.refreshZone (w.head h).config.zone).head j = m.head j := fun j => by
    rw [← h1]; simp [State.head]
  refine ⟨by rw [hr, hh, if_pos rfl], fun j hj => by rw [hr, hh, if_neg hj], fun y hy => ?_, ?_, ?_,
    fun k => (h4 k).trans (v.refreshZone_quiet _), fun k => (h5 k).quiet (v.refreshZone_quiet _)⟩
  · rw [State.refreshZone_zone_other _ hy, h2]
  · rw [← h2]; exact v.refreshZone_workedOut _
  · rw [State.refreshZone_alloc, h3, h2]

/-- R89, R91: the loss of a fan of the group READY, STARTING and RUNNING is an eligibility change. -/
theorem State.loseFan_line_due (w : State) (n : FanId) (h : (w.fan n).state ≠ .absent) (h' : (w.fan n).state ≠ .lost) :
    (w.loseFan n).line = w.line ∧ ((w.fan n).state.inGroup = true → (w.loseFan n).alloc.due = true) := by
  unfold State.loseFan
  rw [if_neg (by simp [h, h'])]
  refine ⟨?_, fun hg => ?_⟩
  · rw [State.raiseAll_line, State.raiseAlarm_line, State.enterState, State.triggerIf_line]; rfl
  · rw [State.raiseAll_alloc, State.raiseAlarm_alloc, State.enterState, State.triggerIf_eq, State.modFan_fan_self]
    have he : eligibilityMove w.resolver.smoke (w.fan n).state .lost = true := by
      unfold eligibilityMove; rw [hg]; rfl
    exact (congrArg (w.alloc.due || ·) he).trans (Bool.or_true _)

/-- R135, R137: every entry of a kind and source raised carries the detail given. -/
theorem AlarmList.raise_detail {a : AlarmList} {k : AlarmKey} (hk : k.isFire = false) (e : Option FanDetail) (t : Nat) :
    ∀ x ∈ (a.raise k e t).entries, x.key = k → x.detail = e := by
  intro x hx hxk
  unfold AlarmList.raise at hx
  split at hx
  · simp only [AlarmList.raiseInPlace, AlarmList.advance, List.mem_map] at hx
    obtain ⟨y, _, rfl⟩ := hx
    split at hxk
    · rw [if_pos ‹_›]; rfl
    · exact absurd hxk ‹_›
  · rename_i hn
    have hno : ∀ y ∈ a.entries, y.key ≠ k := by
      simpa [AlarmList.has] using hn
    split at hx
    · simp only [AlarmList.append, AlarmList.advance, List.mem_append, List.mem_singleton] at hx
      rcases hx with hx | rfl
      · exact absurd hxk (hno x hx)
      · rfl
    · rw [hk] at hx
      exact absurd hxk (hno x hx)

end

end Sys2Proof.Machine

/-! ## O43: the miss and the loss, device by device -/

namespace Sys2Proof.Machine

section
variable {s u w : State}

/-- R135, R151: the entry of a loss, of the state that counted the miss and of the one before. -/
theorem State.Faults.lossListed {k : AlarmKey} {e : Option FanDetail} (hF : w.Faults u k e) (q : s.Quiet w)
    (ht : w.partTime = s.partTime) : s.Faults u k e ∧ u.noticedByAll .deviceFault ∧
      (s.alarms.has k = true ∨ s.alarms.entries.length < 32 → u.alarms.hasActive k = true) :=
  ⟨hF.from q ht, hF.noticedByAll, fun hr => (hF.from q ht).hasActive hr⟩

/-- Settles O43: a miss counted and the command queued again, or the loss handed to its owner. -/
theorem replyTimeoutCountsMisses : Obligations.ReplyTimeoutCountsMisses := by
  unfold Obligations.ReplyTimeoutCountsMisses
  intro d order s ho
  refine ⟨fun hx => ?_, fun hx => ?_⟩
  · show execReplyTimeout s = _
    unfold execReplyTimeout
    rw [hx]
    rfl
  have he : exec .replyTimeout s = .next (State.finish ((s.afterMiss d (s.link d).counted s.line.queue).judgeMiss d order)) := by
    show execReplyTimeout s = _
    unfold execReplyTimeout
    rw [hx]
    simp only [State.missed, Bool.false_eq_true, if_false, State.missCounted_eq]
  unfold State.judgeMiss at he
  rw [State.afterMiss_link] at he
  refine ⟨fun hk => ?_, fun h2 hl => ?_⟩
  · have hn : ¬(s.link d).counted.lostNow = true := fun k => by
      obtain ⟨k1, k2⟩ := (Link.counted_lostNow _).1 k
      rcases hk with h | h
      · omega
      · rw [k2] at h; cases h
    rw [if_neg hn, s.requeue_afterMiss d _ order ho] at he
    rw [he]
    refine congrArg (fun q : State => Host.Outcome.next q.finish) ?_
    cases d <;> cases order <;> rfl
  · rw [if_pos ((Link.counted_lostNow _).2 ⟨h2, hl⟩), State.markLost_afterMiss] at he
    cases d with
    | head h =>
      have hw : ∀ q, (s.afterMiss (.head h) ⟨3, true⟩ q).head h = (s.head h).counted := fun q => by
        rw [State.afterMiss_head, if_pos rfl]
      have hE := (s.afterMiss (.head h) ⟨3, true⟩ (s.line.queue.filter fun o => o.device ≠ .head h)).loseHead_inEvaluator h
      obtain ⟨h1, h3, h4, h5, h6, h7, h8⟩ :=
        (s.afterMiss (.head h) ⟨3, true⟩ (s.line.queue.filter fun o => o.device ≠ .head h)).loseHead_effect h
      rw [hw] at h1 h4 h5 h6 h7 h8
      refine ⟨_, he, hE.lasting, hE.plant, hE.fans, hE.line, h1, fun j hj => (h3 j hj).trans ?_, h4, h5, h6, h7,
        fun k => (h8 k).lossListed ⟨rfl, rfl⟩ rfl⟩
      rw [State.afterMiss_head, if_neg hj]
    | drive n =>
      have hq : s.Quiet (s.afterMiss (.drive n) ⟨3, true⟩ (s.line.queue.filter fun o => o.device ≠ .drive n)) := ⟨rfl, rfl⟩
      refine ⟨fun hs => ?_, fun h3 h4 => ?_⟩
      · rw [he]
        exact congrArg (fun q : State => Host.Outcome.next q.finish) (if_pos hs)
      · obtain ⟨h5, h6⟩ := State.loseFan_line_due (s.afterMiss (.drive n) ⟨3, true⟩ _) n h3 h4
        have hF := (State.loseFan_faults (s.afterMiss (.drive n) ⟨3, true⟩ _) n h3 h4).lossListed hq rfl
        refine ⟨_, he, State.loseFan_onlyFan _ n, h5, State.loseFan_fan _ n h3 h4, fun hs => h6 ?_, hF, fun x hx hk => ?_⟩
        · change (s.fan n).state.inGroup = true
          simp only [List.mem_cons, List.not_mem_nil, or_false] at hs
          rcases hs with h | h | h <;> rw [h] <;> rfl
        · have ha := hF.1.1
          rw [State.raiseAlarm_alarms] at ha
          exact AlarmList.raise_detail rfl _ _ x (ha ▸ hx) hk
    | extract z =>
      have hq : s.Quiet ((s.afterMiss (.extract z) ⟨3, true⟩ (s.line.queue.filter fun o => o.device ≠ .extract z)).modExtract z
        fun d => { d with state := .lost, timer := none }) := ⟨rfl, rfl⟩
      refine ⟨fun hs => ?_, fun h3 => ?_⟩
      · rw [he]
        exact congrArg (fun q : State => Host.Outcome.next q.finish) (if_pos hs)
      · refine ⟨_, he.trans (congrArg (fun q : State => Host.Outcome.next q.finish) (if_neg h3)),
          (State.modExtract_onlyExtract _ z _).trans (State.damperFault_onlyExtract _ z _), State.damperFault_line _ _, ?_,
          (State.Faults.of_raise (.refl _) rfl).lossListed hq rfl⟩
        rw [State.damperFault_extractOf, State.modExtract_extractOf_self]
        rfl
    | makeUp z =>
      have hq : s.Quiet ((s.afterMiss (.makeUp z) ⟨3, true⟩ (s.line.queue.filter fun o => o.device ≠ .makeUp z)).modMakeUp z
        fun m => { m with state := .lost, timer := none }) := ⟨rfl, rfl⟩
      refine ⟨fun hs => ?_, fun h3 => ?_⟩
      · rw [he]
        exact congrArg (fun q : State => Host.Outcome.next q.finish) (if_pos hs)
      · refine ⟨_, he.trans (congrArg (fun q : State => Host.Outcome.next q.finish) (if_neg h3)),
          (State.modMakeUp_onlyMakeUp _ z _).trans (State.damperFault_onlyMakeUp _ z _), State.damperFault_line _ _, ?_,
          (State.Faults.of_raise (.refl _) rfl).lossListed hq rfl⟩
        rw [State.damperFault_makeUpOf, State.modMakeUp_makeUpOf_self]
        rfl

end

end Sys2Proof.Machine

/-! ## The links of the devices through a pass (R113, R149 to R153) -/

namespace Sys2Proof.Machine

variable {s t u : State} {n : FanId} {z : ZoneId}

/-- R150: the misses and the lost marks of the devices stay. -/
def State.SameLinks (s t : State) : Prop := t.line.links = s.line.links

theorem State.SameLinks.refl (s : State) : s.SameLinks s := rfl
theorem State.SameLinks.trans (h : s.SameLinks t) (k : t.SameLinks u) : s.SameLinks u := Eq.trans k h
theorem State.SameLinks.link (h : s.SameLinks t) (d : Device) : t.link d = s.link d := by
  unfold State.SameLinks at h
  simp only [State.link, h]

variable (s)

theorem State.enqueue_sameLinks (o : Order) : s.SameLinks (s.enqueue o) := by
  unfold State.enqueue; split <;> rfl
theorem State.modFan_sameLinks (n : FanId) (f : Fan → Fan) : s.SameLinks (s.modFan n f) := rfl
theorem State.enterState_sameLinks (n : FanId) (st : FanState) (x : Option Nat) : s.SameLinks (s.enterState n st x) := by
  unfold State.enterState State.triggerIf; split <;> rfl
theorem State.queueRun_sameLinks (n : FanId) : s.SameLinks (s.queueRun n) :=
  (s.modFan_sameLinks n _).trans (State.enqueue_sameLinks _ _)
theorem State.queueStop_sameLinks (n : FanId) : s.SameLinks (s.queueStop n) :=
  (s.modFan_sameLinks n _).trans (State.enqueue_sameLinks _ _)
theorem State.startIfAllowed_sameLinks (n : FanId) : s.SameLinks (s.startIfAllowed n) := by
  unfold State.startIfAllowed
  split
  · exact ((s.modFan_sameLinks n _).trans (State.enterState_sameLinks _ n _ _)).trans (State.queueRun_sameLinks _ n)
  · exact .refl s
theorem State.enterReady_sameLinks (n : FanId) : s.SameLinks (s.enterReady n) :=
  (s.enterState_sameLinks n .ready none).trans (State.startIfAllowed_sameLinks _ n)
theorem State.calledFor_sameLinks (n : FanId) : s.SameLinks (s.calledFor n) := by
  unfold State.calledFor
  split
  · exact (s.modFan_sameLinks n _).trans (State.startIfAllowed_sameLinks _ n)
  · simp only
    split
    · exact (s.modFan_sameLinks n _).trans (State.enterReady_sameLinks _ n)
    · exact s.modFan_sameLinks n _
  · split
    · exact s.queueRun_sameLinks n
    · exact .refl s
  · split
    · exact s.queueRun_sameLinks n
    · exact .refl s
  · exact .refl s
theorem State.notCalledFor_sameLinks (n : FanId) : s.SameLinks (s.notCalledFor n) := by
  unfold State.notCalledFor
  split
  · exact s.modFan_sameLinks n _
  · exact s.modFan_sameLinks n _
  · exact s.modFan_sameLinks n _
  · exact (s.queueStop_sameLinks n).trans (State.enterState_sameLinks _ n _ _)
  · exact (s.queueStop_sameLinks n).trans (State.enterState_sameLinks _ n _ _)
  · exact .refl s
theorem State.eachFan_sameLinks (f : State → FanId → State) (h : ∀ (s : State) (n : FanId), s.SameLinks (f s n)) : s.SameLinks (s.eachFan f) :=
  foldl_keeps (P := s.SameLinks) (fun q n k => k.trans (h q n)) _ s (.refl s)
theorem State.eachZone_sameLinks (f : State → ZoneId → State) (h : ∀ (s : State) (z : ZoneId), s.SameLinks (f s z)) : s.SameLinks (s.eachZone f) :=
  foldl_keeps (P := s.SameLinks) (fun q z k => k.trans (h q z)) _ s (.refl s)
theorem State.fanTakes_sameLinks (n : FanId) : s.SameLinks (s.fanTakes n) := by
  unfold State.fanTakes
  split
  · exact s.calledFor_sameLinks n
  · exact s.notCalledFor_sameLinks n
theorem State.turnDuty_sameLinks (old : AllocRecord) : s.SameLinks (s.turnDuty old) := by
  unfold State.turnDuty
  split
  · rfl
  · exact .refl s
theorem State.takeRunSet_sameLinks (old : AllocRecord) : s.SameLinks (s.takeRunSet old) :=
  (s.eachFan_sameLinks State.fanTakes fun q n => q.fanTakes_sameLinks n).trans (State.turnDuty_sameLinks _ old)

theorem State.pathGained_sameLinks : s.SameLinks s.pathGained := by
  refine State.SameLinks.trans (t := { s with grace := none }) rfl (State.eachFan_sameLinks _ _ fun q n => ?_)
  split
  · exact q.startIfAllowed_sameLinks n
  · exact .refl q
theorem State.pathLost_sameLinks : s.SameLinks s.pathLost := by
  unfold State.pathLost
  split
  · split <;> rfl
  · rfl
theorem State.trigger_sameLinks : s.SameLinks s.trigger := rfl
theorem State.reprove_sameLinks : s.SameLinks s.reprove := by
  unfold State.reprove
  split
  · exact .refl s
  · split
    · exact (State.SameLinks.trans (t := { s with pathProven := true }) rfl (State.pathGained_sameLinks _)).trans
        (State.trigger_sameLinks _)
    · exact (State.SameLinks.trans (t := { s with pathProven := false }) rfl (State.pathLost_sameLinks _)).trans
        (State.trigger_sameLinks _)

theorem State.driveExtract_sameLinks (z : ZoneId) : s.SameLinks (s.driveExtract z) :=
  State.SameLinks.trans (t := s.modExtract z _) rfl (State.enqueue_sameLinks _ _)
theorem State.driveMakeUp_sameLinks (z : ZoneId) : s.SameLinks (s.driveMakeUp z) :=
  State.SameLinks.trans (t := s.modMakeUp z _) rfl (State.enqueue_sameLinks _ _)
theorem State.extractTakes_sameLinks (z : ZoneId) : s.SameLinks (s.extractTakes z) := by
  unfold State.extractTakes State.commandExtract
  split
  · split
    · exact .refl s
    · split
      · rfl
      · exact State.SameLinks.trans (t := s.modExtract z _) rfl (State.driveExtract_sameLinks _ z)
  · exact .refl s
theorem State.makeUpTakes_sameLinks (z : ZoneId) : s.SameLinks (s.makeUpTakes z) := by
  unfold State.makeUpTakes State.commandMakeUp
  split
  · split
    · exact .refl s
    · split
      · rfl
      · exact State.SameLinks.trans (t := s.modMakeUp z _) rfl (State.driveMakeUp_sameLinks _ z)
  · exact .refl s
theorem State.takeCommands_sameLinks : s.SameLinks s.takeCommands :=
  ((s.eachZone_sameLinks _ fun q z => q.extractTakes_sameLinks z).trans
    (State.eachZone_sameLinks _ _ fun q z => q.makeUpTakes_sameLinks z)).trans (State.reprove_sameLinks _)
theorem State.putRecord_sameLinks (r : AllocRecord) (x : Option Nat) : s.SameLinks (s.putRecord r x) := by
  unfold State.putRecord
  simp only
  split <;> rfl
theorem State.pass_sameLinks (b : Bool) : s.SameLinks (s.pass b) :=
  ((s.putRecord_sameLinks _ _).trans (State.takeCommands_sameLinks _)).trans (State.takeRunSet_sameLinks _ _)
theorem State.chain_sameLinks (k : Nat) : s.SameLinks (s.chain k) := by
  induction k generalizing s with
  | zero => exact .refl s
  | succ k ih =>
    unfold State.chain
    split
    · exact (s.pass_sameLinks false).trans (ih _)
    · exact .refl s
/-- R113, R148: the passes and the choice of the next exchange leave the links. -/
theorem State.finish_sameLinks : s.SameLinks s.finish :=
  (s.chain_sameLinks _).trans (FieldLine.choose_links _ _).1

end Sys2Proof.Machine

/-! ## A head's reply, whatever its status (R11 to R21) -/

namespace Sys2Proof.Machine

section
variable {s u : State} {h : HeadId} {z : ZoneId} {status : Byte} {co no2 : Word}

/-! ### The head -/

theorem headStatusOf_eq (b : Byte) : headStatusOf b = if b = 0 then .warmUp else if b = 1 then .ok else .fault := by
  have h0 : b = 0 ↔ b.toNat = 0 := ⟨fun h => by rw [h]; rfl, fun h => BitVec.eq_of_toNat_eq h⟩
  have h1 : b = 1 ↔ b.toNat = 1 := ⟨fun h => by rw [h]; rfl, fun h => BitVec.eq_of_toNat_eq h⟩
  simp only [h0, h1]
  unfold headStatusOf
  split
  · rename_i e; rw [if_pos e]
  · rename_i e; rw [if_neg (by omega), if_pos e]
  · rename_i e1 e2; rw [if_neg e1, if_neg e2]

/-- R11, R12: a head's record after a reply. -/
def Head.replied (q : Head) (status : Byte) (co no2 : Word) : Head :=
  if status = 0 then ⟨q.config, .unknown, none, none, q.misses⟩
  else if status = 1 then
    ⟨q.config, .valid, keptReading q.config.carries .co 1000 co, keptReading q.config.carries .no2 300 no2, q.misses⟩
  else ⟨q.config, .sensorFault, none, none, q.misses⟩

/-- R24: the reading of a gas that a reply applies to the counts. -/
def HeadConfig.readingOf (k : HeadConfig) (status : Byte) (co no2 : Word) : Gas → Option Nat
  | .co => if status = 1 then keptReading k.carries .co 1000 co else none
  | .no2 => if status = 1 then keptReading k.carries .no2 300 no2 else none

/-- R12: the reply is the head's own: its state, its readings and its entry. -/
def State.headTaken (s : State) (h : HeadId) (status : Byte) (co no2 : Word) : State :=
  match headStatusOf status with
  | .ok => s.headOk h co no2
  | .warmUp => s.headWarms h
  | .fault => s.headFaults h

/-- R21: the steps of a reply in order, the same for every status. -/
theorem State.headReplied_eq (s : State) (h : HeadId) (status : Byte) (co no2 : Word) : s.headReplied h status co no2 =
    (((((s.headTaken h status co no2).refreshGas (s.head h).config.zone).countReading (s.head h).config.zone .co
      ((s.head h).config.readingOf status co no2 .co)).countReading (s.head h).config.zone .no2
      ((s.head h).config.readingOf status co no2 .no2)).retarget (s.head h).config.zone) := by
  unfold State.headReplied State.headTaken HeadConfig.readingOf
  rw [headStatusOf_eq]
  by_cases h0 : status = 0
  · have h1 : status ≠ 1 := by rw [h0]; decide
    simp only [h0, if_true, show ((0 : Byte) = 1) = False from by simp, if_false]
    rfl
  · by_cases h1 : status = 1
    · have e1 : ((s.headOk h co no2).head h).co = keptReading (s.head h).config.carries .co 1000 co := by
        unfold State.headOk; rw [State.clearAlarm_head, State.modHead_head_self]
      have e2 : ((s.headOk h co no2).head h).no2 = keptReading (s.head h).config.carries .no2 300 no2 := by
        unfold State.headOk; rw [State.clearAlarm_head, State.modHead_head_self]
      simp only [if_neg h0, if_pos h1]
      unfold State.okReply
      simp only [e1, e2]
    · simp only [if_neg h0, if_neg h1]
      rfl

theorem State.headTaken_head (s : State) (h j : HeadId) (status : Byte) (co no2 : Word) :
    (s.headTaken h status co no2).head j = if j = h then (s.head h).replied status co no2 else s.head j := by
  unfold State.headTaken Head.replied
  rw [headStatusOf_eq]
  by_cases h0 : status = 0
  · simp only [if_pos h0]
    exact s.modHead_head h j _
  · by_cases h1 : status = 1
    · simp only [if_neg h0, if_pos h1]
      exact s.modHead_head h j _
    · simp only [if_neg h0, if_neg h1]
      unfold State.headFaults State.headFault
      simp only
      split
      · exact s.modHead_head h j _
      · rw [State.raiseAll_head, State.raiseAlarm_head]; exact s.modHead_head h j _

theorem State.headTaken_zones (s : State) (h : HeadId) (status : Byte) (co no2 : Word) :
    (s.headTaken h status co no2).zones = s.zones ∧ (s.headTaken h status co no2).alloc = s.alloc := by
  unfold State.headTaken
  split
  · exact ⟨rfl, rfl⟩
  · exact ⟨rfl, rfl⟩
  · unfold State.headFaults
    simp only
    split
    · exact ⟨rfl, rfl⟩
    · obtain ⟨h1, _, h3⟩ := (s.modHead h fun q => { q with state := .sensorFault, co := none, no2 := none }).headFault_blocks h
      exact ⟨h1, h3⟩

theorem State.headTaken_zone (s : State) (h : HeadId) (status : Byte) (co no2 : Word) (y : ZoneId) :
    (s.headTaken h status co no2).zone y = s.zone y := by
  simp only [State.zone, (s.headTaken_zones h status co no2).1]

/-- R11, R14: what a reply does to the head's own entry and to the notices. -/
theorem State.headTaken_keepsRest (s : State) (h : HeadId) (status : Byte) (co no2 : Word) {ks : List AlarmKey} {ns : List Notice}
    (hk : .headFault h ∈ ks) (h1 : .deviceFault ∈ ns) (h2 : .listFull ∈ ns) : s.KeepsRest (s.headTaken h status co no2) ks ns := by
  have hq : ∀ f : Head → Head, s.KeepsRest (s.modHead h f) ks ns := fun f => (s.modHead_quiet h f).keepsRest _ _
  unfold State.headTaken
  split
  · exact (hq _).trans (State.clearAlarm_keepsRest _ hk)
  · exact hq _
  · unfold State.headFaults
    simp only
    split
    · exact hq _
    · exact ((hq _).trans (State.raiseAlarm_keepsRest _ hk rfl h2 none)).trans (State.raiseAll_keepsRest _ h1)

theorem State.headTaken_faults (s : State) (h : HeadId) (co no2 : Word) (h0 : status ≠ 0) (h1 : status ≠ 1)
    (hs : (s.head h).state ≠ .sensorFault) : s.Faults (s.headTaken h status co no2) (.headFault h) none := by
  unfold State.headTaken
  rw [headStatusOf_eq, if_neg h0, if_neg h1]
  show s.Faults (s.headFaults h) _ _
  unfold State.headFaults
  simp only
  rw [if_neg hs]
  exact State.Faults.of_raise (s.modHead_quiet h _) rfl

theorem State.headTaken_ok (s : State) (h : HeadId) (co no2 : Word) :
    (s.headTaken h 1 co no2).alarms = s.alarms.clear (.headFault h) s.partTime := rfl

/-! ### The zone -/

/-- R24: the row of a zone once the readings of a reply have been counted. -/
def State.countedRow (m : State) (z : ZoneId) (v : Gas → Option Nat) : Zone :=
  ((m.rowNow z (m.zone z)).counted .co (v .co)).counted .no2 (v .no2)

theorem State.headReplied_zone (s : State) (h : HeadId) (status : Byte) (co no2 : Word) (y : ZoneId) :
    (s.headReplied h status co no2).zone y =
      if y = (s.head h).config.zone then
        ((s.headTaken h status co no2).countedRow (s.head h).config.zone ((s.head h).config.readingOf status co no2)).follow
          ((s.headTaken h status co no2).countedRow (s.head h).config.zone ((s.head h).config.readingOf status co no2)).targetNow
      else s.zone y := by
  rw [State.headReplied_eq]
  simp only [State.retarget_zone, State.countReading_zone, State.refreshGas_zone, if_true]
  split
  · rfl
  · exact s.headTaken_zone h status co no2 y

theorem State.headReplied_heads (s : State) (h : HeadId) (status : Byte) (co no2 : Word) :
    (s.headReplied h status co no2).heads = (s.headTaken h status co no2).heads := by
  rw [State.headReplied_eq]; simp

/-- R24: of a row the readings of a reply change the counts, the gas-high states and the event count alone. -/
theorem State.countedRow_eq (m : State) (z : ZoneId) (v : Gas → Option Nat) : m.countedRow z v =
    { m.zone z with co := (m.countedRow z v).co, no2 := (m.countedRow z v).no2, highEvents := (m.countedRow z v).highEvents } := by
  unfold State.countedRow
  rw [Zone.counted_eq, Zone.counted_eq]
  rfl

theorem State.GasesSound.retarget (k : s.GasesSound z) : (s.retarget z).GasesSound z := fun g => by
  have hz : (s.retarget z).zone z = (s.zone z).follow (s.zone z).targetNow := by rw [State.retarget_zone, if_pos rfl]
  have hg : ((s.retarget z).zone z).gas g = (s.zone z).gas g := by rw [hz, Zone.follow_eq]; cases g <;> rfl
  rw [hg]
  exact (k g).congr (fun j _ => .of_eq (by simp [State.head])) (by simp)

/-- R16 to R20: the zone of a head that has replied is worked out again. -/
theorem State.headReplied_workedOut (s : State) (h : HeadId) (status : Byte) (co no2 : Word) :
    let z := (s.head h).config.zone
    let u := s.headReplied h status co no2
    u.WorkedOut z { s.zone z with co := (u.zone z).co, no2 := (u.zone z).no2, highEvents := (u.zone z).highEvents } := by
  intro z u
  refine ⟨?_, ?_⟩
  · show u.GasesSound z
    have hu : u = _ := s.headReplied_eq h status co no2
    rw [hu]
    exact (((State.refreshGas_gases _ z).countReading .co _).countReading .no2 _).retarget
  · have hr : u.zone z = _ := s.headReplied_zone h status co no2 z
    rw [if_pos rfl] at hr
    have hc := (s.headTaken h status co no2).countedRow_eq z ((s.head h).config.readingOf status co no2)
    rw [State.headTaken_zone] at hc
    have hf := Zone.follow_follows
      ((s.headTaken h status co no2).countedRow z ((s.head h).config.readingOf status co no2))
    generalize (s.headTaken h status co no2).countedRow z ((s.head h).config.readingOf status co no2) = c at *
    have hu : { s.zone z with co := (u.zone z).co, no2 := (u.zone z).no2, highEvents := (u.zone z).highEvents } = c := by
      rw [hr, Zone.follow_eq]
      exact hc.symm
    have h1 : (u.zone z).co = c.co := by rw [hr, Zone.follow_eq]
    have h2 : (u.zone z).no2 = c.no2 := by rw [hr, Zone.follow_eq]
    rw [hu]
    simp only [h1, h2]
    rw [hr]
    exact hf

end

end Sys2Proof.Machine

/-! ## The entries of gas-high, and O36 (R11 to R21, R25, R26) -/

namespace Sys2Proof.Machine

section
variable {s t u : State} {h : HeadId} {z : ZoneId} {g : Gas} {v : Option Nat} {status : Byte} {co no2 : Word}

/-! ### What a reading does to the alarm list and the notices -/

theorem State.countReading_alarms (s : State) (z : ZoneId) (g : Gas) (v : Option Nat) : (s.countReading z g v).alarms =
    if (s.zone z).rises g v then s.alarms.raise (.gasHigh g z) none s.partTime
    else if (s.zone z).clears g v then s.alarms.clear (.gasHigh g z) s.partTime else s.alarms := by
  rw [State.countReading_eq]
  split
  · rw [State.tellHigh, State.raiseAll_alarms, State.raiseAlarm_alarms]; rfl
  · split
    · rfl
    · rfl

theorem State.countReading_keepsRest (s : State) (z : ZoneId) (g : Gas) (v : Option Nat) {ks : List AlarmKey} {ns : List Notice}
    (hk : .gasHigh g z ∈ ks) (h1 : .gasHigh ∈ ns) (h2 : .gasCleared ∈ ns) (h3 : .listFull ∈ ns) :
    s.KeepsRest (s.countReading z g v) ks ns := by
  have hq := (s.modZone_quiet z fun q => q.counted g v).keepsRest ks ns
  rw [State.countReading_eq]
  split
  · exact (hq.trans (State.raiseAlarm_keepsRest _ hk rfl h3 none)).trans (State.raiseAll_keepsRest _ h1)
  · split
    · exact (hq.trans (State.clearAlarm_keepsRest _ hk)).trans (State.raiseAll_keepsRest _ h2)
    · exact hq

theorem State.countReading_hasActive_other (s : State) (z : ZoneId) (g : Gas) (v : Option Nat) {j : AlarmKey}
    (hj : j ≠ .gasHigh g z) : (s.countReading z g v).alarms.hasActive j = s.alarms.hasActive j := by
  rw [State.countReading_alarms]
  split
  · exact AlarmList.raise_hasActive_other hj (.inl rfl) none _
  · split
    · exact AlarmList.clear_hasActive_other hj _
    · rfl

/-- R25: the notice of a gas-high that becomes active. -/
theorem State.countReading_noticed (s : State) (z : ZoneId) (g : Gas) (v : Option Nat) (hr : (s.zone z).rises g v = true) :
    (s.countReading z g v).noticedByAll .gasHigh := by
  rw [State.countReading_eq, if_pos hr]
  exact State.raiseAll_noticedByAll _ _
theorem Zone.not_rises_of_clears {q : Zone} (hc : q.clears g v = true) : ¬q.rises g v = true := by
  unfold Zone.clears at hc
  unfold Zone.rises
  cases hh : (q.gas g).high
  · rw [hh] at hc; simp at hc
  · simp
/-- R26: the notice of a gas-high that becomes inactive. -/
theorem State.countReading_noticedCleared (s : State) (z : ZoneId) (g : Gas) (v : Option Nat) (hc : (s.zone z).clears g v = true) :
    (s.countReading z g v).noticedByAll .gasCleared := by
  rw [State.countReading_eq, if_neg (Zone.not_rises_of_clears hc), if_pos hc]
  exact State.raiseAll_noticedByAll _ _

theorem State.retarget_alarms (s : State) (z : ZoneId) : (s.retarget z).alarms = s.alarms := (s.retarget_quiet z).1

/-- R12, R21: of the head's own entry a reply does what it does to the head. -/
theorem State.headReplied_hasActive_head (s : State) (h : HeadId) (status : Byte) (co no2 : Word) :
    (s.headReplied h status co no2).alarms.hasActive (.headFault h) =
      (s.headTaken h status co no2).alarms.hasActive (.headFault h) := by
  have hj : ∀ (g : Gas) (z : ZoneId), AlarmKey.headFault h ≠ .gasHigh g z := fun _ _ e => nomatch e
  rw [State.headReplied_eq, State.retarget_alarms, State.countReading_hasActive_other _ _ _ _ (hj _ _),
    State.countReading_hasActive_other _ _ _ _ (hj _ _)]
  rfl

/-- R11 to R14: a reply keeps a notice that its head's own step has raised. -/
theorem State.headReplied_keepsNotices (s : State) (h : HeadId) (status : Byte) (co no2 : Word) :
    (s.headTaken h status co no2).KeepsNotices (s.headReplied h status co no2) := by
  rw [State.headReplied_eq]
  exact ((((State.refreshGas_moves _ _).trans (State.countReading_moves _ _ _ _)).trans (State.countReading_moves _ _ _ _)).trans
    (State.retarget_moves _ _)).keepsNotices

/-! ### The exchange that a head's reply ends -/

/-- R149: the part with the exchange of a device answered. -/
def State.replyTaken (s : State) (d : Device) : State := s.endExchange.deviceAnswered d

theorem exec_headReply {address : Byte} {order : Option Order} (hx : s.line.inFlight = some ⟨.head h, order, false⟩)
    (ha : address.toNat = h.val + 1) : exec (.headReply address status co no2) s =
      .next (State.finish ((s.replyTaken (.head h)).headReplied h status co no2)) := by
  have hans : s.answers address Device.head? = some (⟨.head h, order, false⟩, h) := by
    unfold State.answers
    rw [hx]
    simp only [Device.address, ha, if_true]
    rfl
  show execHeadReply address status co no2 s = _
  unfold execHeadReply State.takeReply
  rw [hans]
  rfl

theorem State.replyTaken_link (s : State) (d : Device) : (s.replyTaken d).link d = {} := upd_get_self _ _ _

theorem keptReading_co (c : Carried) (raw : Word) :
    keptReading c .co 1000 raw = if c = .no2 then none else some (min 1000 raw.toNat) := by
  cases c <;> simp [keptReading, Carried.has, clampTo]
theorem keptReading_no2 (c : Carried) (raw : Word) :
    keptReading c .no2 300 raw = if c = .co then none else some (min 300 raw.toNat) := by
  cases c <;> simp [keptReading, Carried.has, clampTo]

/-- Settles O36: the head's own step, and then its zone worked out again. -/
theorem headReplyUpdatesItsZone : Obligations.HeadReplyUpdatesItsZone := by
  unfold Obligations.HeadReplyUpdatesItsZone
  intro address status co no2 h order s hx ha old z
  have he := exec_headReply (status := status) (co := co) (no2 := no2) hx ha
  have hzv : ∀ y, (s.replyTaken (.head h)).zone y = s.zone y := fun _ => rfl
  have hhv : ∀ k, (s.replyTaken (.head h)).head k = s.head k := fun _ => rfl
  have hlink := s.replyTaken_link (.head h)
  have hlv : (s.replyTaken (.head h)).lasting = s.lasting := rfl
  have hqv : s.Quiet (s.replyTaken (.head h)) := ⟨rfl, rfl⟩
  have htv : (s.replyTaken (.head h)).partTime = s.partTime := rfl
  generalize s.replyTaken (.head h) = v at *
  have hE := v.headReplied_inEvaluator h status co no2
  have hT := v.headTaken_head h
  have hW := v.headReplied_workedOut h status co no2
  have hZ := v.headReplied_zone h status co no2
  have hA := v.headReplied_hasActive_head h status co no2
  have hN := v.headReplied_keepsNotices h status co no2
  have hH : ∀ k, (v.headReplied h status co no2).head k = (v.headTaken h status co no2).head k := fun k => by
    simp only [State.head, v.headReplied_heads]
  generalize v.headReplied h status co no2 = u at *
  have hM : State.Moves false u u.finish := u.finish_moves
  have hz : ∀ y, u.finish.zone y = u.zone y := fun y => by simp only [State.zone, zones_of_lasting u.finish_lasting]
  have hh : ∀ k, u.finish.head k = u.head k := fun k => by simp only [State.head, heads_of_lasting u.finish_lasting]
  have hzone : (v.head h).config.zone = z := by rw [hhv]
  refine ⟨u.finish, he, ?_, ?_, fun k hk => ?_, fun w hw => ?_, ?_, ?_, fun h0 h1 hs => ⟨fun p => ?_, fun hS hl => ?_⟩,
    fun h1 hS => ?_⟩
  · rw [u.finish_lasting, hE.lasting, hlv, heads_of_lasting u.finish_lasting, zones_of_lasting u.finish_lasting]
  · rw [hh, hH, hT, if_pos rfl, hhv, Head.replied, keptReading_co, keptReading_no2]
  · rw [hh, hH, hT, if_neg hk, hhv]
  · rw [hz, hZ, hzone, if_neg hw, hzv]
  · rw [hz]
    simp only [hzone, hzv] at hW
    exact hW.congr (heads_of_lasting u.finish_lasting) (hz z)
  · rw [u.finish_sameLinks.link, hE.link, hlink]
  · have hF := (v.headTaken_faults h co no2 h0 h1 (by rw [hhv]; exact hs)).noticedByAll p
    exact hM.keepsNotices _ _ (hN _ _ hF)
  · have hF := (v.headTaken_faults h co no2 h0 h1 (by rw [hhv]; exact hs)).hasActive (.inr (by rw [hqv.1]; exact hl))
    rw [hM.hasActive rfl, hA]; exact hF
  · subst h1
    rw [hM.hasActive rfl, hA, State.headTaken_ok, hqv.1]
    exact hS.clear_hasActive _ _

end

end Sys2Proof.Machine

/-! ## Gas-high under a head's reply (R8, R24 to R27) -/

namespace Sys2Proof.Machine

section
variable {s t u : State} {h : HeadId} {z : ZoneId} {g : Gas} {v : Option Nat} {status : Byte} {co no2 : Word}

/-! ### Room in the list -/

theorem AlarmList.has_iff {a : AlarmList} {k : AlarmKey} : a.has k = true ↔ ∃ e ∈ a.entries, e.key = k := by
  simp [AlarmList.has, List.any_eq_true]

theorem AlarmList.clear_has {a : AlarmList} {j k : AlarmKey} (hj : j ≠ k) (t : Nat) (h : a.has j = true) : (a.clear k t).has j = true := by
  obtain ⟨e, he, hk⟩ := AlarmList.has_iff.1 h
  rw [AlarmList.has_iff]
  unfold AlarmList.clear
  split
  · exact ⟨e, mem_eraseIdx_findIdx he (by simp [hk, hj]), hk⟩
  · refine ⟨_, List.mem_map_of_mem he, ?_⟩
    rw [if_neg (by simp [hk, hj]), hk]
theorem AlarmList.has_of_clear {a : AlarmList} {j k : AlarmKey} (t : Nat) (h : (a.clear k t).has j = true) : a.has j = true := by
  obtain ⟨e, he, hk⟩ := AlarmList.has_iff.1 h
  rw [AlarmList.has_iff]
  unfold AlarmList.clear at he
  split at he
  · exact ⟨e, (List.eraseIdx_sublist _ _).mem he, hk⟩
  · obtain ⟨y, hy, rfl⟩ := List.mem_map.1 he
    refine ⟨y, hy, ?_⟩
    rw [← hk]
    split <;> rfl
theorem AlarmList.clear_length (a : AlarmList) (k : AlarmKey) (t : Nat) : (a.clear k t).entries.length ≤ a.entries.length := by
  unfold AlarmList.clear
  split
  · exact (List.eraseIdx_sublist _ _).length_le
  · simp

theorem AlarmList.raise_has {a : AlarmList} {j k : AlarmKey} (hk : k.isFire = false) (d : Option FanDetail) (t : Nat)
    (h : a.has j = true) : (a.raise k d t).has j = true := by
  obtain ⟨e, he, hj⟩ := AlarmList.has_iff.1 h
  rw [AlarmList.has_iff]
  unfold AlarmList.raise
  split
  · refine ⟨_, List.mem_map_of_mem he, ?_⟩
    rw [← hj]
    split <;> rfl
  · split
    · exact ⟨e, List.mem_append_left _ he, hj⟩
    · rw [hk]; exact ⟨e, he, hj⟩
theorem AlarmList.raise_length_of_has {a : AlarmList} {k : AlarmKey} (h : a.has k = true) (d : Option FanDetail) (t : Nat) :
    (a.raise k d t).entries.length = a.entries.length := by
  unfold AlarmList.raise
  rw [if_pos h]
  simp [AlarmList.raiseInPlace, AlarmList.advance]

theorem State.countReading_has (s : State) (z : ZoneId) (g : Gas) (v : Option Nat) {j : AlarmKey} (hj : j ≠ .gasHigh g z)
    (h : s.alarms.has j = true) : (s.countReading z g v).alarms.has j = true := by
  rw [State.countReading_alarms]
  split
  · exact AlarmList.raise_has rfl none _ h
  · split
    · exact AlarmList.clear_has hj _ h
    · exact h

theorem State.countReading_length (s : State) (z : ZoneId) (g : Gas) (v : Option Nat) :
    (s.countReading z g v).alarms.entries.length ≤ s.alarms.entries.length +
      if ((s.zone z).rises g v && !s.alarms.has (.gasHigh g z)) = true then 1 else 0 := by
  rw [State.countReading_alarms]
  split
  · rename_i hr
    rw [hr]
    by_cases hh : s.alarms.has (.gasHigh g z) = true
    · rw [AlarmList.raise_length_of_has hh]; omega
    · rw [if_pos (by simpa using hh)]
      exact AlarmList.raise_length _ rfl none _
  · split
    · exact (AlarmList.clear_length _ _ _).trans (Nat.le_add_right _ _)
    · exact Nat.le_add_right _ _

/-! ### The row of a gas under a reading -/

/-- R24 to R26: the row of a gas after a reading, if there is one; a zone that is not fitted counts none. -/
def GasRow.read (r : GasRow) (c : ZoneConfig) (g : Gas) : Option Nat → GasRow
  | none => r
  | some x => if c.fitted = true then r.counted c g x else r

theorem Zone.counted_gas_read (q : Zone) (g : Gas) (v : Option Nat) : (q.counted g v).gas g = (q.gas g).read q.config g v := by
  cases v with
  | none => rfl
  | some x =>
    unfold GasRow.read
    simp only
    split
    · exact q.counted_gas g x ‹_›
    · unfold Zone.counted
      simp only
      rw [if_neg ‹_›]

/-- R11: the clamped reading of a gas. -/
def clampedReading (co no2 : Word) : Gas → Nat
  | .co => min 1000 co.toNat
  | .no2 => min 300 no2.toNat

/-- R9: the head carries a gas. -/
def HeadConfig.carriesGas (k : HeadConfig) : Gas → Prop
  | .co => k.carries ≠ .no2
  | .no2 => k.carries ≠ .co

theorem HeadConfig.readingOf_some {k : HeadConfig} (h1 : status = 1) (hc : k.carriesGas g) :
    k.readingOf status co no2 g = some (clampedReading co no2 g) := by
  cases g
  · exact (if_pos h1).trans ((keptReading_co _ _).trans (if_neg hc))
  · exact (if_pos h1).trans ((keptReading_no2 _ _).trans (if_neg hc))
theorem HeadConfig.readingOf_none {k : HeadConfig} (hc : ¬(status = 1 ∧ k.carriesGas g)) : k.readingOf status co no2 g = none := by
  by_cases h1 : status = 1
  · have hc : ¬k.carriesGas g := fun e => hc ⟨h1, e⟩
    cases g
    · exact (if_pos h1).trans ((keptReading_co _ _).trans (if_pos (not_not.1 hc)))
    · exact (if_pos h1).trans ((keptReading_no2 _ _).trans (if_pos (not_not.1 hc)))
  · cases g
    · exact if_neg h1
    · exact if_neg h1

end

end Sys2Proof.Machine

/-! ## O37: the reply's counts, the entries and notices of gas-high, and the demand -/

namespace Sys2Proof.Machine

section
variable {s m u : State} {h : HeadId} {z : ZoneId} {g : Gas} {v : Gas → Option Nat} {status : Byte} {co no2 : Word}

/-! ### The row -/

theorem State.countedRow_gas (m : State) (z : ZoneId) (v : Gas → Option Nat) (g : Gas) : (m.countedRow z v).gas g =
    ((m.rowNow z (m.zone z)).gas g).read (m.zone z).config g (v g) := by
  unfold State.countedRow
  cases g with
  | co => rw [Zone.counted_gas_other _ (by decide), Zone.counted_gas_read]; rfl
  | no2 => rw [Zone.counted_gas_read, Zone.counted_gas_other _ (by decide), Zone.counted_config]; rfl

theorem State.rowNow_count_high (s : State) (z : ZoneId) (q : Zone) (g : Gas) :
    ((s.rowNow z q).gas g).count = (q.gas g).count ∧ ((s.rowNow z q).gas g).high = (q.gas g).high := by
  cases g <;> exact ⟨rfl, rfl⟩

/-- R25: gas-high of the row has become active. -/
def Zone.rose (q r : Zone) (g : Gas) : Bool := !(q.gas g).high && (r.gas g).high

theorem Zone.counted_highEvents (q : Zone) (g : Gas) (v : Option Nat) : (q.counted g v).highEvents =
    if q.rises g v = true ∧ q.highEvents < 65535 then q.highEvents + 1 else q.highEvents := by
  by_cases hf : q.config.fitted = true
  · cases v with
    | none => simp [Zone.rises, Zone.counted]
    | some x =>
      have hr : q.rises g (some x) = (!(q.gas g).high && ((q.gas g).counted q.config g x).high) := by
        rw [Zone.rises, Zone.counted_gas _ _ _ hf]
      rw [hr]
      simp only [Zone.counted, if_pos hf, bump, Config.lastCount]
      generalize (!(q.gas g).high && ((q.gas g).counted q.config g x).high) = b
      by_cases hl : q.highEvents < 65535
      · cases b <;> simp [hl]
      · cases b <;> simp [hl]
  · have hq : q.counted g v = q := by
      cases v with
      | none => rfl
      | some x => exact if_neg hf
    rw [Zone.rises, hq]
    simp

/-- R25: what the two readings of a reply do to gas-high, seen from the row before and the row after. -/
theorem State.countedRow_rises (m : State) (z : ZoneId) (v : Gas → Option Nat) :
    (m.rowNow z (m.zone z)).rises .co (v .co) = (m.zone z).rose (m.countedRow z v) .co ∧
    ((m.rowNow z (m.zone z)).counted .co (v .co)).rises .no2 (v .no2) = (m.zone z).rose (m.countedRow z v) .no2 := by
  refine ⟨?_, ?_⟩
  · unfold Zone.rises Zone.rose State.countedRow
    rw [Zone.counted_gas_other _ (g := .no2) (by decide), (m.rowNow_count_high z _ .co).2]
  · unfold Zone.rises Zone.rose State.countedRow
    rw [Zone.counted_gas_other _ (g := .co) (by decide), (m.rowNow_count_high z _ .no2).2]
theorem State.countedRow_clears (m : State) (z : ZoneId) (v : Gas → Option Nat) :
    (m.rowNow z (m.zone z)).clears .co (v .co) = (((m.zone z).gas .co).high && !((m.countedRow z v).gas .co).high) ∧
    ((m.rowNow z (m.zone z)).counted .co (v .co)).clears .no2 (v .no2) =
      (((m.zone z).gas .no2).high && !((m.countedRow z v).gas .no2).high) := by
  refine ⟨?_, ?_⟩
  · unfold Zone.clears State.countedRow
    rw [Zone.counted_gas_other _ (g := .no2) (by decide), (m.rowNow_count_high z _ .co).2]
  · unfold Zone.clears State.countedRow
    rw [Zone.counted_gas_other _ (g := .co) (by decide), (m.rowNow_count_high z _ .no2).2]

theorem State.countedRow_highEvents (m : State) (z : ZoneId) (v : Gas → Option Nat) : (m.countedRow z v).highEvents =
    let add := fun (rose : Bool) (n : Nat) => if rose = true ∧ n < 65535 then n + 1 else n
    add ((m.zone z).rose (m.countedRow z v) .no2) (add ((m.zone z).rose (m.countedRow z v) .co) (m.zone z).highEvents) := by
  obtain ⟨h1, h2⟩ := m.countedRow_rises z v
  rw [← h1, ← h2]
  unfold State.countedRow
  rw [Zone.counted_highEvents, Zone.counted_highEvents]
  rfl

/-- R19, R20: gas-high that has become active takes target and demand of a sound row to 100. -/
theorem State.countedRow_full (m : State) (z : ZoneId) (v : Gas → Option Nat) (hq : (m.zone z).Sound)
    (hr : (m.zone z).rose (m.countedRow z v) g = true) :
    ((m.countedRow z v).follow (m.countedRow z v).targetNow).target = 100 ∧
      ((m.countedRow z v).follow (m.countedRow z v).targetNow).demand = 100 := by
  have hgas := m.countedRow_gas z v g
  obtain ⟨hn, hh⟩ : ((m.zone z).gas g).high = false ∧ ((m.countedRow z v).gas g).high = true := by
    simpa [Zone.rose] using hr
  have hc : (m.countedRow z v).config = (m.zone z).config := by
    rw [State.countedRow_eq]
  have hf : (m.zone z).config.fitted = true := by
    by_contra hf
    have : (m.countedRow z v).gas g = (m.rowNow z (m.zone z)).gas g := by
      rw [hgas]
      cases v g with
      | none => rfl
      | some x => exact if_neg hf
    rw [this, (m.rowNow_count_high z _ g).2, hn] at hh
    cases hh
  have hfit : (m.countedRow z v).Fit := ((hq.fit.rowNow m z).counted .co _).counted .no2 _
  have hramp : (m.countedRow z v).co.ramp ≤ 100 ∧ (m.countedRow z v).no2.ramp ≤ 100 := by
    have e1 : (m.countedRow z v).co.ramp = m.rampNow z .co := by
      unfold State.countedRow; rw [Zone.counted_eq, Zone.counted_eq]; rfl
    have e2 : (m.countedRow z v).no2.ramp = m.rampNow z .no2 := by
      unfold State.countedRow; rw [Zone.counted_eq, Zone.counted_eq]; rfl
    rw [e1, e2]
    exact ⟨State.rampNow_le hq.config .co, State.rampNow_le hq.config .no2⟩
  generalize m.countedRow z v = c at *
  have hs := hfit.follow_sound hramp
  have h100 : c.highTerm = 100 := by
    unfold Zone.highTerm
    cases g with
    | co => rw [show c.co.high = true from hh]; rfl
    | no2 => rw [show c.no2.high = true from hh, Bool.or_true]; rfl
  have ht : c.targetNow = 100 := by
    refine le_antisymm (Zone.targetNow_le hfit hramp) ?_
    unfold Zone.targetNow
    rw [hc, if_pos hf, h100]
    omega
  have e : (c.follow c.targetNow).target = 100 := by rw [Zone.follow_eq]; exact ht
  exact ⟨e, le_antisymm hs.demand (e ▸ hs.target)⟩

/-! ### The alarm list and the notices -/

/-- R21, R24: the part once the first reading and once both readings of a reply have been counted. -/
def State.readCo (m : State) (z : ZoneId) (v : Gas → Option Nat) : State := (m.refreshGas z).countReading z .co (v .co)
def State.readBoth (m : State) (z : ZoneId) (v : Gas → Option Nat) : State := (m.readCo z v).countReading z .no2 (v .no2)

theorem State.refreshGas_row (m : State) (z : ZoneId) : (m.refreshGas z).zone z = m.rowNow z (m.zone z) := by
  rw [State.refreshGas_zone, if_pos rfl]
theorem State.readCo_row (m : State) (z : ZoneId) (v : Gas → Option Nat) :
    (m.readCo z v).zone z = (m.rowNow z (m.zone z)).counted .co (v .co) := by
  rw [State.readCo, State.countReading_zone, if_pos rfl, State.refreshGas_row]
theorem State.readBoth_row (m : State) (z : ZoneId) (v : Gas → Option Nat) : (m.readBoth z v).zone z = m.countedRow z v := by
  rw [State.readBoth, State.countReading_zone, if_pos rfl, State.readCo_row]; rfl

theorem State.readBoth_keepsRest (m : State) (z : ZoneId) (v : Gas → Option Nat) {ks : List AlarmKey} {ns : List Notice}
    (hc : .gasHigh .co z ∈ ks) (hn : .gasHigh .no2 z ∈ ks) (h1 : .gasHigh ∈ ns) (h2 : .gasCleared ∈ ns) (h3 : .listFull ∈ ns) :
    m.KeepsRest (m.readBoth z v) ks ns := by
  have h0 : m.Quiet (m.refreshGas z) := m.modZone_quiet z _
  exact ((h0.keepsRest ks ns).trans (State.countReading_keepsRest _ z .co _ hc h1 h2 h3)).trans (State.countReading_keepsRest _ z .no2 _ hn h1 h2 h3)

theorem gasHigh_no2_ne_co (z : ZoneId) : AlarmKey.gasHigh .no2 z ≠ .gasHigh .co z := by simp
theorem gasHigh_co_ne_no2 (z : ZoneId) : AlarmKey.gasHigh .co z ≠ .gasHigh .no2 z := by simp

/-- R25: the notice of a gas-high that has become active. -/
theorem State.readBoth_noticed (m : State) (z : ZoneId) (v : Gas → Option Nat)
    (hr : (m.zone z).rose (m.countedRow z v) g = true) : (m.readBoth z v).noticedByAll .gasHigh := by
  obtain ⟨h1, h2⟩ := m.countedRow_rises z v
  cases g with
  | co =>
    have hn := (m.refreshGas z).countReading_noticed z .co (v .co) (by rw [State.refreshGas_row, h1, hr])
    exact fun p => (State.countReading_moves _ z .no2 _).keepsNotices _ _ (hn p)
  | no2 => exact State.countReading_noticed _ z .no2 _ (by rw [State.readCo_row, h2, hr])

/-- R26: the notice and the entry of a gas-high that has become inactive. -/
theorem State.readBoth_cleared (m : State) (z : ZoneId) (v : Gas → Option Nat)
    (hr : (((m.zone z).gas g).high && !((m.countedRow z v).gas g).high) = true) : (m.readBoth z v).noticedByAll .gasCleared ∧
      (m.alarms.Sound → (m.readBoth z v).alarms.hasActive (.gasHigh g z) = false) := by
  obtain ⟨h1, h2⟩ := m.countedRow_clears z v
  cases g with
  | co =>
    have hc : ((m.refreshGas z).zone z).clears .co (v .co) = true := by rw [State.refreshGas_row, h1, hr]
    have hn := (m.refreshGas z).countReading_noticedCleared z .co (v .co) hc
    refine ⟨fun p => (State.countReading_moves _ z .no2 _).keepsNotices _ _ (hn p), fun hS => ?_⟩
    rw [State.readBoth, State.countReading_hasActive_other _ _ _ _ (gasHigh_co_ne_no2 z), State.readCo, State.countReading_alarms,
      if_neg (Zone.not_rises_of_clears hc), if_pos hc]
    exact AlarmList.Sound.clear_hasActive hS _ _
  | no2 =>
    have hc : ((m.readCo z v).zone z).clears .no2 (v .no2) = true := by rw [State.readCo_row, h2, hr]
    refine ⟨State.countReading_noticedCleared _ z .no2 _ hc, fun hS => ?_⟩
    have hS1 : (m.readCo z v).alarms.Sound :=
      (State.countReading_moves (m.refreshGas z) z .co _).alarms_sound hS
    rw [State.readBoth, State.countReading_alarms, if_neg (Zone.not_rises_of_clears hc), if_pos hc]
    exact hS1.clear_hasActive _ _

/-- R25, R135, R137: the entry of CO is raised first, and that of NO2 beside a new one of CO. -/
theorem State.readBoth_active_co (m : State) (z : ZoneId) (v : Gas → Option Nat)
    (hr : (m.zone z).rose (m.countedRow z v) .co = true)
    (hl : m.alarms.has (.gasHigh .co z) = true ∨ m.alarms.entries.length < 32) :
    (m.readBoth z v).alarms.hasActive (.gasHigh .co z) = true := by
  have hc : ((m.refreshGas z).zone z).rises .co (v .co) = true := by rw [State.refreshGas_row, (m.countedRow_rises z v).1, hr]
  rw [State.readBoth, State.countReading_hasActive_other _ _ _ _ (gasHigh_co_ne_no2 z), State.readCo, State.countReading_alarms,
    if_pos hc]
  exact AlarmList.raise_hasActive hl none _
theorem State.readBoth_active_no2 (m : State) (z : ZoneId) (v : Gas → Option Nat)
    (hr : (m.zone z).rose (m.countedRow z v) .no2 = true)
    (hl : m.alarms.has (.gasHigh .no2 z) = true ∨ m.alarms.entries.length +
      (if ((m.zone z).rose (m.countedRow z v) .co && !m.alarms.has (.gasHigh .co z)) = true then 1 else 0) < 32) :
    (m.readBoth z v).alarms.hasActive (.gasHigh .no2 z) = true := by
  obtain ⟨h1, h2⟩ := m.countedRow_rises z v
  have hc : ((m.readCo z v).zone z).rises .no2 (v .no2) = true := by rw [State.readCo_row, h2, hr]
  rw [State.readBoth, State.countReading_alarms, if_pos hc]
  refine AlarmList.raise_hasActive (hl.imp (State.countReading_has (m.refreshGas z) z .co _ (gasHigh_no2_ne_co z)) fun hl => ?_) none _
  have hlen := (m.refreshGas z).countReading_length z .co (v .co)
  rw [State.refreshGas_row, h1] at hlen
  exact lt_of_le_of_lt hlen hl

end

end Sys2Proof.Machine

/-! ## O37 -/

namespace Sys2Proof.Machine

section
variable {s m u : State} {h : HeadId} {z : ZoneId} {g : Gas} {status : Byte} {co no2 : Word}

theorem State.headReplied_readBoth (s : State) (h : HeadId) (status : Byte) (co no2 : Word) : s.headReplied h status co no2 =
    ((s.headTaken h status co no2).readBoth (s.head h).config.zone ((s.head h).config.readingOf status co no2)).retarget
      (s.head h).config.zone := s.headReplied_eq h status co no2

/-- R8, R24 to R27: what a head's reply does, on the part as it stands when the exchange has ended. -/
structure State.GasCounted (s u : State) (k : HeadConfig) (status : Byte) (co no2 : Word) : Prop where
  gas : ∀ g, ∃ p : GasRow, p.count = ((s.zone k.zone).gas g).count ∧ p.high = ((s.zone k.zone).gas g).high ∧
    (u.zone k.zone).gas g = p.read (s.zone k.zone).config g (k.readingOf status co no2 g)
  high : ∀ g, (s.zone k.zone).rose (u.zone k.zone) g = true → u.noticedByAll .gasHigh ∧
    ((s.zone k.zone).Sound → (u.zone k.zone).target = 100 ∧ (u.zone k.zone).demand = 100)
  cleared : ∀ g, (((s.zone k.zone).gas g).high && !((u.zone k.zone).gas g).high) = true → u.noticedByAll .gasCleared ∧
    (s.alarms.Sound → u.alarms.hasActive (.gasHigh g k.zone) = false)
  activeCo : (s.zone k.zone).rose (u.zone k.zone) .co = true →
    s.alarms.has (.gasHigh .co k.zone) = true ∨ s.alarms.entries.length < 32 → u.alarms.hasActive (.gasHigh .co k.zone) = true
  activeNo2 : (s.zone k.zone).rose (u.zone k.zone) .no2 = true →
    s.alarms.has (.gasHigh .no2 k.zone) = true ∨ s.alarms.entries.length +
      (if ((s.zone k.zone).rose (u.zone k.zone) .co && !s.alarms.has (.gasHigh .co k.zone)) = true then 1 else 0) < 32 →
    u.alarms.hasActive (.gasHigh .no2 k.zone) = true
  events : (u.zone k.zone).highEvents =
    let add := fun (rose : Bool) (n : Nat) => if rose = true ∧ n < 65535 then n + 1 else n
    add ((s.zone k.zone).rose (u.zone k.zone) .no2) (add ((s.zone k.zone).rose (u.zone k.zone) .co) (s.zone k.zone).highEvents)
  due : (u.zone k.zone).demand ≠ (s.zone k.zone).demand → u.alloc.due = true

/-- R25: a gas-high rises by an OK reply alone. -/
theorem State.countedRow_ok (m : State) (z : ZoneId) (k : HeadConfig)
    (hr : (m.zone z).rose (m.countedRow z (k.readingOf status co no2)) g = true) : status = 1 := by
  by_contra h1
  have hn : k.readingOf status co no2 g = none := HeadConfig.readingOf_none fun e => h1 e.1
  obtain ⟨hl, hh⟩ : ((m.zone z).gas g).high = false ∧ ((m.countedRow z (k.readingOf status co no2)).gas g).high = true := by
    simpa [Zone.rose] using hr
  rw [State.countedRow_gas, hn] at hh
  rw [show ((m.rowNow z (m.zone z)).gas g).read (m.zone z).config g none = (m.rowNow z (m.zone z)).gas g from rfl,
    (m.rowNow_count_high z _ g).2, hl] at hh
  cases hh

theorem State.headTaken_moves (s : State) (h : HeadId) (status : Byte) (co no2 : Word) :
    State.Moves true s (s.headTaken h status co no2) := by
  unfold State.headTaken
  split
  · exact s.headOk_moves h co no2
  · exact s.modHead_moves h _ rfl
  · exact s.headFaults_moves h

theorem State.headReplied_gasCounted (s : State) (h : HeadId) (status : Byte) (co no2 : Word) :
    s.GasCounted (s.headReplied h status co no2) (s.head h).config status co no2 := by
  have hu := s.headReplied_readBoth h status co no2
  have hr := s.headReplied_zone h status co no2 (s.head h).config.zone
  rw [if_pos rfl] at hr
  have hz := s.headTaken_zone h status co no2 (s.head h).config.zone
  have hS : s.alarms.Sound → (s.headTaken h status co no2).alarms.Sound := (s.headTaken_moves h status co no2).alarms_sound
  have hclear : status = 1 → (s.headTaken h status co no2).alarms = s.alarms.clear (.headFault h) s.partTime := by
    rintro rfl; rfl
  generalize s.headReplied h status co no2 = u at *
  generalize s.headTaken h status co no2 = m at *
  generalize (s.head h).config = k at *
  have hV : ∃ V, V = k.readingOf status co no2 := ⟨_, rfl⟩
  obtain ⟨V, hV⟩ := hV
  rw [← hV] at hu hr
  have hc := m.countedRow_eq k.zone V
  have hgas := m.countedRow_gas k.zone V
  have hq : ∀ g, (u.zone k.zone).gas g = (m.countedRow k.zone V).gas g := fun g => by
    rw [hr, Zone.follow_eq]; cases g <;> rfl
  have hrose : ∀ g, (s.zone k.zone).rose (u.zone k.zone) g = (m.zone k.zone).rose (m.countedRow k.zone V) g := fun g => by
    rw [Zone.rose, Zone.rose, hq, hz]
  have hone : ∀ g, (m.zone k.zone).rose (m.countedRow k.zone V) g = true → status = 1 := fun g e => by
    rw [hV] at e; exact m.countedRow_ok k.zone k e
  have hnotice : ∀ n, (m.readBoth k.zone V).noticedByAll n → u.noticedByAll n := fun n e p => by
    have e := e p
    rw [hu]
    simpa only [State.noticed, State.port, (State.retarget_quiet _ _).2] using e
  have halarms : u.alarms = (m.readBoth k.zone V).alarms := by rw [hu, State.retarget_alarms]
  have hne : ∀ g, AlarmKey.gasHigh g k.zone ≠ .headFault h := fun g e => nomatch e
  refine ⟨fun g => ⟨(m.rowNow k.zone (m.zone k.zone)).gas g, ?_, ?_, ?_⟩, fun g e => ?_, fun g e => ?_, fun e hl => ?_,
    fun e hl => ?_, ?_, fun e => ?_⟩
  · rw [(m.rowNow_count_high _ _ g).1, hz]
  · rw [(m.rowNow_count_high _ _ g).2, hz]
  · rw [hq, hgas, hz, hV]
  · rw [hrose] at e
    refine ⟨hnotice _ (m.readBoth_noticed _ _ e), fun k1 => ?_⟩
    rw [hr]
    exact m.countedRow_full _ _ (by rw [hz]; exact k1) e
  · rw [hq, ← hz] at e
    obtain ⟨k1, k2⟩ := m.readBoth_cleared _ _ e
    exact ⟨hnotice _ k1, fun hs => by rw [halarms]; exact k2 (hS hs)⟩
  · rw [hrose] at e
    rw [halarms]
    refine m.readBoth_active_co _ _ e ?_
    rw [hclear (hone _ e)]
    exact hl.imp (AlarmList.clear_has (hne _) _) fun hl => lt_of_le_of_lt (AlarmList.clear_length _ _ _) hl
  · rw [hrose] at e
    rw [halarms]
    refine m.readBoth_active_no2 _ _ e ?_
    rw [hclear (hone _ e)]
    refine hl.imp (AlarmList.clear_has (hne _) _) fun hl => lt_of_le_of_lt ?_ hl
    have hh : (s.alarms.clear (.headFault h) s.partTime).has (.gasHigh .co k.zone) = s.alarms.has (.gasHigh .co k.zone) :=
      Bool.eq_iff_iff.2 ⟨AlarmList.has_of_clear _, AlarmList.clear_has (hne _) _⟩
    rw [hh, hrose]
    exact Nat.add_le_add_right (AlarmList.clear_length _ _ _) _
  · rw [hrose, hrose, hr, Zone.follow_eq, ← hz]
    exact m.countedRow_highEvents k.zone V
  · have hd : ((m.readBoth k.zone V).zone k.zone).demand = (s.zone k.zone).demand := by
      rw [m.readBoth_row, hc, hz]
    have hal := State.retarget_alloc (m.readBoth k.zone V) k.zone
    rw [← hu, hd] at hal
    rw [hal]
    simp [e]

theorem State.headReplied_keepsRest (s : State) (h : HeadId) (status : Byte) (co no2 : Word) :
    s.KeepsRest (s.headReplied h status co no2)
      [.headFault h, .gasHigh .co (s.head h).config.zone, .gasHigh .no2 (s.head h).config.zone]
      [.gasHigh, .gasCleared, .deviceFault, .listFull] := by
  rw [State.headReplied_readBoth]
  refine .trans (.trans (s.headTaken_keepsRest h status co no2 (by simp) (by simp) (by simp))
    (State.readBoth_keepsRest _ _ _ (by simp) (by simp) (by simp) (by simp) (by simp))) (State.Quiet.keepsRest (State.retarget_quiet _ _) _ _)

/-- R24: the reading between the clear level and the alarm level, at or above it, and below the clear level. -/
theorem GasRow.counted_between {p : GasRow} {c : ZoneConfig} {x : Nat} (h1 : c.clearLevel g ≤ x) (h2 : x < c.alarm g) :
    p.counted c g x = p := (if_neg (by omega)).trans (if_neg (by omega))
theorem GasRow.counted_above {p : GasRow} {c : ZoneConfig} {x : Nat} (h1 : c.alarm g ≤ x) :
    p.counted c g x = { p with count := bump 15 p.count, high := p.high || decide (c.confirm ≤ bump 15 p.count) } := if_pos h1
theorem GasRow.counted_below {p : GasRow} {c : ZoneConfig} {x : Nat} (h1 : x < c.clearLevel g) :
    p.counted c g x = { p with count := 0, high := p.high && decide (c.clearLevel g ≤ p.value.getD 0) } :=
  (if_neg (by unfold ZoneConfig.clearLevel at h1; omega)).trans (if_pos h1)

/-- R24: what the row of a gas shows of its count and its gas-high state. -/
theorem State.GasCounted.counts {k : HeadConfig} (h : s.GasCounted u k status co no2) (g : Gas) :
    let q := s.zone k.zone
    let r := u.zone k.zone
    let counted := status = 1 ∧ q.config.fitted = true ∧ k.carriesGas g
    let x := clampedReading co no2 g
    (¬counted ∨ (q.config.clearLevel g ≤ x ∧ x < q.config.alarm g) →
      (r.gas g).count = (q.gas g).count ∧ (r.gas g).high = (q.gas g).high) ∧
    (counted → q.config.alarm g ≤ x →
      (r.gas g).count = (if (q.gas g).count < 15 then (q.gas g).count + 1 else (q.gas g).count) ∧
      (r.gas g).high = ((q.gas g).high || decide (q.config.confirm ≤ (r.gas g).count))) ∧
    (counted → x < q.config.clearLevel g → (r.gas g).count = 0 ∧
      (r.gas g).high = ((q.gas g).high && decide (q.config.clearLevel g ≤ ((r.gas g).value).getD 0))) := by
  intro q r counted x
  obtain ⟨p, hc, hh, hr⟩ := h.gas g
  have hx : counted → (r.gas g) = p.counted q.config g x := fun ⟨h1, hf, hk⟩ => by
    rw [hr, HeadConfig.readingOf_some h1 hk]
    exact if_pos hf
  refine ⟨fun e => ?_, fun k1 k2 => ?_, fun k1 k2 => ?_⟩
  · have hp : r.gas g = p := by
      by_cases k1 : counted
      · obtain ⟨e1, e2⟩ := e.resolve_left (not_not.2 k1)
        rw [hx k1, GasRow.counted_between e1 e2]
      · rw [hr]
        by_cases k2 : status = 1 ∧ k.carriesGas g
        · rw [HeadConfig.readingOf_some k2.1 k2.2]
          exact if_neg fun hf => k1 ⟨k2.1, hf, k2.2⟩
        · rw [HeadConfig.readingOf_none k2]; rfl
    rw [hp]; exact ⟨hc, hh⟩
  · rw [hx k1, GasRow.counted_above k2, ← hc, ← hh]
    exact ⟨rfl, rfl⟩
  · rw [hx k1, GasRow.counted_below k2, ← hh]
    exact ⟨rfl, rfl⟩

/-- Settles O37: the two readings counted in turn, each in its own gas's row, with the entry and the notice of each. -/
theorem gasHighIsConfirmedAndCleared : Obligations.GasHighIsConfirmedAndCleared := by
  unfold Obligations.GasHighIsConfirmedAndCleared
  intro address status co no2 h order s hx ha
  have he := exec_headReply (status := status) (co := co) (no2 := no2) hx ha
  have hzv : ∀ y, (s.replyTaken (.head h)).zone y = s.zone y := fun _ => rfl
  have hhv : ∀ k, (s.replyTaken (.head h)).head k = s.head k := fun _ => rfl
  have hqv : s.Quiet (s.replyTaken (.head h)) := ⟨rfl, rfl⟩
  generalize s.replyTaken (.head h) = v at *
  have hG := v.headReplied_gasCounted h status co no2
  have hK := v.headReplied_keepsRest h status co no2
  generalize v.headReplied h status co no2 = u at *
  rw [hhv] at hG hK
  have hzone := hzv (s.head h).config.zone
  have hcounts := hG.counts
  obtain ⟨-, hhigh, hcleared, hco, hno2, hev, hdue⟩ := hG
  rw [hzone] at hhigh hcleared hco hno2 hev hdue
  rw [hqv.1] at hcleared hco hno2
  rw [hzone] at hcounts
  refine ⟨u, he, (hqv.keepsRest _ _).trans hK, fun hS hl h1 h2 => ⟨.co, hco h1 (.inr hl)⟩, fun g => ?_, hev, hdue⟩
  obtain ⟨c1, c2, c3⟩ := hcounts g
  cases g with
  | co =>
    refine ⟨c1, c2, c3, fun hr => ⟨(hhigh .co hr).1, (hhigh .co hr).2, fun _ hl => hco hr (hl.imp id fun hl => ?_)⟩,
      fun hr => hcleared .co hr⟩
    exact lt_of_le_of_lt (Nat.le_add_right _ _) hl
  | no2 =>
    exact ⟨c1, c2, c3, fun hr => ⟨(hhigh .no2 hr).1, (hhigh .no2 hr).2, fun _ hl => hno2 hr hl⟩, fun hr => hcleared .no2 hr⟩

end

end Sys2Proof.Machine

/-! ## The end of an accepted write, and WRITE HEAD (R7, R10, R153, R176) -/

namespace Sys2Proof.Machine

section
variable {s u w : State} {p : Port} {r : Response} {k : AlarmKey} {ks : List AlarmKey} {ns : List Notice}

/-! ### The end of a request -/

theorem State.sends_link (u : State) (p : Port) (r : Response) (d : Device) : (u.sends p r).link d = u.link d :=
  u.finish_sameLinks.link d
theorem State.sends_hasActive (u : State) (p : Port) (r : Response) (hk : k.ofDevice = false) :
    (u.sends p r).alarms.hasActive k = u.alarms.hasActive k :=
  (show State.Moves false u u.finish from u.finish_moves).hasActive hk
theorem State.sends_noticed (u : State) (p q : Port) (r : Response) {n : Notice} (h : u.noticed n q) : (u.sends p r).noticed n q :=
  State.modPort_keepsNotices _ p _ rfl rfl _ _ ((State.finish_moves (w := true) u).keepsNotices _ _ h)
theorem State.sends_zones (u : State) (p : Port) (r : Response) : (u.sends p r).zones = u.zones :=
  congrArg Lasting.zones (u.sends_lasting p r)
theorem State.sends_heads (u : State) (p : Port) (r : Response) : (u.sends p r).heads = u.heads :=
  congrArg Lasting.heads (u.sends_lasting p r)

theorem State.modPort_raise_keepsRest (s : State) (p : Port) {n : Notice} (h : n ∈ ns) :
    s.KeepsRest (s.modPort p (PortState.raise n)) ks ns := by
  refine ⟨rfl, fun q m hm => ?_⟩
  have hne : m.place ≠ n.place := fun e => hm (Notice.place_inj e ▸ h)
  by_cases e : q = p
  · subst e
    rw [State.modPort_port_self]
    simp [PortState.raise_pending, PortState.raise_seen, hne]
  · rw [State.modPort_port_other _ _ e]; exact ⟨rfl, rfl⟩
theorem State.configChanged_keepsRest (s : State) (p : Port) (h : .configChanged ∈ ns) : s.KeepsRest (s.configChanged p) ks ns := by
  cases p <;> exact (State.modPort_raise_keepsRest s _ h).trans (State.modPort_raise_keepsRest _ _ h)

/-- R176: the frame's own clear leaves the list sound. -/
theorem State.frameTaken_alarms_sound (h : s.alarms.Sound) : (s.frameTaken p).alarms.Sound := (s.frameTaken_moves p).alarms_sound h

/-! ### WRITE HEAD -/

/-- R10: the part with a head's record stored and reported. -/
def State.headStored (w : State) (h : HeadId) (c : HeadConfig) : State := (w.commitHead h c).configChanged .building

/-- R10, R146, R153: the part with a changed head reset and its fitting judged, before its zones are worked out. -/
def State.headRefitted (w : State) (h : HeadId) (c : HeadConfig) : State :=
  ((w.headStored h c).resetHead h).refitHead h (w.head h).config.fitted c.fitted

theorem State.headWritten_eq (w : State) (h : HeadId) (c : HeadConfig) : w.headWritten h c =
    if c = (w.head h).config then w.headStored h c
    else (w.headRefitted h c).refreshZones (w.head h).config.zone c.zone := rfl

variable (w) (h : HeadId) (c : HeadConfig)

theorem State.headStored_lasting : (w.headStored h c).lasting = { w.lasting with
    heads := upd w.heads h fun q => { q with config := c }
    store := { w.store with heads := sealWith headsImage (upd w.store.heads.contents h fun _ => c) } } := by
  rw [State.headStored, State.configChanged, State.raiseOthers_lasting]; rfl
theorem State.headStored_alarms : (w.headStored h c).alarms = w.alarms.clear (.storeFault 1) w.partTime := by
  rw [State.headStored, State.configChanged, State.raiseOthers_alarms]; rfl
theorem State.headStored_line : (w.headStored h c).line = w.line := by
  rw [State.headStored, State.configChanged, State.raiseOthers_line]; rfl
theorem State.headStored_keepsRest (hk : .storeFault 1 ∈ ks) (hn : .configChanged ∈ ns) : w.KeepsRest (w.headStored h c) ks ns := by
  have h0 : w.KeepsRest { w.modHead h (fun q => { q with config := c }) with
      store := { w.store with heads := sealWith headsImage (upd w.store.heads.contents h fun _ => c) } } ks ns :=
    ⟨rfl, fun _ _ _ => ⟨rfl, rfl⟩⟩
  exact (h0.trans (State.clearAlarm_keepsRest _ hk)).trans (State.configChanged_keepsRest _ _ hn)
theorem State.headStored_noticed {q : Port} (hq : q ≠ .building) : (w.headStored h c).noticed .configChanged q :=
  State.raiseOthers_noticed _ _ hq

theorem State.refitHead_lasting (s : State) (old new : Bool) : (s.refitHead h old new).lasting = s.lasting := by
  unfold State.refitHead
  split
  · rfl
  · split <;> rfl
theorem State.refitHead_quiet (s : State) (old new : Bool) : s.Quiet (s.refitHead h old new) := by
  unfold State.refitHead
  split
  · exact .refl s
  · split <;> exact ⟨rfl, rfl⟩

theorem State.headRefitted_lasting : (w.headRefitted h c).lasting = { w.lasting with
    heads := upd w.heads h fun q => q.rewritten c
    store := { w.store with heads := sealWith headsImage (upd w.store.heads.contents h fun _ => c) } } := by
  have hl := w.headStored_lasting h c
  have hr : ((w.headStored h c).resetHead h).lasting = { (w.headStored h c).lasting with
      heads := upd (w.headStored h c).heads h fun q => { q with state := .unknown, co := none, no2 := none } } := rfl
  rw [State.headRefitted, State.refitHead_lasting, hr, hl, show (w.headStored h c).heads = _ from congrArg Lasting.heads hl]
  simp [upd, Head.rewritten]

theorem State.headRefitted_alarms : (w.headRefitted h c).alarms =
    (w.alarms.clear (.storeFault 1) w.partTime).clear (.headFault h) w.partTime := by
  have ht : (w.headStored h c).partTime = w.partTime := congrArg Lasting.partTime (w.headStored_lasting h c)
  rw [State.headRefitted, (State.refitHead_quiet h _ _ _).1]
  show ((w.headStored h c).alarms.clear (.headFault h) (w.headStored h c).partTime) = _
  rw [State.headStored_alarms, ht]

theorem State.resetHead_keepsRest (s : State) (hk : .headFault h ∈ ks) : s.KeepsRest (s.resetHead h) ks ns :=
  ((State.Quiet.keepsRest (s.modHead_quiet h _) ks ns).trans (State.clearAlarm_keepsRest _ hk)).trans
    (State.Quiet.keepsRest (State.modLine_quiet _ _) ks ns)
theorem State.headRefitted_keepsRest (hk : .storeFault 1 ∈ ks) (hk' : .headFault h ∈ ks) (hn : .configChanged ∈ ns) :
    w.KeepsRest (w.headRefitted h c) ks ns :=
  ((w.headStored_keepsRest h c hk hn).trans (State.resetHead_keepsRest h _ hk')).trans
    (State.Quiet.keepsRest (State.refitHead_quiet h _ _ _) ks ns)

theorem State.headRefitted_noticed {q : Port} (hq : q ≠ .building) : (w.headRefitted h c).noticed .configChanged q := by
  have hn := w.headStored_noticed h c hq
  have hp : (w.headRefitted h c).ports = (w.headStored h c).ports := (State.refitHead_quiet h _ _ _).2
  simpa only [State.noticed, State.port, hp] using hn

/-- R10, R153: the link of a changed head is clear. -/
theorem State.headRefitted_link : (w.headRefitted h c).link (.head h) = {} := by
  have hl : ∀ (l : FieldLine) (d : Device), (l.setLink d {}).links[d.place.val] = {} := fun l d => upd_get_self _ _ _
  unfold State.headRefitted State.refitHead
  split
  · exact hl _ (.head h)
  · split
    · exact hl _ (.head h)
    · exact hl _ (.head h)

/-- R153: an exchange in flight with a head that ceases to be fitted is disowned. -/
theorem disown_eq (d : Device) (x : Option Exchange) :
    disown d x = x.map fun x => if x.device = d then { x with disowned := true } else x := by cases x <;> rfl

theorem State.headRefitted_inFlight : (w.headRefitted h c).line.inFlight = w.line.inFlight.map fun x =>
    if x.device = .head h ∧ (w.head h).config.fitted = true ∧ c.fitted = false then { x with disowned := true } else x := by
  have hi : ((w.headStored h c).resetHead h).line.inFlight = w.line.inFlight := by
    have h0 : ((w.headStored h c).resetHead h).line.inFlight = (w.headStored h c).line.inFlight := rfl
    rw [h0, State.headStored_line]
  unfold State.headRefitted State.refitHead
  by_cases he : (w.head h).config.fitted = c.fitted
  · rw [if_pos he, hi, he]
    simp
  · rw [if_neg he]
    cases hc : c.fitted
    · have ho : (w.head h).config.fitted = true := by simpa [hc] using he
      simp only [Bool.false_eq_true, if_false, ho, and_true]
      show disown (.head h) ((w.headStored h c).resetHead h).line.inFlight = _
      rw [hi, disown_eq]
    · simp only [if_true, Bool.true_eq_false, and_false, if_false, Option.map_id']
      exact hi

theorem State.rebuildPolls_rebuildPolls (v : State) : v.rebuildPolls.rebuildPolls = v.rebuildPolls := rfl

/-- R146: the poll list is rebuilt where the fitted field has changed. -/
theorem State.headRefitted_polls (hf : (w.head h).config.fitted ≠ c.fitted) :
    (w.headRefitted h c).rebuildPolls = w.headRefitted h c := by
  unfold State.headRefitted State.refitHead
  rw [if_neg hf]
  split <;> exact State.rebuildPolls_rebuildPolls _

end

end Sys2Proof.Machine

/-! ## WRITE HEAD: the zones served before and after (R10, R16 to R20) -/

namespace Sys2Proof.Machine

section
variable {s u v : State} {p : Port} {r : Response} {old new y : ZoneId}

/-! ### The zones worked out again -/

theorem State.refreshZones_workedOut (s : State) (hy : y = old ∨ y = new) : (s.refreshZones old new).WorkedOut y (s.zone y) := by
  unfold State.refreshZones
  by_cases he : old = new
  · rw [if_pos he, hy.elim id fun e => e.trans he.symm]
    exact s.refreshZone_workedOut old
  · rw [if_neg he]
    rcases hy with rfl | rfl
    · exact (s.refreshZone_workedOut y).congr (State.refreshZone_heads _ new) (State.refreshZone_zone_other _ he)
    · have hw := (s.refreshZone old).refreshZone_workedOut y
      rwa [State.refreshZone_zone_other s (Ne.symm he)] at hw
theorem State.refreshZones_heads (s : State) (old new : ZoneId) : (s.refreshZones old new).heads = s.heads := by
  unfold State.refreshZones; split <;> simp only [State.refreshZone_heads]
theorem State.refreshZones_zone_other (s : State) (ho : y ≠ old) (hn : y ≠ new) : (s.refreshZones old new).zone y = s.zone y := by
  unfold State.refreshZones; split <;> simp only [State.refreshZone_zone_other _ ho, State.refreshZone_zone_other _ hn]
theorem State.refreshZones_config (s : State) (old new y : ZoneId) :
    ((s.refreshZones old new).zone y).config = (s.zone y).config := by
  unfold State.refreshZones; split <;> simp only [State.refreshZone_config]
theorem State.refreshZones_inEvaluator (s : State) (old new : ZoneId) : s.InEvaluator (s.refreshZones old new) := by
  unfold State.refreshZones
  split
  · exact s.refreshZone_inEvaluator old
  · exact (s.refreshZone_inEvaluator old).trans (State.refreshZone_inEvaluator _ new)
theorem State.refreshZones_quiet (s : State) (old new : ZoneId) : s.Quiet (s.refreshZones old new) := by
  unfold State.refreshZones
  split
  · exact s.refreshZone_quiet old
  · exact (s.refreshZone_quiet old).trans (State.refreshZone_quiet _ new)

/-- R146: a poll list that is rebuilt is so wherever the line beside its queue and the fittings are the same. -/
theorem State.rebuildPolls_of_line (h : v.rebuildPolls = v) (hl : { u.line with queue := v.line.queue } = v.line)
    (hf : ∀ d, u.deviceFitted d = v.deviceFitted d) : u.rebuildPolls = u := by
  have hd : u.fittedDevices = v.fittedDevices := fittedDevices_congr hf
  have hlist : u.line.pollList = v.line.pollList := by rw [← hl]
  have hpos : u.line.position = v.line.position := by rw [← hl]
  have hlast : u.line.lastPolled = v.line.lastPolled := by rw [← hl]
  have hv := congrArg State.line h
  have hvlist : v.fittedDevices = v.line.pollList := congrArg FieldLine.pollList hv
  have hvpos : firstAbove v.fittedDevices v.line.lastPolled = v.line.position := congrArg FieldLine.position hv
  show u.modLine (fun l => { l with pollList := u.fittedDevices, position := firstAbove u.fittedDevices l.lastPolled }) = u
  rw [← hd] at hvlist hvpos
  rw [← hlist] at hvlist
  rw [← hpos, ← hlast] at hvpos
  rw [State.modLine, hvpos, hvlist]

/-! ### The effect of an accepted WRITE HEAD, less its passes -/

/-- R157: what lasts of a request whose owner works in the evaluator and the store alone. -/
theorem State.sends_lasting_stored {st : Store}
    (h : u.lasting = { (s.frameTaken p).lasting with zones := u.zones, heads := u.heads, store := st }) :
    (u.sends p r).lasting = { s.answered p r with zones := (u.sends p r).zones, heads := (u.sends p r).heads, store := st } := by
  rw [State.sends_zones, State.sends_heads, State.sends_lasting, h]; rfl

variable (w : State) (h : HeadId) (c : HeadConfig)

theorem State.headWritten_lasting : (w.headWritten h c).lasting = { w.lasting with
    zones := (w.headWritten h c).zones, heads := (w.headWritten h c).heads
    store := { w.store with heads := sealWith headsImage (upd w.store.heads.contents h fun _ => c) } } := by
  rw [State.headWritten_eq]
  split
  · have hl := w.headStored_lasting h c
    rw [hl, show (w.headStored h c).zones = w.zones from congrArg Lasting.zones hl,
      show (w.headStored h c).heads = _ from congrArg Lasting.heads hl]
    rfl
  · rw [(State.refreshZones_inEvaluator _ _ _).lasting, State.headRefitted_lasting]

theorem State.headWritten_keepsRest : w.KeepsRest (w.headWritten h c) [.storeFault 1, .headFault h] [.configChanged] := by
  rw [State.headWritten_eq]
  split
  · exact w.headStored_keepsRest h c (by simp) (by simp)
  · exact (w.headRefitted_keepsRest h c (by simp) (by simp) (by simp)).trans ((State.refreshZones_quiet _ _ _).keepsRest _ _)

theorem State.headWritten_noticed {q : Port} (hq : q ≠ .building) : (w.headWritten h c).noticed .configChanged q := by
  rw [State.headWritten_eq]
  split
  · exact w.headStored_noticed h c hq
  · have hn := w.headRefitted_noticed h c hq
    have hp := (State.refreshZones_quiet (w.headRefitted h c) (w.head h).config.zone c.zone).2
    simpa only [State.noticed, State.port, hp] using hn

theorem State.headWritten_inFlight : (w.headWritten h c).line.inFlight = w.line.inFlight.map fun x =>
    if x.device = .head h ∧ (w.head h).config.fitted = true ∧ c.fitted = false then { x with disowned := true } else x := by
  rw [State.headWritten_eq]
  split
  · rename_i he
    rw [State.headStored_line, ← he]
    have hno : ∀ x : Exchange, ¬(x.device = .head h ∧ c.fitted = true ∧ c.fitted = false) := fun x hx =>
      absurd (hx.2.1.symm.trans hx.2.2) (by decide)
    simp only [hno, if_false, Option.map_id']
  · rw [(State.refreshZones_inEvaluator _ _ _).line, State.headRefitted_inFlight]

theorem State.headWritten_polls (hf : (w.head h).config.fitted ≠ c.fitted) : (w.headWritten h c).rebuildPolls = w.headWritten h c := by
  rw [State.headWritten_eq, if_neg fun e => hf (by rw [e])]
  exact State.rebuildPolls_of_line (w.headRefitted_polls h c hf) (by rw [(State.refreshZones_inEvaluator _ _ _).line])
    (State.refreshZones_moves _ _ _).deviceFitted

/-- R176: the entry of group 2 is not active. -/
theorem State.headWritten_storeFault (hs : w.alarms.Sound) : (w.headWritten h c).alarms.hasActive (.storeFault 1) = false := by
  rw [State.headWritten_eq]
  split
  · rw [State.headStored_alarms]; exact hs.clear_hasActive _ _
  · rw [(State.refreshZones_quiet _ _ _).1, State.headRefitted_alarms, AlarmList.clear_hasActive_other (by simp)]
    exact hs.clear_hasActive _ _

/-! ### The head and its zones -/

theorem State.headWritten_head_other {k : HeadId} (hk : k ≠ h) : (w.headWritten h c).head k = w.head k := by
  rw [State.headWritten_eq]
  split
  · exact (congrArg (fun l : Lasting => l.heads[k.val]) (w.headStored_lasting h c)).trans (upd_get_other _ _ hk)
  · show (State.refreshZones _ _ _).heads[k.val] = _
    rw [State.refreshZones_heads]
    exact (congrArg (fun l : Lasting => l.heads[k.val]) (w.headRefitted_lasting h c)).trans (upd_get_other _ _ hk)

theorem State.headRefitted_zone (y : ZoneId) : (w.headRefitted h c).zone y = w.zone y :=
  congrArg (fun l : Lasting => l.zones[y.val]) (w.headRefitted_lasting h c)

/-- R10: a write that changes no field leaves the head and the zones. -/
theorem State.headWritten_same (he : (w.head h).config = c) :
    (w.headWritten h c).head h = w.head h ∧ (w.headWritten h c).zones = w.zones := by
  have hl := w.headStored_lasting h c
  rw [State.headWritten_eq, if_pos he.symm]
  refine ⟨(congrArg (fun l : Lasting => l.heads[h.val]) hl).trans ((upd_get_self _ _ _).trans ?_), congrArg Lasting.zones hl⟩
  rw [← he]; rfl

/-- R10: a write that changes a field resets the head and works out the zones it served and serves. -/
theorem State.headWritten_changed (he : (w.head h).config ≠ c) :
    (w.headWritten h c).head h = (w.head h).rewritten c ∧ (w.headWritten h c).link (.head h) = {} ∧
    (w.alarms.Sound → (w.headWritten h c).alarms.hasActive (.headFault h) = false) ∧
    ∀ y, y = (w.head h).config.zone ∨ y = c.zone → (w.headWritten h c).WorkedOut y (w.zone y) := by
  rw [State.headWritten_eq, if_neg (Ne.symm he)]
  refine ⟨?_, ?_, fun hs => ?_, fun y hy => ?_⟩
  · show (State.refreshZones _ _ _).heads[h.val] = _
    rw [State.refreshZones_heads]
    exact (congrArg (fun l : Lasting => l.heads[h.val]) (w.headRefitted_lasting h c)).trans (upd_get_self _ _ _)
  · rw [(State.refreshZones_inEvaluator _ _ _).link, State.headRefitted_link]
  · rw [(State.refreshZones_quiet _ _ _).1, State.headRefitted_alarms]
    exact (hs.clear _ _).clear_hasActive _ _
  · rw [← w.headRefitted_zone h c y]
    exact State.refreshZones_workedOut _ hy

theorem State.headWritten_config (y : ZoneId) : ((w.headWritten h c).zone y).config = (w.zone y).config := by
  rw [State.headWritten_eq]
  split
  · exact congrArg (fun l : Lasting => (l.zones[y.val]).config) (w.headStored_lasting h c)
  · rw [State.refreshZones_config, State.headRefitted_zone]

theorem State.headWritten_zone_other {y : ZoneId} (ho : y ≠ (w.head h).config.zone) (hn : y ≠ c.zone) :
    (w.headWritten h c).zone y = w.zone y := by
  rw [State.headWritten_eq]
  split
  · exact congrArg (fun l : Lasting => l.zones[y.val]) (w.headStored_lasting h c)
  · rw [State.refreshZones_zone_other _ ho hn, State.headRefitted_zone]

end

/-- Settles O17: the state the owner leaves is `headWritten`, and the end of the request keeps what it says. -/
theorem writeHeadStoresTheFields : Obligations.WriteHeadStoresTheFields := by
  unfold Obligations.WriteHeadStoresTheFields
  intro index f zw gw h z g fit s hd hlv hh hf hz hg
  simp only
  have hc : headRecordOf [f, zw, gw] = some ⟨fit, z, g⟩ := by
    have h0 : yesNoOf (dataWord [f, zw, gw] 0) = some fit := hf
    have h1 : headZoneOf (dataWord [f, zw, gw] 1) = some z := hz
    have h2 : carriedOf (dataWord [f, zw, gw] 2) = some g := hg
    simp only [headRecordOf, h0, h1, h2]
  have hi : (s.frameTaken .building).incident = false := State.not_incident (by simpa using hlv)
  have hb : writeHeadBody index [f, zw, gw] (s.frameTaken .building) =
      doneNow ((s.frameTaken .building).headWritten h ⟨fit, z, g⟩).finish := by
    simp only [writeHeadBody, hh, unlessGuarded_of_quiet hi, hc]
  have hq : (s.frameTaken .building).head h = s.head h := State.frameTaken_head ..
  have hsound : s.alarms.Sound → (s.frameTaken .building).alarms.Sound := State.frameTaken_alarms_sound
  have hstore : (s.frameTaken .building).store = s.store := by simp
  refine ⟨(s.frameTaken .building).headWritten h ⟨fit, z, g⟩, _, serve_accepted hd rfl (by decide) rfl hb, rfl, ?lasting, fun he => ?same,
    fun he => ?changed, State.headWritten_keepsRest _ h _, fun hne => ?polls, ?flight, fun hs => ?stored, fun k hk => ?heads,
    fun y => ?config, fun y ho hn => ?zones, ?alarm, ?override⟩
  case lasting =>
    rw [← hstore]
    exact State.sends_lasting_stored (State.headWritten_lasting _ h _)
  case same =>
    have hw := (s.frameTaken .building).headWritten_same h _ (hq.symm ▸ he)
    rw [State.sends_head, State.sends_zones, hw.1, hw.2]
    exact ⟨hq, by simp⟩
  case changed =>
    obtain ⟨hhead, hlink, hfault, hwork⟩ := (s.frameTaken .building).headWritten_changed h ⟨fit, z, g⟩ (hq.symm ▸ he)
    refine ⟨?_, ?_, fun hs => ?_, fun y hy => ?_⟩
    · rw [State.sends_head, hhead, hq]; rfl
    · rw [State.sends_link, hlink]
    · rw [State.sends_hasActive _ _ _ rfl]; exact hfault (hsound hs)
    · have hy := hwork y (hq.symm ▸ hy)
      rw [State.frameTaken_zone] at hy
      exact hy.congr (State.sends_heads _ _ _) (State.sends_zone _ _ _ _)
  case polls => exact State.headWritten_polls _ h _ (hq.symm ▸ hne)
  case flight => rw [State.headWritten_inFlight, hq]; simp
  case stored =>
    rw [State.sends_hasActive _ _ _ rfl]; exact State.headWritten_storeFault _ h _ (hsound hs)
  case heads => rw [State.sends_head, State.headWritten_head_other _ h _ hk]; simp
  case config => rw [State.sends_zone, State.headWritten_config]; simp
  case zones => rw [State.sends_zone, State.headWritten_zone_other _ h _ (hq.symm ▸ ho) hn]; simp
  case alarm => exact State.sends_noticed _ _ _ _ (State.headWritten_noticed _ h _ (by decide))
  case override => exact State.sends_noticed _ _ _ _ (State.headWritten_noticed _ h _ (by decide))

end Sys2Proof.Machine

/-! ## What the fans leave of the line and the allocator, and the hand-over of smoke service (R58, R59, R83, R86, R90) -/

namespace Sys2Proof.Machine

section
variable {s t u : State} {n m : FanId} {P Q : FanId → Prop}

/-- From s to u the sequencer has worked on the fans of P: it queues for their drives, clears their entries and triggers a pass,
and leaves the rest of the line, the allocator and the active entries. -/
structure State.FanWork (s u : State) (P : FanId → Prop) : Prop where
  line : { u.line with queue := s.line.queue } = s.line
  orders : ∀ o, (∀ n, P n → o.device ≠ .drive n) → (o ∈ u.line.queue ↔ o ∈ s.line.queue)
  alloc : { u.alloc with due := s.alloc.due } = s.alloc
  due : s.alloc.due = true → u.alloc.due = true
  active : ∀ k, (∀ n, P n → k ≠ .fanFault n) → u.alarms.hasActive k = s.alarms.hasActive k
  sound : s.alarms.Sound → u.alarms.Sound

theorem State.FanWork.refl (s : State) (P : FanId → Prop) : s.FanWork s P :=
  ⟨rfl, fun _ _ => Iff.rfl, rfl, id, fun _ _ => rfl, id⟩
theorem State.FanWork.trans (h : s.FanWork t P) (k : t.FanWork u P) : s.FanWork u P := by
  refine ⟨?_, fun o ho => (k.orders o ho).trans (h.orders o ho), ?_, k.due ∘ h.due, fun j hj => (k.active j hj).trans (h.active j hj),
    k.sound ∘ h.sound⟩
  · rw [← h.line, ← k.line]
  · rw [← h.alloc, ← k.alloc]
theorem State.FanWork.mono (h : s.FanWork u P) (hp : ∀ n, P n → Q n) : s.FanWork u Q :=
  ⟨h.line, fun o ho => h.orders o fun n hn => ho n (hp n hn), h.alloc, h.due, fun k hk => h.active k fun n hn => hk n (hp n hn), h.sound⟩
theorem State.FanWork.links (h : s.FanWork u P) : s.SameLinks u := by
  have hl := congrArg FieldLine.links h.line
  exact hl
theorem State.FanWork.link (h : s.FanWork u P) (d : Device) : u.link d = s.link d := h.links.link d
theorem State.FanWork.record (h : s.FanWork u P) : u.alloc.record = s.alloc.record := by
  have ha := congrArg Allocator.record h.alloc
  exact ha
/-- Work that leaves the line, the allocator and the alarm list. -/
theorem State.FanWork.of_same (hl : u.line = s.line) (ha : u.alloc = s.alloc) (hm : u.alarms = s.alarms) : s.FanWork u P :=
  ⟨by rw [hl], fun _ _ => by rw [hl], by rw [ha], by rw [ha]; exact id, fun _ _ => by rw [hm], by rw [hm]; exact id⟩

/-! ### One fan -/

variable (s) (n)

theorem State.triggerIf_fanWork (b : Bool) : s.FanWork (s.triggerIf b) P := by
  rw [State.triggerIf_eq]
  exact ⟨rfl, fun _ _ => Iff.rfl, rfl, fun h => by simp [h], fun _ _ => rfl, id⟩
theorem State.trigger_fanWork : s.FanWork s.trigger P := s.triggerIf_fanWork true
theorem State.clearAlarm_fanWork : s.FanWork (s.clearAlarm (.fanFault n)) (· = n) :=
  ⟨rfl, fun _ _ => Iff.rfl, rfl, id, fun _ hk => AlarmList.clear_hasActive_other (hk n rfl) _, fun h => h.clear _ _⟩
theorem State.enqueue_fanWork {o : Order} (ho : o.device = .drive n) : s.FanWork (s.enqueue o) (· = n) := by
  unfold State.enqueue
  split
  · exact ⟨rfl, fun x hx => mem_enter_other (ho ▸ hx n rfl), rfl, id, fun _ _ => rfl, id⟩
  · exact .refl s _
theorem State.modFan_fanWork (f : Fan → Fan) : s.FanWork (s.modFan n f) P := .of_same rfl rfl rfl
theorem State.enterState_fanWork (st : FanState) (x : Option Nat) : s.FanWork (s.enterState n st x) P :=
  (s.modFan_fanWork n _).trans (State.triggerIf_fanWork _ _)
theorem State.queueRun_fanWork : s.FanWork (s.queueRun n) (· = n) := (s.modFan_fanWork n _).trans (State.enqueue_fanWork _ n rfl)
theorem State.startFan_fanWork : s.FanWork (s.startFan n) (· = n) :=
  ((s.modFan_fanWork n _).trans (State.enterState_fanWork _ n _ _)).trans (State.queueRun_fanWork _ n)
theorem State.startIfAllowed_fanWork : s.FanWork (s.startIfAllowed n) (· = n) := by
  unfold State.startIfAllowed
  split
  · exact s.startFan_fanWork n
  · exact .refl s _
theorem State.enterReady_fanWork : s.FanWork (s.enterReady n) (· = n) :=
  ((s.enterState_fanWork n _ _).trans (State.clearAlarm_fanWork _ n)).trans (State.startIfAllowed_fanWork _ n)

variable {s n}

theorem foldl_fanWork {f : State → FanId → State} (h : ∀ (s : State) (n : FanId), s.FanWork (f s n) (· = n)) (l : List FanId) (s : State) :
    s.FanWork (l.foldl f s) (· ∈ l) := by
  induction l generalizing s with
  | nil => exact .refl s _
  | cons a l ih =>
    exact ((h s a).mono fun n hn => hn ▸ List.mem_cons_self).trans ((ih _).mono fun n hn => List.mem_cons_of_mem a hn)
theorem State.eachFan_fanWork (s : State) {f : State → FanId → State} (h : ∀ (s : State) (n : FanId), s.FanWork (f s n) (· = n)) :
    s.FanWork (s.eachFan f) fun _ => True := (foldl_fanWork h _ s).mono fun _ _ => trivial

/-! ### The path and smoke service -/

/-- R86, R90: a restart hold ends as smoke service begins. -/
def State.endHold (s : State) (n : FanId) : State := if (s.fan n).state = .restartHold then s.enterReady n else s

theorem State.smokeBegins_eq (s : State) : s.smokeBegins = State.eachFan { s with grace := none } State.endHold := rfl

theorem State.endHold_onlyFan (s : State) (n : FanId) : s.OnlyFan (s.endHold n) n := by
  unfold State.endHold
  split
  · exact s.enterReady_onlyFan n
  · exact .refl s n
theorem State.endHold_fanWork (s : State) (n : FanId) : s.FanWork (s.endHold n) (· = n) := by
  unfold State.endHold
  split
  · exact s.enterReady_fanWork n
  · exact .refl s _

variable (s)

theorem State.smokeBegins_fanWork : s.FanWork s.smokeBegins fun _ => True :=
  (State.FanWork.of_same (s := s) (u := { s with grace := none }) rfl rfl rfl).trans (State.eachFan_fanWork _ State.endHold_fanWork)
theorem State.smokeEnds_fanWork : s.FanWork s.smokeEnds P := by
  unfold State.smokeEnds
  split
  · exact .of_same rfl rfl rfl
  · exact .refl s _
theorem State.handSmoke_fanWork (b : Bool) : s.FanWork (s.handSmoke b) fun _ => True := by
  unfold State.handSmoke
  split
  · exact s.smokeBegins_fanWork
  · split
    · exact s.smokeEnds_fanWork
    · exact .refl s _
theorem State.rolesTaken_fanWork : s.FanWork s.rolesTaken P :=
  ⟨rfl, fun _ _ => Iff.rfl, rfl, fun h => by simp [State.rolesTaken, h], fun _ _ => rfl, id⟩
theorem State.recomputeRoles_fanWork : s.FanWork s.recomputeRoles fun _ => True := by
  rw [State.recomputeRoles_eq]
  exact s.rolesTaken_fanWork.trans (State.handSmoke_fanWork _ _)
theorem State.pathGained_fanWork : s.FanWork s.pathGained fun _ => True := by
  refine (State.FanWork.of_same (s := s) (u := { s with grace := none }) rfl rfl rfl).trans (State.eachFan_fanWork _ fun q n => ?_)
  split
  · exact q.startIfAllowed_fanWork n
  · exact .refl q _
theorem State.pathLost_fanWork : s.FanWork s.pathLost P := by
  unfold State.pathLost
  split
  · split <;> exact .of_same rfl rfl rfl
  · exact .refl s _
theorem State.reprove_fanWork : s.FanWork s.reprove fun _ => True := by
  unfold State.reprove
  split
  · exact .refl s _
  · split
    · exact ((State.FanWork.of_same (s := s) (u := { s with pathProven := true }) rfl rfl rfl).trans (State.pathGained_fanWork _)).trans
        (State.trigger_fanWork _)
    · exact ((State.FanWork.of_same (s := s) (u := { s with pathProven := false }) rfl rfl rfl).trans (State.pathLost_fanWork _)).trans
        (State.trigger_fanWork _)

/-! ### The end of the restart holds (R86) -/

variable (n)

/-- R83: the RUN of a start is queued for a drive that takes commands. -/
theorem State.startFan_run (hc : (s.fan n).config.fitted = true) (hl : (s.link (.drive n)).lost = false) :
    .run n ((s.fan n).runSpeed s.alloc.record.speed) s.alloc.record.smoke ∈ (s.startFan n).line.queue := by
  generalize hx : (s.modFan n fun f => { f with startPending := false, starts := bump Config.lastCount f.starts }).enterState n
    .starting (some (s.fan n).config.startLimit) = x
  have hxf : x.fan n = { s.fan n with
      startPending := false, starts := bump Config.lastCount (s.fan n).starts, state := .starting
      timer := some (s.fan n).config.startLimit } := by
    rw [← hx, State.enterState_fan, State.modFan_fan_self]
  have hw : s.FanWork x (fun _ => False) := hx ▸ (s.modFan_fanWork n _).trans (State.enterState_fanWork _ n _ _)
  have he : (s.startFan n).line.queue = (x.queueRun n).line.queue := by rw [← hx]; rfl
  have hr : .run n ((s.fan n).runSpeed s.alloc.record.speed) s.alloc.record.smoke =
      Order.run n ((x.fan n).runSpeed x.alloc.record.speed) x.alloc.record.smoke := by rw [hw.record, hxf]; rfl
  rw [he, hr]
  refine State.enqueue_mem _ _ ?_ ?_
  · show ((x.modFan n _).fan n).config.fitted = true
    rw [State.modFan_fan_self, hxf]; exact hc
  · exact (congrArg Link.lost (hw.link (.drive n))).trans hl

/-- R83, R89, R91: a fan whose restart hold ends enters READY. -/
theorem State.enterReady_readied (h : (s.fan n).state = .restartHold) : s.Readied (s.enterReady n) n (s.fan n) := by
  refine ⟨s.enterReady_fan n, fun hs => ?_, ?_, fun hc hl hp hpr => ?_⟩
  · rw [(s.enterReady_clears n).1]; exact hs.clear_hasActive _ _
  · have hd : (s.enterState n .ready none).alloc.due = true := by
      simp [State.enterState, State.triggerIf_eq, h, eligibilityMove, FanState.inGroup]
    exact ((State.clearAlarm_fanWork _ n).trans (State.startIfAllowed_fanWork _ n)).due hd
  · generalize hx : (s.enterState n .ready none).clearAlarm (.fanFault n) = x
    have hxf : x.fan n = { s.fan n with state := .ready, timer := none } := by
      rw [← hx, State.clearAlarm_fan, State.enterState_fan]
    have ho : s.OnlyFan x n := hx ▸ (s.enterState_onlyFan n .ready none).trans (State.clearAlarm_onlyFan _ n _)
    have he : s.enterReady n = x.startFan n := by
      unfold State.enterReady State.startIfAllowed
      rw [hx, if_pos]
      rw [ho.pathProven, hpr, hxf]; simpa using hp
    rw [he, (x.startFan_fanWork n).link] at hl
    have hm := x.startFan_run n (by rw [hxf]; exact hc) hl
    rw [hxf, ho.record] at hm
    rw [he]
    exact hm

variable {s n}

/-- R86: what is worked on the other fans afterwards leaves a fan that has entered READY so. -/
theorem State.Readied.after {q : Fan} (h : s.Readied t n q) (k : t.FanWork u P) (hn : ¬P n) (hf : u.fan n = t.fan n) :
    s.Readied u n q := by
  refine ⟨hf.trans h.fan, fun hs => ?_, k.due h.due, fun hc hl hp hpr => ?_⟩
  · rw [k.active _ fun m hm e => hn (by cases e; exact hm)]; exact h.entry hs
  · rw [k.link] at hl
    exact (k.orders _ fun m hm e => hn (by cases e; exact hm)).2 (h.run hc hl hp hpr)
/-- R86: and so does what was worked before. -/
theorem State.Readied.before {q : Fan} (h : t.Readied u n q) (k : s.FanWork t P) (hp : t.pathProven = s.pathProven) :
    s.Readied u n q := by
  have hr := k.record
  refine ⟨by rw [← hp, ← hr]; exact h.fan, fun hs => h.entry (k.sound hs), h.due, ?_⟩
  rw [← hp, ← hr]; exact h.run

/-- R86, R90: of the fans in turn those in RESTART_HOLD enter READY, and the others stay. -/
theorem foldl_endHold {l : List FanId} (hl : l.Nodup) (s : State) (n : FanId) :
    if n ∈ l ∧ (s.fan n).state = .restartHold then s.Readied (l.foldl State.endHold s) n (s.fan n)
    else (l.foldl State.endHold s).fan n = s.fan n := by
  induction l generalizing s with
  | nil => simp
  | cons a l ih =>
    obtain ⟨ha, hl⟩ := List.nodup_cons.1 hl
    have h := ih hl (s.endHold a)
    rw [List.foldl_cons]
    by_cases hn : n = a
    · subst hn
      rw [if_neg fun k => ha k.1] at h
      by_cases hr : (s.fan n).state = .restartHold
      · rw [if_pos ⟨List.mem_cons_self, hr⟩]
        have h1 : s.Readied (s.endHold n) n (s.fan n) := by
          rw [State.endHold, if_pos hr]; exact s.enterReady_readied n hr
        exact h1.after (foldl_fanWork State.endHold_fanWork l _) ha h
      · rw [if_neg fun k => hr k.2, h, State.endHold, if_neg hr]
    · have hf := (s.endHold_onlyFan a).others n hn
      rw [hf] at h
      have hm : n ∈ a :: l ↔ n ∈ l := by simp [hn]
      simp only [hm]
      split
      · rename_i hc
        rw [if_pos hc] at h
        exact h.before (s.endHold_fanWork a) (s.endHold_onlyFan a).pathProven
      · rename_i hc
        rwa [if_neg hc] at h

/-! ### The roles handed on (R58, R59, R86, R90) -/

theorem State.anyTurning_iff (s : State) : s.anyTurning = true ↔ s.AnyTurning := by
  have ht : ∀ x : FanState, x.turning = true ↔ x = .starting ∨ x = .running := fun x => by cases x <;> simp [FanState.turning]
  simp only [State.anyTurning, State.AnyTurning, List.any_eq_true, List.mem_finRange, true_and, ht]

theorem State.smokeBegins_plant (s : State) : s.smokeBegins.plant = { s.plant with grace := none } :=
  foldl_keeps (P := fun q => q.plant = { s.plant with grace := none })
    (fun q n h => (q.endHold_onlyFan n).plant.trans h) _ { s with grace := none } rfl

theorem State.smokeBegins_grace (s : State) : s.smokeBegins.grace = none :=
  foldl_keeps (P := fun q => q.grace = none) (fun q n h => (q.endHold_onlyFan n).grace.trans h) _ { s with grace := none } rfl
/-- R86, R90: as smoke service begins, every fan in RESTART_HOLD enters READY. -/
theorem State.smokeBegins_fan (s : State) (n : FanId) :
    if (s.fan n).state = .restartHold then s.Readied s.smokeBegins n (s.fan n) else s.smokeBegins.fan n = s.fan n := by
  have hn := foldl_endHold (List.nodup_finRange 8) { s with grace := none } n
  have hf : ({ s with grace := none } : State).fan n = s.fan n := rfl
  have hk : s.FanWork { s with grace := none } fun _ => False := .of_same rfl rfl rfl
  rw [hf] at hn
  rw [State.smokeBegins_eq, State.eachFan]
  split
  · rename_i hc
    rw [if_pos ⟨List.mem_finRange n, hc⟩] at hn
    exact hn.before hk rfl
  · rename_i hc
    rw [if_neg fun k => hc k.2] at hn
    exact hn

theorem State.handSmoke_begins (s : State) {b : Bool} (hb : b = false) (hs : s.resolver.smoke = true) :
    s.handSmoke b = s.smokeBegins := by simp [State.handSmoke, hb, hs]
theorem State.handSmoke_ends (s : State) {b : Bool} (hb : b = true) (hs : s.resolver.smoke = false) :
    s.handSmoke b = s.smokeEnds := by simp [State.handSmoke, hb, hs]
theorem State.handSmoke_stays (s : State) {b : Bool} (hb : s.resolver.smoke = b) : s.handSmoke b = s := by
  cases b <;> simp [State.handSmoke, hb]

theorem State.smokeEnds_fans (s : State) : s.smokeEnds.fans = s.fans ∧ s.smokeEnds.line = s.line := by
  unfold State.smokeEnds; split <;> exact ⟨rfl, rfl⟩
theorem State.smokeEnds_grace (s : State) :
    (s.pathProven = false → s.AnyTurning → s.smokeEnds.grace = some 10) ∧
    (s.pathProven = true ∨ ¬s.AnyTurning → s.smokeEnds.grace = s.grace) := by
  rw [← State.anyTurning_iff]
  unfold State.smokeEnds
  refine ⟨fun hp ht => ?_, fun h => ?_⟩
  · rw [if_pos (by simp [hp, ht])]; rfl
  · rw [if_neg (by simpa [Classical.or_iff_not_imp_left] using h)]
theorem State.handSmoke_plant (s : State) (b : Bool) : { (s.handSmoke b).plant with grace := s.grace } = s.plant := by
  unfold State.handSmoke
  split
  · rw [State.smokeBegins_plant]; rfl
  · split
    · unfold State.smokeEnds; split <;> rfl
    · rfl

/-- R59: what has changed of the roles, smoke service or the class is a trigger. -/
theorem State.rolesTaken_due (s : State) : s.rolesTaken.alloc.due = true ↔ s.alloc.due = true ∨ False ∨
    s.rolesTaken.resolver.roles ≠ s.resolver.roles ∨ s.rolesTaken.resolver.smoke ≠ s.resolver.smoke ∨
    s.rolesTaken.resolver.cls ≠ s.resolver.cls := by
  simp [State.rolesTaken]

theorem State.recomputeRoles_plant (s : State) :
    { s.recomputeRoles.plant with grace := s.grace, indications := s.indications } = s.plant := by
  have h := s.rolesTaken.handSmoke_plant s.resolver.smoke
  have hr : s.rolesTaken.plant = { s.plant with indications := s.rolesTaken.indications } := rfl
  have hg : s.rolesTaken.grace = s.grace := rfl
  have hi : s.plant.indications = s.indications := rfl
  rw [← State.recomputeRoles_eq, hr, hg] at h
  generalize s.recomputeRoles.plant = p at h ⊢
  rw [← hi]
  exact congrArg (fun q : Plant => { q with indications := s.plant.indications }) h

theorem State.recomputeRoles_due (s : State) : s.recomputeRoles.alloc.due = true ↔ s.rolesTaken.alloc.due = true := by
  rw [State.recomputeRoles_eq]
  by_cases hs : s.rolesTaken.resolver.smoke = s.resolver.smoke
  · rw [State.handSmoke_stays _ hs]
  · have hd : s.rolesTaken.alloc.due = true := s.rolesTaken_due.2 (.inr (.inr (.inr (.inl hs))))
    exact iff_of_true ((State.handSmoke_fanWork _ _).due hd) hd

/-- R86, R90: the roles worked out again begin smoke service. -/
theorem State.recomputeRoles_begins {s : State} (h0 : s.resolver.smoke = false) (h1 : s.rolesTaken.resolver.smoke = true) :
    s.recomputeRoles.grace = none ∧ ∀ n,
      if (s.fan n).state = .restartHold then s.Readied s.recomputeRoles n (s.fan n) else s.recomputeRoles.fan n = s.fan n := by
  rw [State.recomputeRoles_eq, State.handSmoke_begins _ h0 h1]
  refine ⟨s.rolesTaken.smokeBegins_grace, fun n => ?_⟩
  have hn := s.rolesTaken.smokeBegins_fan n
  have hf : s.rolesTaken.fan n = s.fan n := rfl
  have hp : s.rolesTaken.pathProven = s.pathProven := rfl
  rw [hf] at hn
  split
  · rename_i hc
    rw [if_pos hc] at hn
    exact hn.before (s.rolesTaken_fanWork (P := fun _ => False)) hp
  · rename_i hc
    rw [if_neg hc] at hn
    exact hn

theorem State.rolesTaken_beside (s : State) : s.rolesTaken.fans = s.fans ∧ s.rolesTaken.line = s.line ∧
    s.rolesTaken.pathProven = s.pathProven ∧ s.rolesTaken.grace = s.grace := by
  simp only [State.rolesTaken, and_self]
theorem State.AnyTurning.congr (h : u.fans = s.fans) : u.AnyTurning ↔ s.AnyTurning := by
  simp only [State.AnyTurning, State.fan, h]

/-- R90: the roles worked out again end smoke service. -/
theorem State.recomputeRoles_ends {s : State} (h1 : s.resolver.smoke = true) (h0 : s.rolesTaken.resolver.smoke = false) :
    s.recomputeRoles.fans = s.fans ∧ s.recomputeRoles.line = s.line ∧
    (s.pathProven = false → s.AnyTurning → s.recomputeRoles.grace = some 10) ∧
    (s.pathProven = true ∨ ¬s.AnyTurning → s.recomputeRoles.grace = s.grace) := by
  rw [State.recomputeRoles_eq, State.handSmoke_ends _ h1 h0]
  obtain ⟨hfans, hline, hp, hg⟩ := s.rolesTaken_beside
  obtain ⟨hset, hkept⟩ := s.rolesTaken.smokeEnds_grace
  rw [hp, State.AnyTurning.congr hfans] at hset hkept
  rw [hg] at hkept
  rw [s.rolesTaken.smokeEnds_fans.1, s.rolesTaken.smokeEnds_fans.2]
  exact ⟨hfans, hline, hset, hkept⟩

theorem State.recomputeRoles_stays {s : State} (h : s.rolesTaken.resolver.smoke = s.resolver.smoke) :
    s.recomputeRoles.fans = s.fans ∧ s.recomputeRoles.line = s.line ∧ s.recomputeRoles.grace = s.grace := by
  rw [State.recomputeRoles_eq, State.handSmoke_stays _ h]
  exact ⟨rfl, rfl, rfl⟩

/-- R59, R86, R90: a recomputation of the roles hands smoke service on. -/
theorem State.recomputeRoles_handed (s : State) : s.RolesHanded s.recomputeRoles False := by
  have hw := s.recomputeRoles_fanWork
  have hr := s.recomputeRoles_resolver
  refine ⟨?_, hw.alloc, s.recomputeRoles_plant, hw.link, ?_, ?_, ?_⟩
  · rw [hr, State.recomputeRoles_due, State.rolesTaken_due]
  · rw [hr]; exact State.recomputeRoles_begins
  · rw [hr]; exact State.recomputeRoles_ends
  · rw [hr]; exact State.recomputeRoles_stays

end

end Sys2Proof.Machine

/-! ## The dampers and the line of a zone that becomes or ceases to be fitted (R107, R153) -/

namespace Sys2Proof.Machine

section
variable {s t u v : State} {z y : ZoneId} {d e : Device}

/-! ### Links, queue and exchange of a device -/

theorem Device.place_inj (h : d.place = e.place) : d = e := by
  have hv : d.place.val = e.place.val := congrArg Fin.val h
  cases d <;> cases e <;> simp only [Device.place] at hv <;>
    simp only [Device.head.injEq, Device.drive.injEq, Device.extract.injEq, Device.makeUp.injEq, reduceCtorEq, Fin.ext_iff] <;> omega

theorem FieldLine.setLink_self (l : FieldLine) (d : Device) (k : Link) : (l.setLink d k).links[d.place.val] = k := upd_get_self _ _ _
theorem FieldLine.setLink_other (l : FieldLine) (k : Link) (h : e ≠ d) : (l.setLink d k).links[e.place.val] = l.links[e.place.val] :=
  upd_get_other _ _ fun p => h (Device.place_inj p)

/-- R147: a command that is queued changes nothing of the commands of the other devices. -/
theorem filter_enter {q : List Order} {o : Order} {p : Order → Bool} (h : ∀ x : Order, x.device = o.device → p x = false) :
    (enter q o).filter p = q.filter p := by
  unfold enter
  split
  · exact filter_map_ite q fun x hx => ⟨h x hx, h o rfl⟩
  · rw [List.filter_append, List.filter_singleton, h o rfl]; simp

/-! ### Both dampers -/

/-- From s to v the dampers of a zone have started or stopped with the zone's fitted field: nothing but their records, links,
commands, exchange and entries has changed, and the poll list is rebuilt. -/
structure State.DampersRefit (s v : State) (z : ZoneId) : Prop where
  lasting : v.lasting = s.lasting
  fans : v.fans = s.fans
  alloc : v.alloc = s.alloc
  plant : { v.plant with extract := s.extract, makeUp := s.makeUp, indications := s.indications } = s.plant
  extractOf : ∀ y, y ≠ z → v.extractOf y = s.extractOf y
  makeUpOf : ∀ y, y ≠ z → v.makeUpOf y = s.makeUpOf y
  extractLink : v.link (.extract z) = {}
  makeUpLink : v.link (.makeUp z) = {}
  links : ∀ d, ¬(d = .extract z ∨ d = .makeUp z) → v.link d = s.link d
  queue : (v.line.queue.filter fun o => ¬(o.device = .extract z ∨ o.device = .makeUp z)) =
    s.line.queue.filter fun o => ¬(o.device = .extract z ∨ o.device = .makeUp z)
  polls : v.rebuildPolls = v

/-! ### A zone that becomes fitted -/

/-- R153: both dampers' links are clear and the poll list is rebuilt. -/
def State.dampersFitted (s : State) (z : ZoneId) : State := ((s.fitDevice (.extract z)).fitDevice (.makeUp z)).rebuildPolls

theorem State.fitDampers_eq (s : State) (z : ZoneId) : s.fitDampers z = ((s.dampersFitted z).startExtract z).startMakeUp z := rfl

theorem State.dampersFitted_link_self (s : State) (z : ZoneId) :
    (s.dampersFitted z).link (.extract z) = {} ∧ (s.dampersFitted z).link (.makeUp z) = {} := by
  have hl : (s.dampersFitted z).line.links = ((s.line.setLink (.extract z) {}).setLink (.makeUp z) {}).links := rfl
  unfold State.link
  rw [hl, FieldLine.setLink_self, FieldLine.setLink_other _ _ (by simp), FieldLine.setLink_self]
  exact ⟨rfl, rfl⟩
theorem State.dampersFitted_link_other (s : State) (h : ¬(d = .extract z ∨ d = .makeUp z)) : (s.dampersFitted z).link d = s.link d := by
  have hl : (s.dampersFitted z).line.links = ((s.line.setLink (.extract z) {}).setLink (.makeUp z) {}).links := rfl
  unfold State.link
  rw [hl, FieldLine.setLink_other _ _ fun k => h (.inr k), FieldLine.setLink_other _ _ fun k => h (.inl k)]

/-- R107: SET 0 and CLOSE are queued. -/
theorem State.fitDampers_queue (s : State) (hf : (s.zone z).config.fitted = true) :
    (s.fitDampers z).line.queue = enter (enter s.line.queue (.set z 0)) (.close z) := by
  have hx := (s.dampersFitted z).startExtract_starting z
  have hz : ((s.dampersFitted z).zone z).config.fitted = true := hf
  obtain ⟨he, hm⟩ := s.dampersFitted_link_self z
  rw [State.fitDampers_eq, State.startMakeUp_queue _ z (by rw [hx.zone]; exact hz) (by rw [hx.link, hm]),
    State.startExtract_queue _ z hz (by rw [he])]
  rfl

theorem State.fitDampers_refit (s : State) (hf : (s.zone z).config.fitted = true) : s.DampersRefit (s.fitDampers z) z := by
  have hx : (s.dampersFitted z).Starting (s.fitDampers z) := s.fitDampers_starting z
  have hother : ∀ y, y ≠ z → (s.fitDampers z).extractOf y = s.extractOf y ∧ (s.fitDampers z).makeUpOf y = s.makeUpOf y := by
    intro y hy
    rw [State.fitDampers_eq, State.startMakeUp_extractOf, State.startExtract_extractOf_other _ hy,
      State.startMakeUp_makeUpOf_other _ hy, State.startExtract_makeUpOf]
    exact ⟨rfl, rfl⟩
  refine ⟨hx.lasting, hx.fans, hx.alloc, hx.plant, fun y hy => (hother y hy).1, fun y hy => (hother y hy).2, ?_, ?_, fun d hd => ?_, ?_, ?_⟩
  · rw [hx.link]; exact (s.dampersFitted_link_self z).1
  · rw [hx.link]; exact (s.dampersFitted_link_self z).2
  · rw [hx.link]; exact s.dampersFitted_link_other hd
  · rw [State.fitDampers_queue s hf, filter_enter fun x hx => ?_, filter_enter fun x hx => ?_]
    · have hd : x.device = .extract z := hx
      simp [hd]
    · have hd : x.device = .makeUp z := hx
      simp [hd]
  · exact State.rebuildPolls_of_line (State.rebuildPolls_rebuildPolls _) hx.line hx.deviceFitted

/-- R107: both dampers stand as at reset and travel with their full limits. -/
theorem State.fitDampers_dampers (s : State) (z : ZoneId) :
    (s.fitDampers z).extractOf z = { timer := some (s.zone z).config.travelLimit } ∧
    (s.fitDampers z).makeUpOf z = { timer := some 60 } := by
  rw [State.fitDampers_eq, State.startMakeUp_extractOf, State.startExtract_extractOf, State.startMakeUp_makeUpOf]
  exact ⟨rfl, rfl⟩

theorem State.fitDampers_quiet (s : State) (z : ZoneId) : s.Quiet (s.fitDampers z) := (s.fitDampers_starting z).quiet
theorem State.fitDampers_inFlight (s : State) (z : ZoneId) : (s.fitDampers z).line.inFlight = s.line.inFlight := by
  have h := congrArg FieldLine.inFlight (s.fitDampers_starting z).line
  exact h

/-! ### A zone that ceases to be fitted -/

theorem State.stopExtract_onlyExtract (s : State) (z : ZoneId) : s.OnlyExtract (s.stopExtract z) z :=
  (s.modExtract_onlyExtract z _).trans (State.clearAlarm_onlyExtract _ z _)
theorem State.stopMakeUp_onlyMakeUp (s : State) (z : ZoneId) : s.OnlyMakeUp (s.stopMakeUp z) z :=
  (s.modMakeUp_onlyMakeUp z _).trans (State.clearAlarm_onlyMakeUp _ z _)

/-- R107: both dampers' timers are stopped and their entries cleared. -/
def State.dampersStopped (s : State) (z : ZoneId) : State := (s.stopExtract z).stopMakeUp z

/-- R153: the line of two devices that cease to be fitted. -/
def FieldLine.without (l : FieldLine) (d e : Device) : FieldLine :=
  { (l.setLink d {}).setLink e {} with queue := dropFor e (dropFor d l.queue), inFlight := disown e (disown d l.inFlight) }

theorem State.unfitDampers_eq (s : State) (z : ZoneId) : s.unfitDampers z =
    ((s.dampersStopped z).modLine fun l => l.without (.extract z) (.makeUp z)).rebuildPolls := rfl

theorem State.dampersStopped_dampers (s : State) (z : ZoneId) :
    (s.dampersStopped z).extractOf z = { s.extractOf z with timer := none } ∧
    (s.dampersStopped z).makeUpOf z = { s.makeUpOf z with timer := none } :=
  ⟨s.modExtract_extractOf_self z _, (s.stopExtract z).modMakeUp_makeUpOf_self z _⟩

theorem dropFor_dropFor (d e : Device) (q : List Order) :
    dropFor e (dropFor d q) = q.filter fun o => ¬(o.device = d ∨ o.device = e) := by
  unfold dropFor
  rw [List.filter_filter]
  congr 1
  funext o
  by_cases hd : o.device = d <;> by_cases he : o.device = e <;> simp [hd, he]
theorem disown_disown (d e : Device) (x : Option Exchange) :
    disown e (disown d x) = x.map fun x => if x.device = d ∨ x.device = e then { x with disowned := true } else x := by
  cases x with
  | none => rfl
  | some x =>
    by_cases h : x.device = d
    · simp [disown, h]
    · have hx : disown d (some x) = some x := congrArg some (if_neg h)
      rw [hx, disown_eq]
      simp [h]

theorem State.unfitDampers_links (s : State) (z : ZoneId) :
    (s.unfitDampers z).line.links = ((s.line.setLink (.extract z) {}).setLink (.makeUp z) {}).links := rfl
/-- R153: the commands of both dampers are dropped. -/
theorem State.unfitDampers_queue (s : State) (z : ZoneId) : (s.unfitDampers z).line.queue =
    s.line.queue.filter fun o => ¬(o.device = .extract z ∨ o.device = .makeUp z) :=
  dropFor_dropFor (.extract z) (.makeUp z) s.line.queue
/-- R153: an exchange in flight with one of them is disowned. -/
theorem State.unfitDampers_inFlight (s : State) (z : ZoneId) : (s.unfitDampers z).line.inFlight = s.line.inFlight.map fun x =>
    if x.device = .extract z ∨ x.device = .makeUp z then { x with disowned := true } else x :=
  disown_disown (.extract z) (.makeUp z) s.line.inFlight
/-- R107: command, last reply and state are kept. -/
theorem State.unfitDampers_dampers (s : State) (z : ZoneId) :
    (s.unfitDampers z).extractOf z = { s.extractOf z with timer := none } ∧
    (s.unfitDampers z).makeUpOf z = { s.makeUpOf z with timer := none } := s.dampersStopped_dampers z
theorem State.unfitDampers_alarms (s : State) (z : ZoneId) :
    (s.unfitDampers z).alarms = (s.alarms.clear (extractKey z) s.partTime).clear (makeUpKey z) s.partTime := rfl

theorem State.dampersStopped_beside (s : State) (z : ZoneId) : (s.dampersStopped z).lasting = s.lasting ∧
    (s.dampersStopped z).fans = s.fans ∧ (s.dampersStopped z).alloc = s.alloc ∧
    { (s.dampersStopped z).plant with extract := s.extract, makeUp := s.makeUp, indications := s.indications } = s.plant ∧
    ∀ y, y ≠ z → (s.dampersStopped z).extractOf y = s.extractOf y ∧ (s.dampersStopped z).makeUpOf y = s.makeUpOf y := by
  have he := s.stopExtract_onlyExtract z
  have hm := (s.stopExtract z).stopMakeUp_onlyMakeUp z
  refine ⟨hm.lasting.trans he.lasting, hm.fans.trans he.fans, hm.alloc.trans he.alloc, rfl, fun y hy => ⟨?_, ?_⟩⟩
  · exact he.others y hy
  · exact hm.others y hy

theorem State.unfitDampers_refit (s : State) (z : ZoneId) : s.DampersRefit (s.unfitDampers z) z := by
  obtain ⟨hlasting, hfans, halloc, hplant, hothers⟩ := s.dampersStopped_beside z
  refine ⟨hlasting, hfans, halloc, hplant, fun y hy => (hothers y hy).1, fun y hy => (hothers y hy).2, ?_, ?_, fun d hd => ?_, ?_, ?_⟩
  · unfold State.link
    rw [State.unfitDampers_links, FieldLine.setLink_other _ _ (by simp), FieldLine.setLink_self]
  · unfold State.link
    rw [State.unfitDampers_links, FieldLine.setLink_self]
  · unfold State.link
    rw [State.unfitDampers_links, FieldLine.setLink_other _ _ fun k => hd (.inr k), FieldLine.setLink_other _ _ fun k => hd (.inl k)]
  · rw [State.unfitDampers_queue, List.filter_filter]
    simp
  · rw [State.unfitDampers_eq]; exact State.rebuildPolls_rebuildPolls _

end

end Sys2Proof.Machine

/-! ## The request WRITE ZONE (R6, R68, R157) -/

namespace Sys2Proof.Machine

section
variable {w : State} {z : ZoneId} {index : Byte} {data : List Word} {f : Bool}

theorem num_toNat (x : Word) : num x.toNat = x := by simp [num]
theorem toNat_num {x : Nat} (h : x < 65536) : (num x).toNat = x := by simp [num]; omega

/-- R5: no clamped field of a zone record is past 3000. -/
theorem clampFields_zone_le {x : Nat} (h : x ∈ clampFields zoneRanges data 1) : x ≤ 3000 := by
  obtain ⟨i, hi, rfl⟩ := List.getElem_of_mem h
  have hr : ∀ r ∈ zoneRanges, r.1 ≤ 3000 ∧ r.2 ≤ 3000 := by decide
  have hi' : i < zoneRanges.length := by simp [clampFields] at hi; omega
  have := hr _ (List.getElem_mem hi')
  simp only [clampFields, List.getElem_zipWith, clampField, clampTo]
  omega

/-- R6: the words of a clamped record are its fitted flag and its clamped fields. -/
theorem zoneConfigWords_record (hl : data.length = 14) (f : Bool) :
    zoneConfigWords (zoneRecord f data) = flagWord f :: (clampFields zoneRanges data 1).map num := by
  have hv : (clampFields zoneRanges data 1).length = 13 := by simp [clampFields, zoneRanges, hl]
  unfold zoneRecord
  generalize clampFields zoneRanges data 1 = v at hv
  match v, hv with
  | [_, _, _, _, _, _, _, _, _, _, _, _, _], _ => rfl

/-- R157: a WRITE ZONE is DONE exactly where its words are those of the clamped record. -/
theorem anyClamped_zone (hl : data.length = 14) (h0 : dataNat data 0 = if f then 1 else 0) :
    anyClamped zoneRanges data 1 = false ↔ data = zoneConfigWords (zoneRecord f data) := by
  have hflag : dataWord data 0 = flagWord f := by
    refine BitVec.eq_of_toNat_eq (h0.trans ?_)
    cases f <;> rfl
  have hdata : data = flagWord f :: data.drop 1 := by
    rw [← hflag]
    match data, hl with
    | d :: ds, _ => rfl
  have hall : (data.drop 1).take zoneRanges.length = data.drop 1 := List.take_of_length_le (by simp [zoneRanges, hl])
  have hsame : (clampFields zoneRanges data 1).map num = data.drop 1 ↔
      clampFields zoneRanges data 1 = (data.drop 1).map BitVec.toNat := by
    refine ⟨fun h => ?_, fun h => ?_⟩
    · rw [← h, List.map_map]
      exact (List.map_id _).symm.trans (List.map_congr_left fun x hx =>
        (toNat_num (x := x) (by have := clampFields_zone_le hx; omega)).symm)
    · rw [h, List.map_map]
      exact (List.map_congr_left fun x _ => num_toNat x).trans (List.map_id _)
  rw [zoneConfigWords_record hl, anyClamped, hall]
  simp only [bne_eq_false_iff_eq]
  rw [← hsame]
  refine ⟨fun h => by rw [h]; exact hdata, fun h => ?_⟩
  have ht := congrArg List.tail h
  rw [List.tail_cons, ← List.drop_one] at ht
  exact ht.symm

theorem zone_status (hl : data.length = 14) (h0 : dataNat data 0 = if f then 1 else 0) :
    (if anyClamped zoneRanges data 1 = true then Status.doneClamped else .done) =
      if data = zoneConfigWords (zoneRecord f data) then .done else .doneClamped := by
  by_cases h : data = zoneConfigWords (zoneRecord f data)
  · rw [if_pos h, if_neg (by rw [(anyClamped_zone hl h0).2 h]; decide)]
  · rw [if_neg h, if_pos]
    simpa using fun k => h ((anyClamped_zone hl h0).1 k)

/-- R67, R68: the request is let through outside an incident, and in one where it changes the floor of a GAS zone alone. -/
theorem zoneWriteAllowed_of (hf : yesNoOf (dataWord data 0) = some f) (h : w.plan.level = .none ∨
    (w.role z = .gas ∧ { zoneRecord f data with floor := (w.zone z).config.floor } = (w.zone z).config)) :
    zoneWriteAllowed w z data = true := by
  unfold zoneWriteAllowed
  rcases h with h | ⟨hr, hc⟩
  · simp [State.not_incident h]
  · have hfit : f = (w.zone z).config.fitted := congrArg ZoneConfig.fitted hc
    have ho : floorOnly (w.zone z).config data = true := by
      unfold floorOnly
      rw [hf, ← hfit, hc]
      simp
    simp [hr, ho]

theorem writeZoneBody_accepts (hz : zoneOf index = some z) (hl : data.length = 14) (h0 : dataNat data 0 = if f then 1 else 0)
    (hc : (zoneRecord f data).consistent = true) (h : w.plan.level = .none ∨
      (w.role z = .gas ∧ { zoneRecord f data with floor := (w.zone z).config.floor } = (w.zone z).config)) :
    writeZoneBody index data w =
      ⟨(w.zoneWritten z (zoneRecord f data)).finish,
        if data = zoneConfigWords (zoneRecord f data) then .done else .doneClamped, []⟩ := by
  have hf : yesNoOf (dataWord data 0) = some f := by
    have hd : dataWord data 0 = flagWord f := BitVec.eq_of_toNat_eq (h0.trans (by cases f <;> rfl))
    rw [hd]; cases f <;> rfl
  have ha := zoneWriteAllowed_of (z := z) hf h
  unfold writeZoneBody
  simp only [hz, ha, hf, hc, if_true, Bool.true_eq_false, if_false]
  rw [doneIf, zone_status hl h0]

end

end Sys2Proof.Machine

/-! ## The effect of WRITE ZONE before the roles are judged (R7, R8, R107) -/

namespace Sys2Proof.Machine

section
variable {s t u v : State} {z y : ZoneId} {g : Gas}

/-! ### The evaluator of a zone that ceases to be fitted (R8) -/

theorem State.endHigh_alloc (s : State) (z : ZoneId) (g : Gas) : (s.endHigh z g).alloc = s.alloc := by
  unfold State.endHigh; split <;> rfl
theorem State.unfitZone_alloc (s : State) (z : ZoneId) : (s.unfitZone z).alloc = s.alloc :=
  (State.endHigh_alloc _ z .no2).trans (State.endHigh_alloc _ z .co)

theorem State.endHigh_keepsRest (s : State) (z : ZoneId) (g : Gas) {ks : List AlarmKey} {ns : List Notice}
    (hk : .gasHigh g z ∈ ks) (hn : .gasCleared ∈ ns) : s.KeepsRest (s.endHigh z g) ks ns := by
  unfold State.endHigh
  split
  · exact ((State.Quiet.keepsRest (s.modZone_quiet z _) ks ns).trans (State.clearAlarm_keepsRest _ hk)).trans
      (State.raiseAll_keepsRest _ hn)
  · exact (State.Quiet.refl s).keepsRest ks ns
theorem State.unfitZone_keepsRest (s : State) (z : ZoneId) {ks : List AlarmKey} {ns : List Notice}
    (hco : .gasHigh .co z ∈ ks) (hno2 : .gasHigh .no2 z ∈ ks) (hn : .gasCleared ∈ ns) : s.KeepsRest (s.unfitZone z) ks ns :=
  (((State.Quiet.keepsRest (s.modZone_quiet z _) ks ns).trans (State.endHigh_keepsRest _ z .co hco hn)).trans
    (State.endHigh_keepsRest _ z .no2 hno2 hn)).trans (State.Quiet.keepsRest (State.modZone_quiet _ z _) ks ns)

theorem State.endHigh_hasActive_other (s : State) (z : ZoneId) (g : Gas) {k : AlarmKey} (h : k ≠ .gasHigh g z) :
    (s.endHigh z g).alarms.hasActive k = s.alarms.hasActive k := by
  unfold State.endHigh
  split
  · exact AlarmList.clear_hasActive_other h _
  · rfl
theorem State.unfitZone_hasActive_other (s : State) (z : ZoneId) {k : AlarmKey} (h : ∀ g, k ≠ .gasHigh g z) :
    (s.unfitZone z).alarms.hasActive k = s.alarms.hasActive k :=
  (State.endHigh_hasActive_other _ z .no2 (h .no2)).trans (State.endHigh_hasActive_other _ z .co (h .co))

/-- R26: GAS_CLEARED of a gas whose gas-high was active, with its entry. -/
theorem State.endHigh_clears (s : State) (z : ZoneId) (g : Gas) (h : ((s.zone z).gas g).high = true) :
    (s.endHigh z g).noticedByAll .gasCleared ∧ (s.alarms.Sound → (s.endHigh z g).alarms.hasActive (.gasHigh g z) = false) := by
  rw [State.endHigh, if_pos h]
  exact ⟨State.raiseAll_noticedByAll _ _, fun hs => hs.clear_hasActive _ _⟩
theorem State.unfitZone_clears (s : State) (z : ZoneId) (g : Gas) (h : ((s.zone z).gas g).high = true) :
    (s.unfitZone z).noticedByAll .gasCleared ∧ (s.alarms.Sound → (s.unfitZone z).alarms.hasActive (.gasHigh g z) = false) := by
  generalize ha : s.modZone z (fun q => { q with boost := none }) = a
  have hh : ((a.zone z).gas g).high = true := by
    rw [← ha, State.modZone_zone_self]; cases g <;> exact h
  have hsound : s.alarms.Sound → a.alarms.Sound := by rw [← ha]; exact id
  have hports : (s.unfitZone z).ports = ((a.endHigh z .co).endHigh z .no2).ports := by rw [← ha]; rfl
  have halarms : (s.unfitZone z).alarms = ((a.endHigh z .co).endHigh z .no2).alarms := by rw [← ha]; rfl
  have hkeeps : State.KeepsNotices ((a.endHigh z .co).endHigh z .no2) (s.unfitZone z) := .of_ports hports
  rw [halarms]
  cases g with
  | co =>
    obtain ⟨hn, hc⟩ := a.endHigh_clears z .co hh
    refine ⟨fun p => hkeeps _ _ ((State.endHigh_moves _ z .no2).keepsNotices _ _ (hn p)), fun hs => ?_⟩
    rw [State.endHigh_hasActive_other _ _ _ (by simp)]
    exact hc (hsound hs)
  | no2 =>
    have hh2 : (((a.endHigh z .co).zone z).gas .no2).high = true := by rw [State.endHigh_zone, if_pos rfl]; exact hh
    obtain ⟨hn, hc⟩ := (a.endHigh z .co).endHigh_clears z .no2 hh2
    exact ⟨fun p => hkeeps _ _ (hn p), fun hs => hc ((a.endHigh_moves z .co).alarms_sound (hsound hs))⟩

/-! ### The stored record (R7) -/

/-- R7: the part with a zone's record stored and reported. -/
def State.zoneStored (w : State) (z : ZoneId) (c : ZoneConfig) : State := (w.commitZone z c).configChanged .building

/-- From w to x a zone's record is stored and its row, its entries and its notices have changed alone. -/
structure State.RecordStored (w x : State) (z : ZoneId) (c : ZoneConfig) : Prop where
  lasting : x.lasting = { w.lasting with
    zones := x.zones, store := { w.store with zones := sealWith zonesImage (upd w.store.zones.contents z fun _ => c) } }
  fans : x.fans = w.fans
  alloc : x.alloc = w.alloc
  plant : x.plant = w.plant
  line : x.line = w.line
  config : (x.zone z).config = c
  others : ∀ y, y ≠ z → x.zone y = w.zone y
  rest : w.KeepsRest x [.storeFault 0, .gasHigh .co z, .gasHigh .no2 z, extractKey z, makeUpKey z] [.configChanged, .gasCleared]
  sound : w.alarms.Sound → x.alarms.Sound
  stored : w.alarms.Sound → x.alarms.hasActive (.storeFault 0) = false
  told : ∀ q, q ≠ .building → x.noticed .configChanged q

variable (w : State) (z : ZoneId) (c : ZoneConfig)

theorem State.zoneStored_lasting : (w.zoneStored z c).lasting = { w.lasting with
    zones := upd w.zones z fun q => { q with config := c }
    store := { w.store with zones := sealWith zonesImage (upd w.store.zones.contents z fun _ => c) } } := by
  rw [State.zoneStored, State.configChanged, State.raiseOthers_lasting]; rfl
theorem State.zoneStored_zone (y : ZoneId) :
    (w.zoneStored z c).zone y = if y = z then { w.zone z with config := c } else w.zone y := by
  rw [State.zoneStored, State.configChanged, State.raiseOthers_zone]
  exact w.modZone_zone z y _
theorem State.zoneStored_alarms : (w.zoneStored z c).alarms = w.alarms.clear (.storeFault 0) w.partTime := by
  rw [State.zoneStored, State.configChanged, State.raiseOthers_alarms]; rfl
theorem State.zoneStored_keepsRest {ks : List AlarmKey} {ns : List Notice} (hk : .storeFault 0 ∈ ks) (hn : .configChanged ∈ ns) :
    w.KeepsRest (w.zoneStored z c) ks ns := by
  have h0 : w.KeepsRest { w.modZone z (fun q => { q with config := c }) with
      store := { w.store with zones := sealWith zonesImage (upd w.store.zones.contents z fun _ => c) } } ks ns :=
    ⟨rfl, fun _ _ _ => ⟨rfl, rfl⟩⟩
  exact (h0.trans (State.clearAlarm_keepsRest _ hk)).trans (State.configChanged_keepsRest _ _ hn)

theorem State.zoneStored_stored : w.RecordStored (w.zoneStored z c) z c := by
  have hl := w.zoneStored_lasting z c
  refine ⟨?_, ?_, ?_, ?_, ?_, ?_, fun y hy => ?_, w.zoneStored_keepsRest z c (by simp) (by simp), fun hs => ?_, fun hs => ?_, fun q hq => ?_⟩
  · rw [hl, show (w.zoneStored z c).zones = _ from congrArg Lasting.zones hl]
  · rw [State.zoneStored, State.configChanged, State.raiseOthers_fans]; rfl
  · rw [State.zoneStored, State.configChanged, State.raiseOthers_alloc]; rfl
  · simp only [State.plant, State.zoneStored, State.configChanged, State.raiseOthers_duty, State.raiseOthers_grace,
      State.raiseOthers_extract, State.raiseOthers_makeUp, State.raiseOthers_pathProven, State.raiseOthers_indications,
      State.raiseOthers_alloc]
    rfl
  · rw [State.zoneStored, State.configChanged, State.raiseOthers_line]; rfl
  · rw [State.zoneStored_zone, if_pos rfl]
  · rw [State.zoneStored_zone, if_neg hy]
  · rw [State.zoneStored_alarms]; exact hs.clear _ _
  · rw [State.zoneStored_alarms]; exact hs.clear_hasActive _ _
  · exact State.raiseOthers_noticed _ _ hq

variable {w z c}

/-- R8: what the evaluator ends. -/
theorem State.RecordStored.unfitZone {x : State} (h : w.RecordStored x z c) : w.RecordStored (x.unfitZone z) z c := by
  have he := x.unfitZone_inEvaluator z
  have hh := x.unfitZone_heads z
  refine ⟨?_, he.fans.trans h.fans, (x.unfitZone_alloc z).trans h.alloc, he.plant.trans h.plant, he.line.trans h.line, ?_, fun y hy => ?_,
    h.rest.trans (x.unfitZone_keepsRest z (by simp) (by simp) (by simp)), (x.unfitZone_moves z).alarms_sound ∘ h.sound, fun hs => ?_,
    fun q hq => (x.unfitZone_moves z).keepsNotices _ _ (h.told q hq)⟩
  · have hx : x.heads = w.heads := congrArg Lasting.heads h.lasting
    rw [he.lasting, h.lasting, hh, hx]; rfl
  · rw [State.unfitZone_zone, if_pos rfl]; exact h.config
  · rw [State.unfitZone_zone, if_neg hy]; exact h.others y hy
  · rw [State.unfitZone_hasActive_other _ _ (by simp)]; exact h.stored hs

end

end Sys2Proof.Machine

/-! ## The roles judged after a change of a fitted field (R58, R108) -/

namespace Sys2Proof.Machine

section
variable {s t u v w x : State} {z y : ZoneId} {c : ZoneConfig} {P : FanId → Prop}

/-! ### From the dampers to the passes -/

/-- R58, R108: the path and the roles are judged, the zone is worked out and a pass is triggered. -/
def State.rejudged (v : State) (z : ZoneId) : State := (v.reprove.recomputeRoles.refreshZone z).trigger

theorem State.refreshZone_fanWork (s : State) (z : ZoneId) : s.FanWork (s.refreshZone z) P := by
  have hline := (s.refreshZone_inEvaluator z).line
  have halarms := (s.refreshZone_quiet z).1
  have halloc := s.refreshZone_alloc z
  refine ⟨by rw [hline], fun _ _ => by rw [hline], ?_, fun h => ?_, fun _ _ => by rw [halarms], fun h => by rwa [halarms]⟩
  · rw [halloc]
  · rw [halloc]; simp [h]
theorem State.refreshed_inEvaluator (s : State) (z : ZoneId) : s.InEvaluator (s.refreshZone z).trigger :=
  (s.refreshZone_inEvaluator z).trans (State.triggerIf_inEvaluator _ true)
theorem State.refreshed_fanWork (s : State) (z : ZoneId) : s.FanWork (s.refreshZone z).trigger P :=
  (s.refreshZone_fanWork z).trans (State.trigger_fanWork _)
theorem State.refreshed_workedOut (s : State) (z : ZoneId) : (s.refreshZone z).trigger.WorkedOut z (s.zone z) :=
  (s.refreshZone_workedOut z).congr rfl rfl
theorem State.refreshed_zone_other (s : State) (h : y ≠ z) : (s.refreshZone z).trigger.zone y = s.zone y := s.refreshZone_zone_other h
theorem State.refreshed_heads (s : State) (z : ZoneId) : (s.refreshZone z).trigger.heads = s.heads := s.refreshZone_heads z
theorem State.refreshed_quiet (s : State) (z : ZoneId) : s.Quiet (s.refreshZone z).trigger :=
  (s.refreshZone_quiet z).trans (State.triggerIf_quiet _ true)
theorem State.trigger_due (s : State) : s.trigger.alloc.due = true := rfl
theorem State.refreshed_moves (s : State) (z : ZoneId) : State.Moves true s (s.refreshZone z).trigger :=
  (s.refreshZone_moves z).trans (State.trigger_moves _)

theorem State.rejudged_moves (v : State) (z : ZoneId) : State.Moves true v (v.rejudged z) :=
  (v.reprove_moves.trans (State.recomputeRoles_moves _)).trans (State.refreshed_moves _ z)
theorem State.rejudged_fanWork (v : State) (z : ZoneId) : v.FanWork (v.rejudged z) fun _ => True :=
  (v.reprove_fanWork.trans (State.recomputeRoles_fanWork _)).trans (State.refreshed_fanWork _ z)

/-! ### What the evaluator leaves -/

theorem State.InEvaluator.resolver (h : s.InEvaluator u) : u.resolver = s.resolver := by
  have hl := congrArg Lasting.resolver h.lasting
  exact hl
theorem State.InEvaluator.plan (h : s.InEvaluator u) : u.plan = s.plan := by
  have hl := congrArg Lasting.plan h.lasting
  exact hl
theorem State.InEvaluator.dampers (h : s.InEvaluator u) : u.extract = s.extract ∧ u.makeUp = s.makeUp ∧ u.pathProven = s.pathProven := by
  have he := congrArg Plant.extract h.plant
  have hm := congrArg Plant.makeUp h.plant
  have hp := congrArg Plant.pathProven h.plant
  exact ⟨he, hm, hp⟩
theorem State.InEvaluator.grace (h : s.InEvaluator u) : u.grace = s.grace := by
  have hg := congrArg Plant.grace h.plant
  exact hg

theorem State.recomputeRoles_beside (s : State) : s.recomputeRoles.extract = s.extract ∧ s.recomputeRoles.makeUp = s.makeUp ∧
    s.recomputeRoles.pathProven = s.pathProven := by
  rw [State.recomputeRoles_eq]
  have h := s.rolesTaken.handSmoke_samePath s.resolver.smoke
  rw [h.extract, h.makeUp, h.pathProven]
  simp only [State.rolesTaken, and_self]

/-- R108: the path is judged from the dampers and the fitted fields. -/
theorem State.PathSound.congr (h : s.PathSound) (hp : u.pathProven = s.pathProven) (he : u.extract = s.extract)
    (hz : ∀ y, (u.zone y).config.fitted = (s.zone y).config.fitted) : u.PathSound := by
  unfold State.PathSound State.ProvesPath State.extractOf at h ⊢
  simpa only [hp, he, hz] using h

/-- R58, R59: the roles handed on, with a trigger of the request's own. -/
theorem State.RolesHanded.triggered (h : s.RolesHanded t False) (he : t.InEvaluator u) (hd : u.alloc.due = true)
    (ha : t.alarms = u.alarms) : s.RolesHanded u True := by
  have hr : u.resolver = t.resolver := he.resolver
  have hf : ∀ n, u.fan n = t.fan n := fun n => by simp only [State.fan, he.fans]
  have hg : u.grace = t.grace := he.grace
  have hready : ∀ n q, s.Readied t n q → s.Readied u n q := fun n q k =>
    ⟨(hf n).trans k.fan, fun hs => ha ▸ k.entry hs, hd, fun hc hl hp hpr => by
      rw [he.line]; exact k.run hc (by rwa [he.link] at hl) hp hpr⟩
  refine ⟨iff_of_true hd (.inr (.inl trivial)), ?_, ?_, fun d => (he.link d).trans (h.links d), ?_, ?_, ?_⟩
  · rw [he.alloc]; exact h.alloc
  · rw [he.plant]; exact h.plant
  · rw [hr, hg]
    intro h0 h1
    obtain ⟨hgrace, hfans⟩ := h.begins h0 h1
    refine ⟨hgrace, fun n => ?_⟩
    have hn := hfans n
    split
    · rename_i hc
      rw [if_pos hc] at hn
      exact hready n _ hn
    · rename_i hc
      rw [if_neg hc] at hn
      exact (hf n).trans hn
  · rw [hr, hg, he.fans, he.line]; exact h.ends
  · rw [hr, hg, he.fans, he.line]; exact h.stays

/-! ### The path and the roles judged -/

variable (v) (z)

theorem State.rejudged_inEvaluator : v.reprove.recomputeRoles.InEvaluator (v.rejudged z) := State.refreshed_inEvaluator _ z

theorem State.rejudged_dampers : (v.rejudged z).extract = v.extract ∧ (v.rejudged z).makeUp = v.makeUp := by
  obtain ⟨he, hm, _⟩ := (v.rejudged_inEvaluator z).dampers
  obtain ⟨hr, hrm, _⟩ := v.reprove.recomputeRoles_beside
  obtain ⟨hp, hpm, _⟩ := v.reprove_dampers
  rw [he, hm, hr, hrm, hp, hpm]
  exact ⟨rfl, rfl⟩

theorem State.rejudged_pathSound : (v.rejudged z).PathSound := by
  obtain ⟨he, _, hp⟩ := (v.rejudged_inEvaluator z).dampers
  obtain ⟨hr, _, hrp⟩ := v.reprove.recomputeRoles_beside
  exact v.reprove_path.congr (hp.trans hrp) (he.trans hr)
    (State.Moves.zoneFitted (v.reprove.recomputeRoles_moves.trans (State.refreshed_moves _ z)))

theorem State.rejudged_quiet : v.reprove.recomputeRoles.Quiet (v.rejudged z) := State.refreshed_quiet _ z
theorem State.rejudged_due : (v.rejudged z).alloc.due = true := by
  unfold State.rejudged; exact State.trigger_due _
theorem State.rejudged_handed : v.reprove.RolesHanded (v.rejudged z) True :=
  v.reprove.recomputeRoles_handed.triggered (v.rejudged_inEvaluator z) (v.rejudged_due z) (v.rejudged_quiet z).1.symm

theorem State.rejudged_heads : (v.rejudged z).heads = v.heads := by
  have hr := (State.recomputeRoles_sameRows v.reprove).heads
  rw [heads_of_lasting v.reprove_lasting] at hr
  unfold State.rejudged
  rw [State.refreshed_heads, hr]

theorem State.rejudged_lasting : (v.rejudged z).lasting =
    { v.lasting with zones := (v.rejudged z).zones, resolver := (v.rejudged z).resolver } := by
  have hr := v.reprove.recomputeRoles_lasting
  rw [v.reprove_lasting] at hr
  rw [(v.rejudged_inEvaluator z).lasting, hr, v.rejudged_heads, (v.rejudged_inEvaluator z).resolver]
  generalize (v.rejudged z).zones = zs
  generalize v.reprove.recomputeRoles.resolver = r
  rfl

theorem State.rejudged_reworked : (v.rejudged z).resolver = v.resolver.reworked (v.rejudged z).resolver := by
  have hv : v.reprove.resolver = v.resolver := resolver_of_lasting v.reprove_lasting
  rw [(v.rejudged_inEvaluator z).resolver, ← hv]
  exact v.reprove.recomputeRoles_reworked

theorem State.rejudged_rolesSound : (v.rejudged z).RolesSound :=
  v.reprove.recomputeRoles_rolesSound.congr (v.rejudged_inEvaluator z).resolver (v.rejudged_inEvaluator z).plan
    (State.Moves.zoneFitted (State.refreshed_moves _ z))

end

end Sys2Proof.Machine

/-! ## WRITE ZONE (R6 to R8, R19, R20, R58, R107, R108, R153, R176) -/

namespace Sys2Proof.Machine

section
variable {s u v w x : State} {z y : ZoneId} {c : ZoneConfig} {p : Port} {r : Response}

/-! ### The three courses of an accepted WRITE ZONE -/

theorem State.refit_fits (s : State) (z : ZoneId) : s.refit z false true = s.fitDampers z := rfl
theorem State.refit_unfits (s : State) (z : ZoneId) : s.refit z true false = (s.unfitZone z).unfitDampers z := rfl
theorem State.refit_same (s : State) (z : ZoneId) (b : Bool) : s.refit z b b = s := by cases b <;> rfl
theorem State.judgeFit_true (s : State) : s.judgeFit true = s.reprove.recomputeRoles := if_pos rfl
theorem State.judgeFit_false (s : State) : s.judgeFit false = s := if_neg (by decide)

theorem State.zoneWritten_eq (w : State) (z : ZoneId) (c : ZoneConfig) : w.zoneWritten z c =
    ((((w.zoneStored z c).refit z (w.zone z).config.fitted c.fitted).judgeFit
      ((w.zone z).config.fitted != c.fitted)).refreshZone z).trigger := rfl

theorem State.zoneWritten_same (h : (w.zone z).config.fitted = c.fitted) :
    w.zoneWritten z c = ((w.zoneStored z c).refreshZone z).trigger := by
  rw [State.zoneWritten_eq, h, bne_self_eq_false, State.refit_same, State.judgeFit_false]
theorem State.zoneWritten_fits (h0 : (w.zone z).config.fitted = false) (h1 : c.fitted = true) :
    w.zoneWritten z c = ((w.zoneStored z c).fitDampers z).rejudged z := by
  rw [State.zoneWritten_eq, h0, h1, State.refit_fits, show (false != true) = true from rfl, State.judgeFit_true, State.rejudged]
theorem State.zoneWritten_unfits (h1 : (w.zone z).config.fitted = true) (h0 : c.fitted = false) :
    w.zoneWritten z c = (((w.zoneStored z c).unfitZone z).unfitDampers z).rejudged z := by
  rw [State.zoneWritten_eq, h0, h1, State.refit_unfits, show (true != false) = true from rfl, State.judgeFit_true, State.rejudged]

theorem State.judged_rows (v : State) : v.SameRows v.reprove.recomputeRoles :=
  (State.SameRows.of_lasting v.reprove_lasting).trans (State.recomputeRoles_sameRows _)
theorem State.rejudged_zone_other (v : State) (h : y ≠ z) : (v.rejudged z).zone y = v.zone y := by
  rw [State.rejudged, State.refreshed_zone_other _ h, State.zone, v.judged_rows.zones, ← State.zone]
theorem State.rejudged_workedOut (v : State) (z : ZoneId) : (v.rejudged z).WorkedOut z (v.zone z) := by
  have hz : v.reprove.recomputeRoles.zone z = v.zone z := by unfold State.zone; rw [v.judged_rows.zones]
  rw [State.rejudged, ← hz]
  exact State.refreshed_workedOut _ z

/-! ### What every course leaves -/

/-- From w to u an accepted WRITE ZONE is done, less its passes. -/
structure State.ZoneWrote (w u : State) (z : ZoneId) (c : ZoneConfig) : Prop where
  due : u.alloc.due = true
  lasting : u.lasting = { w.lasting with
    zones := u.zones, resolver := u.resolver
    store := { w.store with zones := sealWith zonesImage (upd w.store.zones.contents z fun _ => c) } }
  others : ∀ y, y ≠ z → u.zone y = w.zone y
  dampers : ∀ y, y ≠ z → u.extractOf y = w.extractOf y ∧ u.makeUpOf y = w.makeUpOf y
  stored : w.alarms.Sound → u.alarms.hasActive (.storeFault 0) = false
  reworked : u.resolver = w.resolver.reworked u.resolver
  told : ∀ q, q ≠ .building → u.noticed .configChanged q

theorem State.RecordStored.refreshed (h : w.RecordStored x z c) : w.ZoneWrote (x.refreshZone z).trigger z c := by
  have he := x.refreshed_inEvaluator z
  have hx : x.heads = w.heads := congrArg Lasting.heads h.lasting
  have hr : (x.refreshZone z).trigger.resolver = w.resolver := he.resolver.trans (congrArg Lasting.resolver h.lasting)
  have hplant := he.plant.trans h.plant
  refine ⟨State.trigger_due _, ?_, fun y hy => (x.refreshed_zone_other hy).trans (h.others y hy), fun y _ => ?_, fun hs => ?_, ?_,
    fun q hq => (x.refreshed_moves z).keepsNotices _ _ (h.told q hq)⟩
  · rw [he.lasting, h.lasting, x.refreshed_heads z, hx, hr]; rfl
  · exact ⟨extractOf_of_plant hplant y, makeUpOf_of_plant hplant y⟩
  · rw [(x.refreshed_quiet z).1]; exact h.stored hs
  · rw [hr]; rfl

/-- The rows and the records of the other dampers, the entry of group 1 and the notices after the dampers of a zone have started
or stopped and the roles are judged. -/
theorem State.RecordStored.rejudged (h : w.RecordStored x z c) (hv : x.DampersRefit v z)
    (ha : x.alarms.hasActive (.storeFault 0) = false → v.alarms.hasActive (.storeFault 0) = false) (hn : x.KeepsNotices v) :
    w.ZoneWrote (v.rejudged z) z c := by
  have hw := v.rejudged_fanWork z
  obtain ⟨he, hm⟩ := v.rejudged_dampers z
  have hx : v.resolver = w.resolver := (resolver_of_lasting hv.lasting).trans (congrArg Lasting.resolver h.lasting)
  have hxe : x.extractOf = w.extractOf := funext fun y => extractOf_of_plant h.plant y
  have hxm : x.makeUpOf = w.makeUpOf := funext fun y => makeUpOf_of_plant h.plant y
  have hve : ∀ y, (v.rejudged z).extractOf y = v.extractOf y := fun y => by unfold State.extractOf; rw [he]
  have hvm : ∀ y, (v.rejudged z).makeUpOf y = v.makeUpOf y := fun y => by unfold State.makeUpOf; rw [hm]
  refine ⟨v.rejudged_due z, ?_, fun y hy => ?_, fun y hy => ?_, fun hs => ?_, ?_, fun q hq => ?_⟩
  · rw [v.rejudged_lasting z, hv.lasting, h.lasting]
  · rw [v.rejudged_zone_other hy, ← h.others y hy]; unfold State.zone; rw [zones_of_lasting hv.lasting]
  · rw [hve, hvm, hv.extractOf y hy, hv.makeUpOf y hy, hxe, hxm]; exact ⟨rfl, rfl⟩
  · rw [hw.active _ (by simp)]; exact ha (h.stored hs)
  · rw [← hx]; exact v.rejudged_reworked z
  · exact (v.rejudged_moves z).keepsNotices _ _ (hn _ _ (h.told q hq))

end

end Sys2Proof.Machine

/-! ## WRITE ZONE, by the change of the fitted field (R8, R107, R153) -/

namespace Sys2Proof.Machine

section
variable {s u v w x : State} {z y : ZoneId} {c : ZoneConfig}

/-- The entries of a zone that a change of its fitted field can clear, and that of its record's group. -/
def zoneEntryKeys (z : ZoneId) : List AlarmKey := [.storeFault 0, .gasHigh .co z, .gasHigh .no2 z, extractKey z, makeUpKey z]

/-- From the part w to v, before the path is judged, a zone's fitted field has changed with its record x, its dampers and their
entries. -/
structure State.ZoneRefit (w x v : State) (z : ZoneId) (c : ZoneConfig) : Prop where
  stored : w.RecordStored x z c
  refit : x.DampersRefit v z
  rest : x.KeepsRest v (zoneEntryKeys z) [.configChanged, .gasCleared]
  active : ∀ k, k ≠ extractKey z → k ≠ makeUpKey z → v.alarms.hasActive k = x.alarms.hasActive k
  told : x.KeepsNotices v

theorem State.RecordStored.fits (h : w.RecordStored x z c) (hc : c.fitted = true) : w.ZoneRefit x (x.fitDampers z) z c :=
  ⟨h, x.fitDampers_refit (by rw [h.config, hc]), (x.fitDampers_quiet z).keepsRest _ _, fun k _ _ => by rw [(x.fitDampers_quiet z).1],
    .of_ports (x.fitDampers_ports z)⟩

theorem State.unfitDampers_keepsRest (s : State) (z : ZoneId) {ks : List AlarmKey} {ns : List Notice} (he : extractKey z ∈ ks)
    (hm : makeUpKey z ∈ ks) : s.KeepsRest (s.unfitDampers z) ks ns := by
  have hq : State.Quiet ((s.clearAlarm (extractKey z)).clearAlarm (makeUpKey z)) (s.unfitDampers z) :=
    ⟨s.unfitDampers_alarms z, s.unfitDampers_ports z⟩
  exact ((s.clearAlarm_keepsRest he).trans (State.clearAlarm_keepsRest _ hm)).trans (hq.keepsRest ks ns)

theorem State.RecordStored.unfits (h : w.RecordStored x z c) : w.ZoneRefit x (x.unfitDampers z) z c :=
  ⟨h, x.unfitDampers_refit z, x.unfitDampers_keepsRest z (by simp [zoneEntryKeys]) (by simp [zoneEntryKeys]),
    fun k he hm => by
      rw [x.unfitDampers_alarms z, AlarmList.clear_hasActive_other hm, AlarmList.clear_hasActive_other he],
    .of_ports (x.unfitDampers_ports z)⟩

theorem State.zoneWritten_refit (h : (w.zone z).config.fitted ≠ c.fitted) :
    ∃ x v, w.ZoneRefit x v z c ∧ w.zoneWritten z c = v.rejudged z := by
  cases hc : c.fitted with
  | true =>
    have h0 : (w.zone z).config.fitted = false := by simpa [hc] using h
    exact ⟨_, _, (w.zoneStored_stored z c).fits hc, State.zoneWritten_fits h0 hc⟩
  | false =>
    have h1 : (w.zone z).config.fitted = true := by simpa [hc] using h
    exact ⟨_, _, (w.zoneStored_stored z c).unfitZone.unfits, State.zoneWritten_unfits h1 hc⟩

theorem storeFault_ne_extractKey (g : GroupId) (z : ZoneId) : AlarmKey.storeFault g ≠ extractKey z := by simp [extractKey]
theorem storeFault_ne_makeUpKey (g : GroupId) (z : ZoneId) : AlarmKey.storeFault g ≠ makeUpKey z := by simp [makeUpKey]

theorem State.ZoneRefit.rejudged (h : w.ZoneRefit x v z c) : w.ZoneWrote (v.rejudged z) z c :=
  h.stored.rejudged h.refit (fun hs => (h.active _ (storeFault_ne_extractKey 0 z) (storeFault_ne_makeUpKey 0 z)).trans hs) h.told

/-- R7, R107: what an accepted WRITE ZONE does in every course. -/
theorem State.zoneWritten_wrote (w : State) (z : ZoneId) (c : ZoneConfig) : w.ZoneWrote (w.zoneWritten z c) z c := by
  by_cases h : (w.zone z).config.fitted = c.fitted
  · rw [State.zoneWritten_same h]
    exact (w.zoneStored_stored z c).refreshed
  · obtain ⟨x, v, hr, he⟩ := State.zoneWritten_refit h
    rw [he]
    exact hr.rejudged

/-! ### The row of the zone -/

/-- R16 to R20: the zone is worked out from its record. -/
theorem State.zoneWritten_workedOut (h : ¬((w.zone z).config.fitted = true ∧ c.fitted = false)) :
    (w.zoneWritten z c).WorkedOut z { w.zone z with config := c } := by
  have hz : (w.zoneStored z c).zone z = { w.zone z with config := c } := by rw [State.zoneStored_zone, if_pos rfl]
  by_cases he : (w.zone z).config.fitted = c.fitted
  · rw [State.zoneWritten_same he, ← hz]
    exact State.refreshed_workedOut _ z
  · have h0 : (w.zone z).config.fitted = false := by
      refine Bool.eq_false_iff.2 fun hf => h ⟨hf, ?_⟩
      simpa [hf] using Ne.symm he
    have h1 : c.fitted = true := by simpa [h0] using Ne.symm he
    have hv : ((w.zoneStored z c).fitDampers z).zone z = { w.zone z with config := c } := by
      rw [← hz]; unfold State.zone; rw [(State.fitDampers_sameRows _ z).zones]
    rw [State.zoneWritten_fits h0 h1, ← hv]
    exact State.rejudged_workedOut _ z

theorem State.zoneWritten_unfitted (h1 : (w.zone z).config.fitted = true) (h0 : c.fitted = false) :
    (w.zoneWritten z c).WorkedOut z (Zone.unfitted { w.zone z with config := c }) := by
  have hv : (((w.zoneStored z c).unfitZone z).unfitDampers z).zone z = Zone.unfitted { w.zone z with config := c } := by
    have hz : ((w.zoneStored z c).unfitZone z).zone z = Zone.unfitted { w.zone z with config := c } := by
      rw [State.unfitZone_zone, if_pos rfl, State.zoneStored_zone, if_pos rfl]
    rw [← hz]; unfold State.zone; rw [(State.unfitDampers_sameRows _ z).zones]
  rw [State.zoneWritten_unfits h1 h0, ← hv]
  exact State.rejudged_workedOut _ z

/-- R8, R26: GAS_CLEARED of each gas whose gas-high was active. -/
theorem State.zoneWritten_gasCleared (h1 : (w.zone z).config.fitted = true) (h0 : c.fitted = false) (g : Gas)
    (hg : ((w.zone z).gas g).high = true) : (w.zoneWritten z c).noticedByAll .gasCleared ∧
      (w.alarms.Sound → (w.zoneWritten z c).alarms.hasActive (.gasHigh g z) = false) := by
  have hs := w.zoneStored_stored z c
  have hx : (((w.zoneStored z c).zone z).gas g).high = true := by
    rw [State.zoneStored_zone, if_pos rfl]; cases g <;> exact hg
  obtain ⟨hn, hc⟩ := (w.zoneStored z c).unfitZone_clears z g hx
  have hr := hs.unfitZone.unfits
  rw [State.zoneWritten_unfits h1 h0]
  generalize (w.zoneStored z c).unfitZone z = x at *
  refine ⟨fun p => (State.rejudged_moves _ z).keepsNotices _ _ (hr.told _ _ (hn p)), fun ha => ?_⟩
  rw [(State.rejudged_fanWork _ z).active _ (by simp), hr.active _ (by simp [extractKey]) (by simp [makeUpKey])]
  exact hc (hs.sound ha)

end

end Sys2Proof.Machine

/-! ## WRITE ZONE settled (R6 to R8, R107, R108, R153) -/

namespace Sys2Proof.Machine

section
variable {w x v : State} {z : ZoneId} {c : ZoneConfig}

/-- An unchanged fitted field leaves the plant, the fans and the line. -/
theorem State.zoneWritten_beside (h : (w.zone z).config.fitted = c.fitted) :
    (w.zoneWritten z c).plant = w.plant ∧ (w.zoneWritten z c).fans = w.fans ∧ (w.zoneWritten z c).line = w.line ∧
    (w.zoneWritten z c).alloc = { w.alloc with due := true } ∧
    w.KeepsRest (w.zoneWritten z c) [.storeFault 0] [.configChanged] ∧ (w.zoneWritten z c).resolver = w.resolver := by
  have hs := w.zoneStored_stored z c
  have hk := w.zoneStored_keepsRest z c (ks := [.storeFault 0]) (ns := [.configChanged]) (by simp) (by simp)
  rw [State.zoneWritten_same h]
  generalize w.zoneStored z c = x at hs hk ⊢
  have he := x.refreshed_inEvaluator z
  refine ⟨he.plant.trans hs.plant, he.fans.trans hs.fans, he.line.trans hs.line, ?_,
    hk.trans ((x.refreshed_quiet z).keepsRest _ _), he.resolver.trans (congrArg Lasting.resolver hs.lasting)⟩
  rw [he.alloc, hs.alloc, State.trigger_due]

/-- What a changed fitted field does from w to u, before the passes: v stands before the path is judged. -/
def State.FittingJudged (w u : State) (z : ZoneId) (c : ZoneConfig) : Prop :=
  u.PathSound ∧ u.rebuildPolls = u ∧ u.link (.extract z) = {} ∧ u.link (.makeUp z) = {} ∧
    ∃ v : State, v.reprove.RolesHanded u True ∧ v.fans = w.fans ∧ v.alloc = w.alloc ∧ v.resolver = w.resolver ∧
      { v.plant with extract := w.extract, makeUp := w.makeUp, indications := w.indications } = w.plant ∧
      v.extract = u.extract ∧ v.makeUp = u.makeUp ∧ (v.zone z).config = c ∧ (∀ y, y ≠ z → v.zone y = w.zone y) ∧
      (∀ d, ¬(d = .extract z ∨ d = .makeUp z) → v.link d = w.link d) ∧
      (v.line.queue.filter fun o => ¬(o.device = .extract z ∨ o.device = .makeUp z)) =
        (w.line.queue.filter fun o => ¬(o.device = .extract z ∨ o.device = .makeUp z)) ∧
      w.KeepsRest v (zoneEntryKeys z) [.configChanged, .gasCleared]

theorem State.ZoneRefit.fittingJudged (h : w.ZoneRefit x v z c) : w.FittingJudged (v.rejudged z) z c := by
  have hs := h.stored
  have hv := h.refit
  have hw := v.rejudged_fanWork z
  obtain ⟨he, hm⟩ := v.rejudged_dampers z
  have hzone : ∀ y, v.zone y = x.zone y := fun y => by unfold State.zone; rw [zones_of_lasting hv.lasting]
  have hxe : x.extract = w.extract := congrArg Plant.extract hs.plant
  have hxm : x.makeUp = w.makeUp := congrArg Plant.makeUp hs.plant
  have hxi : x.indications = w.indications := congrArg Plant.indications hs.plant
  have hlink : ∀ d, x.link d = w.link d := fun d => by unfold State.link; rw [hs.line]
  refine ⟨v.rejudged_pathSound z, State.rebuildPolls_of_line hv.polls hw.line (v.rejudged_moves z).deviceFitted,
    (hw.link _).trans hv.extractLink, (hw.link _).trans hv.makeUpLink, v, v.rejudged_handed z, hv.fans.trans hs.fans,
    hv.alloc.trans hs.alloc, (resolver_of_lasting hv.lasting).trans (congrArg Lasting.resolver hs.lasting), ?_, he.symm, hm.symm,
    (congrArg Zone.config (hzone z)).trans hs.config, fun y hy => (hzone y).trans (hs.others y hy),
    fun d hd => (hv.links d hd).trans (hlink d), ?_, hs.rest.trans h.rest⟩
  · rw [← hxe, ← hxm, ← hxi, ← hs.plant]; exact hv.plant
  · rw [← hs.line]; exact hv.queue

theorem State.zoneWritten_fittingJudged (h : (w.zone z).config.fitted ≠ c.fitted) :
    w.FittingJudged (w.zoneWritten z c) z c ∧ (w.zoneWritten z c).RolesSound := by
  obtain ⟨x, v, hr, he⟩ := State.zoneWritten_refit h
  rw [he]
  exact ⟨hr.fittingJudged, v.rejudged_rolesSound z⟩

theorem State.rejudged_extractOf (v : State) (z y : ZoneId) : (v.rejudged z).extractOf y = v.extractOf y := by
  unfold State.extractOf; rw [(v.rejudged_dampers z).1]
theorem State.rejudged_makeUpOf (v : State) (z y : ZoneId) : (v.rejudged z).makeUpOf y = v.makeUpOf y := by
  unfold State.makeUpOf; rw [(v.rejudged_dampers z).2]
theorem State.rejudged_inFlight (v : State) (z : ZoneId) : (v.rejudged z).line.inFlight = v.line.inFlight := by
  rw [← (v.rejudged_fanWork z).line]

/-- R107: both dampers of a zone that becomes fitted stand as at reset, with SET 0 and CLOSE queued. -/
theorem State.zoneWritten_fitted (h0 : (w.zone z).config.fitted = false) (h1 : c.fitted = true) :
    (w.zoneWritten z c).extractOf z = { timer := some c.travelLimit } ∧ (w.zoneWritten z c).makeUpOf z = { timer := some 60 } ∧
    .set z 0 ∈ (w.zoneWritten z c).line.queue ∧ .close z ∈ (w.zoneWritten z c).line.queue ∧
    (w.zoneWritten z c).line.inFlight = w.line.inFlight := by
  have hs := w.zoneStored_stored z c
  rw [State.zoneWritten_fits h0 h1]
  generalize w.zoneStored z c = x at hs ⊢
  obtain ⟨he, hm⟩ := x.fitDampers_dampers z
  have hw := (x.fitDampers z).rejudged_fanWork z
  have hq := x.fitDampers_queue (z := z) (by rw [hs.config, h1])
  refine ⟨?_, ?_, ?_, ?_, ?_⟩
  · rw [State.rejudged_extractOf, he, hs.config]
  · rw [State.rejudged_makeUpOf, hm]
  · rw [hw.orders _ (by simp [Order.device]), hq, mem_enter_other (by simp [Order.device])]
    exact self_mem_enter _ _
  · rw [hw.orders _ (by simp [Order.device]), hq]
    exact self_mem_enter _ _
  · rw [State.rejudged_inFlight, State.fitDampers_inFlight, hs.line]

/-- R107, R153: both dampers of a zone that ceases to be fitted stop, with their entries, commands and exchange. -/
theorem State.zoneWritten_stopped (h1 : (w.zone z).config.fitted = true) (h0 : c.fitted = false) :
    (w.zoneWritten z c).extractOf z = { w.extractOf z with timer := none } ∧
    (w.zoneWritten z c).makeUpOf z = { w.makeUpOf z with timer := none } ∧
    (w.alarms.Sound → (w.zoneWritten z c).alarms.hasActive (extractKey z) = false ∧
      (w.zoneWritten z c).alarms.hasActive (makeUpKey z) = false) ∧
    (∀ o ∈ (w.zoneWritten z c).line.queue, o.device ≠ .extract z ∧ o.device ≠ .makeUp z) ∧
    (w.zoneWritten z c).line.inFlight = w.line.inFlight.map fun x =>
      if x.device = .extract z ∨ x.device = .makeUp z then { x with disowned := true } else x := by
  have hs := (w.zoneStored_stored z c).unfitZone
  rw [State.zoneWritten_unfits h1 h0]
  generalize (w.zoneStored z c).unfitZone z = x at hs ⊢
  obtain ⟨he, hm⟩ := x.unfitDampers_dampers z
  have hw := (x.unfitDampers z).rejudged_fanWork z
  have hne : extractKey z ≠ makeUpKey z := by
    simp only [extractKey, makeUpKey, ne_eq, AlarmKey.damperFault.injEq, Fin.mk.injEq]; omega
  refine ⟨?_, ?_, fun ha => ⟨?_, ?_⟩, fun o ho => ?_, ?_⟩
  · rw [State.rejudged_extractOf, he, extractOf_of_plant hs.plant]
  · rw [State.rejudged_makeUpOf, hm, makeUpOf_of_plant hs.plant]
  · rw [hw.active _ (by simp [extractKey]), State.unfitDampers_alarms, AlarmList.clear_hasActive_other hne]
    exact (hs.sound ha).clear_hasActive _ _
  · rw [hw.active _ (by simp [makeUpKey]), State.unfitDampers_alarms]
    exact ((hs.sound ha).clear _ _).clear_hasActive _ _
  · have hown : ¬(o.device = .extract z ∨ o.device = .makeUp z) := fun hd => by
      rw [hw.orders o (by rcases hd with hd | hd <;> simp [hd]), State.unfitDampers_queue] at ho
      have := (List.mem_filter.1 ho).2
      simp [hd] at this
    exact not_or.1 hown
  · rw [State.rejudged_inFlight, State.unfitDampers_inFlight, hs.line]

end

end Sys2Proof.Machine

/-! ## WRITE ZONE settled -/

namespace Sys2Proof.Machine

theorem State.sends_resolver (u : State) (p : Port) (r : Response) : (u.sends p r).resolver = u.resolver :=
  congrArg Lasting.resolver (u.sends_lasting p r)
theorem State.sends_plan (u : State) (p : Port) (r : Response) : (u.sends p r).plan = u.plan :=
  congrArg Lasting.plan (u.sends_lasting p r)

/-- R157: what lasts of a request whose owner works on the rows, the roles and the store. -/
theorem State.sends_lasting_fitted {s u : State} {p : Port} {r : Response} {st : Store}
    (h : u.lasting = { (s.frameTaken p).lasting with zones := u.zones, resolver := u.resolver, store := st }) :
    (u.sends p r).lasting =
      { s.answered p r with zones := (u.sends p r).zones, resolver := (u.sends p r).resolver, store := st } := by
  rw [State.sends_zones, State.sends_resolver, State.sends_lasting, h]; rfl

theorem State.RolesSound.sends {u : State} (h : u.RolesSound) (p : Port) (r : Response) : (u.sends p r).RolesSound :=
  h.congr (u.sends_resolver p r) (u.sends_plan p r) fun z => by rw [State.sends_zone]

/-- Settles O16: each course of the fitted field has its own lemma, and the end of the request keeps what it says. -/
theorem writeZoneStoresTheRecord : Obligations.WriteZoneStoresTheRecord := by
  unfold Obligations.WriteZoneStoresTheRecord
  intro index data z f s hd hz hl h0 c hco hcoAlarm hno2 hno2Alarm hguard q w own r
  have hrec : zoneRecord f data = c := zoneRecord_eq hl f
  have hfit : c.fitted = f := rfl
  have hcons : (zoneRecord f data).consistent = true := by
    rw [hrec]; simp [ZoneConfig.consistent, hco, hcoAlarm, hno2, hno2Alarm]
  have hbody := writeZoneBody_accepts (w := s.frameTaken .building) (index := index) hz hl h0 hcons (by simpa [hrec] using hguard)
  rw [hrec] at hbody
  clear_value c
  subst hfit
  have hsound : s.alarms.Sound → w.alarms.Sound := State.frameTaken_alarms_sound
  have hzone : w.zone = s.zone := funext fun y => State.frameTaken_zone ..
  have hfans : w.fans = s.fans := State.frameTaken_fans ..
  have hline : w.line = s.line := State.frameTaken_line ..
  have halloc : w.alloc = s.alloc := State.frameTaken_alloc ..
  have hplant : w.plant = s.plant := State.frameTaken_plant ..
  have hresolver : w.resolver = s.resolver := State.frameTaken_resolver ..
  have hextract : w.extractOf = s.extractOf := funext fun y => State.frameTaken_extractOf ..
  have hmakeUp : w.makeUpOf = s.makeUpOf := funext fun y => State.frameTaken_makeUpOf ..
  have hstore : w.store = s.store := State.frameTaken_store ..
  obtain ⟨hdue, hlast, hothers, hdampers, hstored, hreworked, htold⟩ := w.zoneWritten_wrote z c
  have hlasting := State.sends_lasting_fitted (r := r) hlast
  have hwork := State.zoneWritten_workedOut (w := w) (z := z) (c := c)
  have hunfit := State.zoneWritten_unfitted (w := w) (z := z) (c := c)
  have hgas := State.zoneWritten_gasCleared (w := w) (z := z) (c := c)
  have hbeside := State.zoneWritten_beside (w := w) (z := z) (c := c)
  have hjudged := State.zoneWritten_fittingJudged (w := w) (z := z) (c := c)
  have hfits := State.zoneWritten_fitted (w := w) (z := z) (c := c)
  have hstops := State.zoneWritten_stopped (w := w) (z := z) (c := c)
  have hexec := serve_accepted (row := rowWriteZone) (index := index) hd rfl (by decide) hl hbody
  simp only [State.FittingJudged] at hjudged
  rw [hzone] at hwork hunfit hgas hbeside hjudged hfits hstops hothers
  rw [hstore] at hlasting
  rw [hextract, hmakeUp] at hdampers hstops
  rw [hresolver] at hreworked
  rw [hplant, hfans, hline, halloc, hresolver] at hbeside
  rw [hline] at hfits hstops
  refine ⟨w.zoneWritten z c, _, hexec, rfl, hdue, hlasting, fun y hy => ?others, fun h => ?worked, fun h1 hc => ⟨?unfitted, fun g hg => ?gas⟩,
    hdampers, fun h => ?beside, fun h => ?judged, hfits, fun h1 hc => ?stops, fun hs => ?stored, ?reworked, fun h => ?resolver,
    fun h => ?roles, ?alarm, ?override⟩
  case others => rw [State.sends_zone]; exact hothers y hy
  case worked => exact (hwork h).congr (State.sends_heads _ _ _) (State.sends_zone _ _ _ _)
  case unfitted => exact (hunfit h1 hc).congr (State.sends_heads _ _ _) (State.sends_zone _ _ _ _)
  case gas =>
    obtain ⟨hn, ha⟩ := hgas h1 hc g hg
    refine ⟨fun p => State.sends_noticed _ _ _ _ (hn p), fun hs => ?_⟩
    rw [State.sends_hasActive _ _ _ rfl]; exact ha (hsound hs)
  case beside =>
    obtain ⟨h1, h2, h3, h4, h5, _⟩ := hbeside h
    exact ⟨h1, h2, h3, h4, h5⟩
  case judged =>
    obtain ⟨⟨hpath, hpolls, hel, hml, v, hr, hvf, hva, hvr, hvp, hve, hvm, hvc, hvz, hvl, hvq, hvk⟩, _⟩ := hjudged h
    have he : w.extract = s.extract := State.frameTaken_extract ..
    have hm : w.makeUp = s.makeUp := State.frameTaken_makeUp ..
    have hi : w.indications = s.indications := State.frameTaken_indications ..
    rw [he, hm, hi, hplant] at hvp
    refine ⟨hpath, hpolls, hel, hml, v, hr, hvf.trans hfans, hva.trans halloc, hvr.trans hresolver, hvp, hve, hvm, hvc, hvz,
      fun d hd => (hvl d hd).trans (by unfold State.link; rw [hline]), ?_, hvk⟩
    rw [← hline]
    exact hvq
  case stops =>
    obtain ⟨he, hm, ha, hq, hx⟩ := hstops h1 hc
    exact ⟨he, hm, fun hs => ha (hsound hs), hq, hx⟩
  case stored => rw [State.sends_hasActive _ _ _ rfl]; exact hstored (hsound hs)
  case reworked => rw [State.sends_resolver]; exact hreworked
  case resolver =>
    obtain ⟨_, _, _, _, _, h6⟩ := hbeside h
    rw [State.sends_resolver]; exact h6
  case roles => exact (hjudged h).2.sends _ _
  case alarm => exact State.sends_noticed _ _ _ _ (htold _ (by decide))
  case override => exact State.sends_noticed _ _ _ _ (htold _ (by decide))

end Sys2Proof.Machine

/-! ## What the owners change before the roles are handed on (R39, R53, R58, R59, R176) -/

namespace Sys2Proof.Machine

section
variable {s t u v : State} {A B : Prop} {ks : List AlarmKey} {ns : List Notice}

/-! ### Work beside the roles -/

/-- From s to v a request has changed the plan, the resolver's layers or marks, the store, the alarm list or the ports, and of the
fans, the line, the plant and the effective roles nothing. It triggers a pass exactly where `other` holds. -/
structure State.Prepares (s v : State) (other : Prop) : Prop where
  fans : v.fans = s.fans
  line : v.line = s.line
  plant : v.plant = s.plant
  alloc : { v.alloc with due := s.alloc.due } = s.alloc
  due : v.alloc.due = true ↔ s.alloc.due = true ∨ other
  resolver : v.resolver.reworked s.resolver = v.resolver
  sound : s.alarms.Sound → v.alarms.Sound

theorem State.Prepares.congr (h : s.Prepares v A) (e : A ↔ B) : s.Prepares v B :=
  ⟨h.fans, h.line, h.plant, h.alloc, h.due.trans (or_congr_right e), h.resolver, h.sound⟩

theorem State.Prepares.trans (h : s.Prepares t A) (k : t.Prepares v B) : s.Prepares v (A ∨ B) := by
  refine ⟨k.fans.trans h.fans, k.line.trans h.line, k.plant.trans h.plant, ?_, ?_, ?_, k.sound ∘ h.sound⟩
  · rw [← h.alloc, ← k.alloc]
  · rw [k.due, h.due, or_assoc]
  · rw [← k.resolver, ← h.resolver]; rfl

/-- Work that leaves the allocator too. -/
theorem State.Prepares.andThen (h : s.Prepares t A) (k : t.Prepares v False) : s.Prepares v A :=
  (h.trans k).congr (or_iff_left id)

theorem State.Prepares.of_same (hf : v.fans = s.fans) (hl : v.line = s.line) (hp : v.plant = s.plant) (ha : v.alloc = s.alloc)
    (hr : v.resolver.reworked s.resolver = v.resolver) (hs : s.alarms.Sound → v.alarms.Sound) : s.Prepares v False :=
  ⟨hf, hl, hp, by rw [ha], by rw [ha]; exact (or_iff_left id).symm, hr, hs⟩

variable (s)

theorem State.prepares_refl : s.Prepares s False := .of_same rfl rfl rfl rfl rfl id
theorem State.modPlan_prepares (f : PlanControl → PlanControl) : s.Prepares (s.modPlan f) False := .of_same rfl rfl rfl rfl rfl id
theorem State.raiseAll_prepares (n : Notice) : s.Prepares (s.raiseAll n) False := .of_same rfl rfl rfl rfl rfl id
theorem State.configChanged_prepares (p : Port) : s.Prepares (s.configChanged p) False := by
  cases p <;> exact .of_same rfl rfl rfl rfl rfl id
theorem State.raiseAlarm_prepares (k : AlarmKey) (d : Option FanDetail) : s.Prepares (s.raiseAlarm k d) False := by
  have h : s.Prepares { s with alarms := s.alarms.raise k d s.partTime } False := .of_same rfl rfl rfl rfl rfl fun h => h.raise _ _ _
  unfold State.raiseAlarm
  split
  · exact h.andThen (State.raiseAll_prepares _ _)
  · exact h
theorem State.triggerIf_prepares (b : Bool) : s.Prepares (s.triggerIf b) (b = true) := by
  rw [State.triggerIf_eq]
  exact ⟨rfl, rfl, rfl, rfl, Bool.or_eq_true_iff, rfl, id⟩

variable {s}

/-! ### The roles handed on from there -/

/-- R86: a fan that has entered READY after what was prepared. -/
theorem State.Readied.prepared {n : FanId} {q : Fan} (h : v.Readied u n q) (k : s.Prepares v A) : s.Readied u n q := by
  have hr : v.alloc.record = s.alloc.record := congrArg Plant.record k.plant
  have hp : v.pathProven = s.pathProven := congrArg Plant.pathProven k.plant
  refine ⟨by rw [← hp, ← hr]; exact h.fan, fun hs => h.entry (k.sound hs), h.due, ?_⟩
  rw [← hp, ← hr]; exact h.run

/-- R58, R59: the roles that a prepared state hands on are handed on from the first. -/
theorem State.RolesHanded.prepared (h : v.RolesHanded u False) (k : s.Prepares v A) : s.RolesHanded u A := by
  obtain ⟨hdue, halloc, hplant, hlinks, hbegins, hends, hstays⟩ := h
  have hroles : v.resolver.roles = s.resolver.roles := by rw [← k.resolver]; rfl
  have hsmoke : v.resolver.smoke = s.resolver.smoke := by rw [← k.resolver]; rfl
  have hcls : v.resolver.cls = s.resolver.cls := by rw [← k.resolver]; rfl
  have hpath : v.pathProven = s.pathProven := congrArg Plant.pathProven k.plant
  have hgrace : v.grace = s.grace := congrArg Plant.grace k.plant
  have hind : v.indications = s.indications := congrArg Plant.indications k.plant
  have hfan : ∀ n, v.fan n = s.fan n := fun n => by simp only [State.fan, k.fans]
  have hturn : v.AnyTurning ↔ s.AnyTurning := State.AnyTurning.congr k.fans
  rw [hroles, hsmoke, hcls, k.due, false_or, or_assoc] at hdue
  rw [hgrace, hind, k.plant] at hplant
  rw [hsmoke] at hbegins hends hstays
  rw [hpath, hturn, hgrace, k.fans, k.line] at hends
  rw [hgrace, k.fans, k.line] at hstays
  refine ⟨hdue, ?_, hplant, fun d => ?_, fun h0 h1 => ?_, hends, hstays⟩
  · rw [← k.alloc, ← halloc]
  · rw [hlinks, State.link, k.line]; rfl
  · obtain ⟨hg, hn⟩ := hbegins h0 h1
    refine ⟨hg, fun n => ?_⟩
    have hn := hn n
    rw [hfan] at hn
    split
    · rename_i hc
      rw [if_pos hc] at hn
      exact hn.prepared k
    · rename_i hc
      rw [if_neg hc] at hn
      exact hn

/-- R58: no role, no smoke service and no class has changed. -/
theorem State.rolesHanded_refl (s : State) : s.RolesHanded s False :=
  ⟨by simp, rfl, rfl, fun _ => rfl, fun h0 h1 => absurd (h0.symm.trans h1) (by decide),
    fun h1 h0 => absurd (h0.symm.trans h1) (by decide), fun _ => ⟨rfl, rfl, rfl⟩⟩

/-! ### Entries and notices of the hand-over (R86, R89) -/

theorem State.Clears.keepsRest {k : AlarmKey} (h : s.Clears u k) (hk : k ∈ ks) : s.KeepsRest u ks ns :=
  (s.clearAlarm_keepsRest hk).trans (State.Quiet.keepsRest (s := s.clearAlarm k) ⟨h.1, h.2⟩ ks ns)

theorem State.smokeBegins_keepsRest (s : State) (hk : ∀ n, .fanFault n ∈ ks) : s.KeepsRest s.smokeBegins ks ns := by
  rw [State.smokeBegins_eq]
  refine foldl_keeps (P := fun q => s.KeepsRest q ks ns) (fun q n h => h.trans ?_) _ _
    (State.Quiet.keepsRest (s := s) (u := { s with grace := none }) ⟨rfl, rfl⟩ ks ns)
  unfold State.endHold
  split
  · exact (q.enterReady_clears n).keepsRest (hk n)
  · exact (State.Quiet.refl q).keepsRest ks ns

theorem State.handSmoke_keepsRest (s : State) (b : Bool) (hk : ∀ n, .fanFault n ∈ ks) : s.KeepsRest (s.handSmoke b) ks ns := by
  unfold State.handSmoke
  split
  · exact s.smokeBegins_keepsRest hk
  · refine State.Quiet.keepsRest ?_ ks ns
    split
    · unfold State.smokeEnds
      split <;> exact ⟨rfl, rfl⟩
    · exact .refl s

/-- R86, R89: of entries and marks a recomputation of the roles clears FAN_FAULT entries alone. -/
theorem State.recomputeRoles_keepsRest (s : State) (hk : ∀ n, .fanFault n ∈ ks) : s.KeepsRest s.recomputeRoles ks ns := by
  rw [State.recomputeRoles_eq]
  exact (State.Quiet.keepsRest (s := s) (u := s.rolesTaken) ⟨rfl, rfl⟩ ks ns).trans (State.handSmoke_keepsRest _ _ hk)

theorem mem_fanFaults (n : FanId) : AlarmKey.fanFault n ∈ fanFaults := List.mem_map_of_mem (List.mem_finRange n)

end

end Sys2Proof.Machine

/-! ## A change of the plan and the level, and its hand-over (R39, R41, R53, R58, R59) -/

namespace Sys2Proof.Machine

section
variable {s t u v : State} {A B : Prop} {ks : List AlarmKey} {ns : List Notice} {f : PlanControl → PlanControl} {l : Level}
  {old : PlanId} {plan : PlanControl} {store : Store}

/-! ### The level -/

theorem State.modPlan_quiet (s : State) (f : PlanControl → PlanControl) : s.Quiet (s.modPlan f) := ⟨rfl, rfl⟩

theorem State.anyOut_iff (s : State) : s.anyOut = true ↔ s.AnyOut := by
  simp [State.anyOut, State.AnyOut]

/-- R39: the level with its notices, less the trigger. -/
def State.levelTold (s : State) (l : Level) : State :=
  let s1 := s.modPlan fun c => { c with level := l }
  let s2 := if s.plan.level = .none ∧ l ≠ .none then s1.raiseAll .incidentBegun else s1
  if s.plan.level ≠ .none ∧ l = .none then s2.raiseAll .incidentEnded else s2

theorem State.setLevel_eq (s : State) (l : Level) :
    s.setLevel l = (s.levelTold l).triggerIf (((s.plan.level == .none) != (l == .none)) && s.anyOut) := rfl

theorem State.levelTold_cases (s : State) (l : Level) :
    let s1 := s.modPlan fun c => { c with level := l }
    (s.plan.level = .none ∧ l ≠ .none ∧ s.levelTold l = s1.raiseAll .incidentBegun) ∨
    (s.plan.level ≠ .none ∧ l = .none ∧ s.levelTold l = s1.raiseAll .incidentEnded) ∨
    ((s.plan.level = .none ↔ l = .none) ∧ s.levelTold l = s1) := by
  unfold State.levelTold
  by_cases h0 : s.plan.level = .none <;> by_cases h1 : l = .none <;> simp [h0, h1]

theorem State.levelTold_lasting (s : State) (l : Level) :
    (s.levelTold l).lasting = { s.lasting with plan := { s.plan with level := l } } := by
  rcases s.levelTold_cases l with ⟨_, _, h⟩ | ⟨_, _, h⟩ | ⟨_, h⟩ <;> rw [h] <;> rfl
theorem State.levelTold_prepares (s : State) (l : Level) : s.Prepares (s.levelTold l) False := by
  have h1 := s.modPlan_prepares fun c => { c with level := l }
  rcases s.levelTold_cases l with ⟨_, _, h⟩ | ⟨_, _, h⟩ | ⟨_, h⟩ <;> rw [h]
  · exact h1.andThen (State.raiseAll_prepares _ _)
  · exact h1.andThen (State.raiseAll_prepares _ _)
  · exact h1

theorem State.setLevel_lasting (s : State) (l : Level) :
    (s.setLevel l).lasting = { s.lasting with plan := { s.plan with level := l } } := by
  rw [State.setLevel_eq, State.triggerIf_lasting, State.levelTold_lasting]
/-- R39: a change of level from or to NONE triggers a pass while a fitted fan is OUT. -/
theorem State.setLevel_prepares (s : State) (l : Level) :
    s.Prepares (s.setLevel l) (¬(s.plan.level = .none ↔ l = .none) ∧ s.AnyOut) := by
  rw [State.setLevel_eq]
  refine ((s.levelTold_prepares l).trans (State.triggerIf_prepares _ _)).congr ?_
  rw [Bool.and_eq_true_iff, State.anyOut_iff, false_or]
  refine and_congr_left fun _ => ?_
  by_cases h0 : s.plan.level = .none <;> by_cases h1 : l = .none <;> simp [h0, h1]
theorem State.setLevel_keepsRest (s : State) (hb : s.plan.level = .none → l ≠ .none → .incidentBegun ∈ ns)
    (he : s.plan.level ≠ .none → l = .none → .incidentEnded ∈ ns) : s.KeepsRest (s.setLevel l) ks ns := by
  have h1 : s.KeepsRest (s.modPlan fun c => { c with level := l }) ks ns := (s.modPlan_quiet _).keepsRest ks ns
  have h2 : s.KeepsRest (s.levelTold l) ks ns := by
    rcases s.levelTold_cases l with ⟨h0, h, e⟩ | ⟨h0, h, e⟩ | ⟨_, e⟩ <;> rw [e]
    · exact h1.trans (State.raiseAll_keepsRest _ (hb h0 h))
    · exact h1.trans (State.raiseAll_keepsRest _ (he h0 h))
    · exact h1
  rw [State.setLevel_eq]
  exact h2.trans ((State.triggerIf_quiet _ _).keepsRest ks ns)
/-- R39: the notices of an incident that begins or ends. -/
theorem State.setLevel_noticed (s : State) (l : Level) :
    (s.plan.level = .none → l ≠ .none → (s.setLevel l).noticedByAll .incidentBegun) ∧
    (s.plan.level ≠ .none → l = .none → (s.setLevel l).noticedByAll .incidentEnded) := by
  have hm : ∀ n, (s.levelTold l).noticedByAll n → (s.setLevel l).noticedByAll n := fun n h p => by
    rw [State.setLevel_eq]
    exact (State.triggerIf_moves (w := true) _ _).keepsNotices _ _ (h p)
  rcases s.levelTold_cases l with ⟨h0, h, e⟩ | ⟨h0, h, e⟩ | ⟨h, e⟩
  · exact ⟨fun _ _ => hm _ (e ▸ State.raiseAll_noticedByAll _ _), fun k _ => absurd h0 k⟩
  · exact ⟨fun k _ => absurd k h0, fun _ _ => hm _ (e ▸ State.raiseAll_noticedByAll _ _)⟩
  · exact ⟨fun h0 k => absurd (h.1 h0) k, fun h0 k => absurd (h.2 k) h0⟩

/-! ### The plan noted -/

theorem State.notePlan_lasting (s : State) (old : PlanId) : (s.notePlan old).lasting = s.lasting := by
  unfold State.notePlan; split <;> rfl
theorem State.notePlan_prepares (s : State) (old : PlanId) : s.Prepares (s.notePlan old) False := by
  unfold State.notePlan
  split
  · exact s.prepares_refl
  · exact s.raiseAll_prepares _
theorem State.notePlan_keepsRest (s : State) (old : PlanId) (h : .planChanged ∈ ns) : s.KeepsRest (s.notePlan old) ks ns := by
  unfold State.notePlan
  split
  · exact (State.Quiet.refl s).keepsRest ks ns
  · exact s.raiseAll_keepsRest h
theorem State.notePlan_noticed (s : State) (h : s.plan.current ≠ old) : (s.notePlan old).noticedByAll .planChanged := by
  rw [State.notePlan, if_neg h]; exact s.raiseAll_noticedByAll _

/-! ### Plan and level together -/

/-- R39, R53: the plan controller's own changes, the level and the notices of both. -/
def State.replanned (s : State) (f : PlanControl → PlanControl) (l : Level) : State :=
  ((s.modPlan f).setLevel l).notePlan s.plan.current

theorem State.replanned_lasting (s : State) (f : PlanControl → PlanControl) (l : Level) :
    (s.replanned f l).lasting = { s.lasting with plan := { f s.plan with level := l } } := by
  rw [State.replanned, State.notePlan_lasting, State.setLevel_lasting]; rfl
theorem State.replanned_prepares (hf : (f s.plan).level = s.plan.level) :
    s.Prepares (s.replanned f l) (¬(s.plan.level = .none ↔ l = .none) ∧ s.AnyOut) := by
  refine State.Prepares.andThen (t := (s.modPlan f).setLevel l) ?_ (State.notePlan_prepares _ _)
  have hl : (s.modPlan f).plan.level = s.plan.level := hf
  have ha : (s.modPlan f).AnyOut ↔ s.AnyOut := Iff.rfl
  refine ((s.modPlan_prepares f).trans (State.setLevel_prepares _ l)).congr ?_
  rw [hl, ha, false_or]
theorem State.replanned_keepsRest (hf : (f s.plan).level = s.plan.level) (hp : .planChanged ∈ ns)
    (hb : s.plan.level = .none → l ≠ .none → .incidentBegun ∈ ns)
    (he : s.plan.level ≠ .none → l = .none → .incidentEnded ∈ ns) : s.KeepsRest (s.replanned f l) ks ns := by
  have hl : (s.modPlan f).plan.level = s.plan.level := hf
  exact (((s.modPlan_quiet f).keepsRest ks ns).trans
    (State.setLevel_keepsRest _ (hl ▸ hb) (hl ▸ he))).trans (State.notePlan_keepsRest _ _ hp)
/-- R39, R53: the notices of a change. -/
theorem State.replanned_noticed (hf : (f s.plan).level = s.plan.level) :
    (s.plan.level = .none → l ≠ .none → (s.replanned f l).noticedByAll .incidentBegun) ∧
    (s.plan.level ≠ .none → l = .none → (s.replanned f l).noticedByAll .incidentEnded) ∧
    (s.plan.current ≠ (f s.plan).current → (s.replanned f l).noticedByAll .planChanged) := by
  have hl : (s.modPlan f).plan.level = s.plan.level := hf
  have hc : ((s.modPlan f).setLevel l).plan.current = (f s.plan).current := by
    have h := congrArg (fun q : Lasting => q.plan.current) ((s.modPlan f).setLevel_lasting l)
    exact h
  have hm : ∀ n, ((s.modPlan f).setLevel l).noticedByAll n → (s.replanned f l).noticedByAll n := fun n h p =>
    (State.notePlan_moves _ _).keepsNotices _ _ (h p)
  obtain ⟨hb, he⟩ := (s.modPlan f).setLevel_noticed l
  rw [hl] at hb he
  exact ⟨fun h0 h1 => hm _ (hb h0 h1), fun h0 h1 => hm _ (he h0 h1), fun h =>
    State.notePlan_noticed _ (hc ▸ h.symm)⟩

/-! ### The roles of a changed plan -/

/-- R41, R53, R58, R59: from s to u a request has put `plan` in force and stored `store`: a changed current plan has had the roles
computed again and handed on, and has been noted. -/
structure State.PlanTaken (s u : State) (plan : PlanControl) (store : Store) (other : Prop) : Prop where
  handed : s.RolesHanded u other
  lasting : u.lasting = { s.lasting with plan := plan, resolver := u.resolver, store := store }
  reworked : u.resolver = s.resolver.reworked u.resolver
  same : s.plan.current = plan.current → u.resolver = s.resolver
  changed : s.plan.current ≠ plan.current → u.RolesSound ∧ u.noticedByAll .planChanged

/-- R41, R58: a prepared plan is handed on where it has changed. -/
theorem State.Prepares.handPlan (h : s.Prepares v A) (hr : v.resolver = s.resolver)
    (hl : v.lasting = { s.lasting with plan := plan, store := store })
    (hn : s.plan.current ≠ plan.current → v.noticedByAll .planChanged) :
    s.PlanTaken (v.handPlan s.plan.current) plan store A := by
  have hp : v.plan = plan := congrArg Lasting.plan hl
  unfold State.handPlan
  by_cases hc : v.plan.current = s.plan.current
  · rw [if_pos hc]
    have hsame : s.plan.current = plan.current := by rw [← hp, hc]
    refine ⟨v.rolesHanded_refl.prepared h, ?_, ?_, fun _ => hr, fun e => absurd hsame e⟩
    · rw [hl, hr]; rfl
    · rw [hr]; rfl
  · rw [if_neg hc]
    have hdiff : s.plan.current ≠ plan.current := by rw [← hp]; exact Ne.symm hc
    refine ⟨v.recomputeRoles_handed.prepared h, ?_, ?_, fun e => absurd e hdiff, fun _ => ⟨v.recomputeRoles_rolesSound, fun p => ?_⟩⟩
    · rw [State.recomputeRoles_lasting, hl]
    · rw [← hr]; exact v.recomputeRoles_reworked
    · exact v.recomputeRoles_moves.keepsNotices _ _ (hn hdiff p)

theorem State.handPlan_keepsRest (s : State) (old : PlanId) (hk : ∀ n, .fanFault n ∈ ks) : s.KeepsRest (s.handPlan old) ks ns := by
  unfold State.handPlan
  split
  · exact (State.Quiet.refl s).keepsRest ks ns
  · exact s.recomputeRoles_keepsRest hk

/-- R39, R41, R53: a plan and a level taken, from a state prepared for them. -/
theorem State.Prepares.replans (h : s.Prepares t False) (hp : t.plan.current = s.plan.current) (hr : t.resolver = s.resolver)
    (hl : t.lasting = { s.lasting with plan := t.plan }) (hf : (f t.plan).level = t.plan.level) :
    s.PlanTaken ((t.replanned f l).handPlan s.plan.current) { f t.plan with level := l } s.store
      (¬(t.plan.level = .none ↔ l = .none) ∧ s.AnyOut) := by
  have ha : t.AnyOut ↔ s.AnyOut := by simp only [State.AnyOut, State.fan, h.fans]
  have hq := t.replanned_lasting f l
  refine State.Prepares.handPlan ((h.trans (State.replanned_prepares hf)).congr (by rw [false_or, ha]))
    ((congrArg Lasting.resolver hq).trans hr) ?_ fun e => ?_
  · rw [hq, hl]; rfl
  · exact (State.replanned_noticed hf).2.2 (by rw [hp]; exact e)

/-- R39, R41, R53: a plan and a level taken. -/
theorem State.replanned_taken (hf : (f s.plan).level = s.plan.level) :
    s.PlanTaken ((s.replanned f l).handPlan s.plan.current) { f s.plan with level := l } s.store
      (¬(s.plan.level = .none ↔ l = .none) ∧ s.AnyOut) := s.prepares_refl.replans rfl rfl rfl hf

/-! ### The end of a request that takes a plan -/

variable {p : Port} {r : Response}

theorem State.sends_noticedByAll {n : Notice} (h : u.noticedByAll n) (p : Port) (r : Response) : (u.sends p r).noticedByAll n :=
  fun q => State.sends_noticed u p q r (h q)

/-- R157: what lasts of a request whose owner works on the plan, the resolver and the store. -/
theorem State.sends_lasting_planned
    (h : u.lasting = { (s.frameTaken p).lasting with plan := plan, resolver := u.resolver, store := store }) :
    (u.sends p r).lasting = { s.answered p r with plan := plan, resolver := (u.sends p r).resolver, store := store } := by
  rw [State.sends_resolver, State.sends_lasting, h]; rfl

/-- R157: the plan taken and the roles stand at the end of the request. -/
theorem State.PlanTaken.sends (h : (s.frameTaken p).PlanTaken u plan store A) (r : Response) :
    (u.sends p r).lasting = { s.answered p r with plan := plan, resolver := (u.sends p r).resolver, store := store } ∧
    (u.sends p r).resolver = s.resolver.reworked (u.sends p r).resolver ∧
    (s.plan.current = plan.current → (u.sends p r).resolver = s.resolver) ∧
    (s.plan.current ≠ plan.current → (u.sends p r).RolesSound ∧ (u.sends p r).noticedByAll .planChanged) := by
  have hr : (s.frameTaken p).resolver = s.resolver := State.frameTaken_resolver ..
  have hp : (s.frameTaken p).plan = s.plan := State.frameTaken_plan ..
  obtain ⟨_, hlast, hre, hsame, hch⟩ := h
  rw [hr] at hre hsame
  rw [hp] at hsame hch
  refine ⟨State.sends_lasting_planned hlast, ?_, ?_, fun e => ⟨(hch e).1.sends p r, State.sends_noticedByAll (hch e).2 p r⟩⟩
  · rw [State.sends_resolver]; exact hre
  · rw [State.sends_resolver]; exact hsame

end

end Sys2Proof.Machine

/-! ## Fires, the return and the choice of a plan (R40 to R51) -/

namespace Sys2Proof.Machine

section
variable {s t u v : State} {A B : Prop} {ks : List AlarmKey} {ns : List Notice} {plan : PlanControl} {store : Store} {z : ZoneId}
  {p : Port} {r : Response}

theorem State.RolesHanded.congr (h : s.RolesHanded u A) (e : A ↔ B) : s.RolesHanded u B :=
  ⟨h.due.trans (or_congr_right (or_congr_left e)), h.alloc, h.plant, h.links, h.begins, h.ends, h.stays⟩
theorem State.PlanTaken.congr (h : s.PlanTaken u plan store A) (e : A ↔ B) : s.PlanTaken u plan store B :=
  ⟨h.handed.congr e, h.lasting, h.reworked, h.same, h.changed⟩
/-- R157: the end of a request whose owner leaves the store. -/
theorem State.PlanTaken.sends_kept (h : (s.frameTaken p).PlanTaken u plan (s.frameTaken p).store A) (r : Response) :
    (u.sends p r).lasting = { s.answered p r with plan := plan, resolver := (u.sends p r).resolver } ∧
    (u.sends p r).resolver = s.resolver.reworked (u.sends p r).resolver ∧
    (s.plan.current = plan.current → (u.sends p r).resolver = s.resolver) ∧
    (s.plan.current ≠ plan.current → (u.sends p r).RolesSound ∧ (u.sends p r).noticedByAll .planChanged) := h.sends r

theorem State.frameTaken_anyOut (s : State) (p : Port) : (s.frameTaken p).AnyOut ↔ s.AnyOut := by
  simp only [State.AnyOut, State.frameTaken_fan]

/-! ### A zone joins the fire set (R40) -/

theorem State.joinFire_plan (s : State) (z : ZoneId) :
    (s.joinFire z).plan = { s.plan with fireSet := s.plan.fireSet ||| fireMark z } := State.raiseAlarm_plan _ _ _
theorem State.joinFire_lasting (s : State) (z : ZoneId) :
    (s.joinFire z).lasting = { s.lasting with plan := { s.plan with fireSet := s.plan.fireSet ||| fireMark z } } :=
  State.raiseAlarm_lasting _ _ _
theorem State.joinFire_prepares (s : State) (z : ZoneId) : s.Prepares (s.joinFire z) False :=
  (s.modPlan_prepares _).andThen (State.raiseAlarm_prepares _ _ _)
theorem State.joinFire_hasActive (s : State) (z : ZoneId) (h : s.alarms.Sound) :
    (s.joinFire z).alarms.hasActive (.fire z) = true := by
  rw [State.joinFire, State.raiseAlarm_alarms]; exact h.raise_fire_active z _ _

/-- R135: a raise that finds its entry or room touches no other. -/
theorem State.raiseAlarm_keepsRest_room (s : State) {k : AlarmKey} (hk : k ∈ ks)
    (h : s.alarms.has k = true ∨ s.alarms.entries.length < 32) (d : Option FanDetail) : s.KeepsRest (s.raiseAlarm k d) ks ns := by
  have hfull : ¬s.alarms.full k = true := by
    unfold AlarmList.full
    rcases h with h | h
    · simp [h]
    · simp [Config.listSize, Nat.not_le.2 h]
  rw [State.raiseAlarm, if_neg hfull]
  refine ⟨?_, fun _ _ _ => ⟨rfl, rfl⟩⟩
  show ((s.alarms.raise k d s.partTime).entries.filter _) = _
  unfold AlarmList.raise
  by_cases hh : s.alarms.has k = true
  · rw [if_pos hh]
    exact filter_map_ite _ fun x hx => by simp [AlarmEntry.again, hx, hk]
  · rw [if_neg hh, if_pos (show _ < Config.listSize from h.resolve_left hh)]
    simp [AlarmList.append, AlarmList.advance, hk]
theorem State.joinFire_keepsRest (s : State) (z : ZoneId) (hk : .fire z ∈ ks)
    (h : s.alarms.has (.fire z) = true ∨ s.alarms.entries.length < 32) : s.KeepsRest (s.joinFire z) ks ns :=
  ((s.modPlan_quiet fun c => { c with fireSet := c.fireSet ||| fireMark z }).keepsRest ks ns).trans
    (State.raiseAlarm_keepsRest_room (s.modPlan _) hk h none)

/-! ### An incident begins (R43) -/

theorem State.beginIncident_eq (s : State) (z : ZoneId) : s.beginIncident z =
    ((s.joinFire z).replanned (fun c => c.begin z s.partTime) .fire).handPlan s.plan.current := by
  have h : (s.joinFire z).plan.current = s.plan.current := by rw [State.joinFire_plan]
  unfold State.beginIncident State.replanned
  rw [h]

theorem State.beginIncident_taken (s : State) (z : ZoneId) (h : s.plan.level = .none) :
    s.PlanTaken (s.beginIncident z) { s.plan with
      fireSet := s.plan.fireSet ||| fireMark z, saved := s.plan.current, current := (s.plan.map[z.val]).getD s.plan.current,
      level := .fire, cause := some ⟨z, s.plan.map[z.val], s.partTime, .none⟩ } s.store s.AnyOut := by
  have hp := s.joinFire_plan z
  have ht := (s.joinFire_prepares z).replans (f := fun c => c.begin z s.partTime) (l := .fire) (by rw [hp])
    (congrArg Lasting.resolver (s.joinFire_lasting z)) (by rw [hp]; exact s.joinFire_lasting z) (by rw [hp]; rfl)
  rw [← State.beginIncident_eq, hp] at ht
  exact ht.congr (by simp [h])

theorem State.handPlan_hasActive (s : State) (old : PlanId) {k : AlarmKey} (hk : ∀ n, k ≠ .fanFault n) :
    (s.handPlan old).alarms.hasActive k = s.alarms.hasActive k := by
  unfold State.handPlan
  split
  · rfl
  · exact s.recomputeRoles_fanWork.active k fun n _ => hk n
theorem State.replanned_alarms (s : State) (f : PlanControl → PlanControl) (l : Level) : (s.replanned f l).alarms = s.alarms := by
  have hn : ∀ (q : State) (k : PlanId), (q.notePlan k).alarms = q.alarms := fun q k => by unfold State.notePlan; split <;> rfl
  have hl : ∀ q : State, (q.levelTold l).alarms = q.alarms := fun q => by
    rcases q.levelTold_cases l with ⟨_, _, h⟩ | ⟨_, _, h⟩ | ⟨_, h⟩ <;> rw [h] <;> rfl
  rw [State.replanned, hn, State.setLevel_eq, State.triggerIf_alarms, hl]; rfl

theorem State.handPlan_noticedByAll (s : State) (old : PlanId) {n : Notice} (h : s.noticedByAll n) : (s.handPlan old).noticedByAll n :=
  fun p => (s.handPlan_moves old).keepsNotices _ _ (h p)

/-- R40, R53: the entry and the notice of an incident that begins. -/
theorem State.beginIncident_told (s : State) (z : ZoneId) (h : s.plan.level = .none) :
    (s.beginIncident z).noticedByAll .incidentBegun ∧
    (s.alarms.Sound → (s.beginIncident z).alarms.hasActive (.fire z) = true) := by
  have hl : (s.joinFire z).plan.level = .none := by rw [State.joinFire_plan]; exact h
  rw [State.beginIncident_eq]
  refine ⟨State.handPlan_noticedByAll _ _ ((State.replanned_noticed rfl).1 hl (by decide)), fun hs => ?_⟩
  rw [State.handPlan_hasActive _ _ (by simp), State.replanned_alarms]
  exact s.joinFire_hasActive z hs

theorem State.beginIncident_keepsRest (s : State) (z : ZoneId)
    (h : s.alarms.has (.fire z) = true ∨ s.alarms.entries.length < 32) :
    s.KeepsRest (s.beginIncident z) (.fire z :: fanFaults) [.incidentBegun, .planChanged] := by
  have hjoin := s.joinFire_keepsRest (ks := .fire z :: fanFaults) (ns := [.incidentBegun, .planChanged]) z List.mem_cons_self h
  have hplan := State.replanned_keepsRest (s := s.joinFire z) (ks := .fire z :: fanFaults) (ns := [.incidentBegun, .planChanged])
    (f := fun c => c.begin z s.partTime) (l := .fire) rfl (by decide) (fun _ _ => by decide) fun _ e => by cases e
  rw [State.beginIncident_eq]
  exact (hjoin.trans hplan).trans (State.handPlan_keepsRest _ _ fun n => List.mem_cons_of_mem _ (mem_fanFaults n))

/-- Settles O27: the plan of the incident is taken from the state in which the zone has joined the fire set. -/
theorem fireAlarmBeginsAnIncident : Obligations.FireAlarmBeginsAnIncident := by
  unfold Obligations.FireAlarmBeginsAnIncident
  intro index z s hd hz hfit hburn hl current r
  have hbody : fireAlarmBody index (s.frameTaken .alarm) = doneNow ((s.frameTaken .alarm).beginIncident z).finish := by
    simp only [fireAlarmBody, hz, State.frameTaken_zone, hfit, State.fireAlarmed, State.frameTaken_burning, hburn,
      State.frameTaken_plan, hl, if_true, Bool.false_eq_true, if_false]
  have hw : (s.frameTaken .alarm).plan.level = .none := by rw [State.frameTaken_plan]; exact hl
  have htaken := (s.frameTaken .alarm).beginIncident_taken z hw
  simp only [State.frameTaken_plan, State.frameTaken_partTime] at htaken
  obtain ⟨hbegun, hactive⟩ := (s.frameTaken .alarm).beginIncident_told z hw
  obtain ⟨hlast, hre, hsame, hch⟩ := htaken.sends_kept r
  refine ⟨_, _, serve_accepted hd rfl (by decide) rfl hbody, rfl, htaken.handed.congr (s.frameTaken_anyOut _), fun hroom => ?_, hlast,
    State.sends_noticedByAll hbegun _ _, hre, hsame, hch, fun hs => ?_⟩
  · have hroom : (s.frameTaken .alarm).alarms.has (.fire z) = true ∨ (s.frameTaken .alarm).alarms.entries.length < 32 := by
      refine hroom.imp_left fun h => ?_
      rw [State.frameTaken_alarms]
      split
      · exact AlarmList.clear_has (by simp) _ h
      · exact h
    exact State.beginIncident_keepsRest _ z hroom
  · rw [State.sends_hasActive _ _ _ rfl]
    exact hactive (State.frameTaken_alarms_sound hs)

end

end Sys2Proof.Machine

/-! ## A further fire, the fire reset and the purge (R40, R44 to R49) -/

namespace Sys2Proof.Machine

section
variable {s t u v : State} {A B : Prop} {ks : List AlarmKey} {ns : List Notice} {plan : PlanControl} {z : ZoneId} {p : Port} {r : Response}

/-- R157: what lasts of a request whose owner works on the plan alone. -/
theorem State.sends_lasting_plan (h : u.lasting = { (s.frameTaken p).lasting with plan := plan }) (r : Response) :
    (u.sends p r).lasting = { s.answered p r with plan := plan } := by
  rw [State.sends_lasting, h]; rfl
theorem State.frameTaken_sends_lasting (s : State) (p : Port) (r : Response) : ((s.frameTaken p).sends p r).lasting = s.answered p r :=
  State.sends_lasting _ p r

/-! ### A second alarm (R44, R45) -/

theorem secondCause_eq (cause : Option Cause) (z : ZoneId) (t : Nat) (set : BitVec 16) :
    some (secondCause cause z t (set == 0)) = match cause with
      | none => some ⟨z, none, t, .manual⟩
      | some c => some (if set = 0 then { c with zone := z, time := t } else c) := by
  cases cause with
  | none => rfl
  | some c => by_cases h : set = 0 <;> simp [secondCause, h]

theorem State.secondAlarm_lasting (s : State) (z : ZoneId) : (s.secondAlarm z).lasting = { s.lasting with
    plan := { s.plan with
      fireSet := s.plan.fireSet ||| fireMark z, purge := none,
      cause := some (secondCause s.plan.cause z s.partTime (s.plan.fireSet == 0)) } } := by
  have hl := s.joinFire_lasting z
  have hp := s.joinFire_plan z
  have h : ∀ (q : State) (f : PlanControl → PlanControl), (q.modPlan f).lasting = { q.lasting with plan := f q.plan } := fun _ _ => rfl
  rw [State.secondAlarm, State.raiseAll_lasting, h, hl, hp]; rfl

theorem State.secondAlarm_told (s : State) (z : ZoneId) : (s.secondAlarm z).noticedByAll .secondFire ∧
    (s.alarms.Sound → (s.secondAlarm z).alarms.hasActive (.fire z) = true) :=
  ⟨State.raiseAll_noticedByAll _ _, s.joinFire_hasActive z⟩

/-- R113: without a waiting trigger no pass is taken. -/
theorem State.settle_of_not_due (h : s.alloc.due = false) : s.settle = s := by
  have hs : s.settle = s.chain (31 + 1) := rfl
  rw [hs, State.chain, if_neg (by simp [h])]

/-- R40: an alarm of a zone of the set is answered and nothing more. -/
theorem State.sends_of_not_due (h : u.alloc.due = false) (p : Port) (r : Response) :
    (u.sends p r).alarms = u.alarms ∧ (u.sends p r).plant = u.plant ∧ (u.sends p r).fans = u.fans ∧
    ∀ q, ((u.sends p r).port q).pending = (u.port q).pending ∧ ((u.sends p r).port q).seen = (u.port q).seen ∧
      ((u.sends p r).port q).line = (u.port q).line := by
  have hf : u.finish = u.chooseExchange := by rw [State.finish, State.settle_of_not_due h]
  rw [State.sends, hf]
  refine ⟨rfl, rfl, rfl, fun q => ?_⟩
  by_cases hq : q = p
  · subst hq
    rw [State.modPort_port_self]; exact ⟨rfl, rfl, rfl⟩
  · rw [State.modPort_port_other _ _ hq]; exact ⟨rfl, rfl, rfl⟩

theorem State.frameTaken_marks (s : State) (p q : Port) : ((s.frameTaken p).port q).pending = (s.port q).pending ∧
    ((s.frameTaken p).port q).seen = (s.port q).seen ∧ ((s.frameTaken p).port q).line = (s.port q).line := by
  by_cases hq : q = p
  · subst hq
    rw [State.frameTaken_port]; exact ⟨rfl, rfl, rfl⟩
  · rw [State.frameTaken_port_other _ _ hq]; exact ⟨rfl, rfl, rfl⟩

/-- Settles O28, for a further zone and for one of the set. -/
theorem furtherFireAlarmKeepsThePlan : Obligations.FurtherFireAlarmKeepsThePlan := by
  unfold Obligations.FurtherFireAlarmKeepsThePlan
  intro index z s hd hz hfit
  have hbody : fireAlarmBody index (s.frameTaken .alarm) = doneNow ((s.frameTaken .alarm).fireAlarmed z).finish := by
    simp only [fireAlarmBody, hz, State.frameTaken_zone, hfit, if_true]
  have hexec := serve_accepted (row := rowFireAlarm) (index := index) (data := []) hd rfl (by decide) rfl hbody
  refine ⟨fun hburn hl => ?_, fun hburn hdue => ?_⟩
  · have hf : (s.frameTaken .alarm).fireAlarmed z = (s.frameTaken .alarm).secondAlarm z := by
      simp only [State.fireAlarmed, State.frameTaken_burning, hburn, State.frameTaken_plan, hl, Bool.false_eq_true, if_false]
    have hlast := (s.frameTaken .alarm).secondAlarm_lasting z
    obtain ⟨hsecond, hactive⟩ := (s.frameTaken .alarm).secondAlarm_told z
    rw [hf] at hexec
    refine ⟨_, hexec, ?_, State.sends_noticedByAll hsecond _ _, fun hs => ?_⟩
    · rw [State.sends_lasting_plan hlast]
      simp only [State.frameTaken_plan, State.frameTaken_partTime, secondCause_eq]; rfl
    · rw [State.sends_hasActive _ _ _ rfl]
      exact hactive (State.frameTaken_alarms_sound hs)
  · have hf : (s.frameTaken .alarm).fireAlarmed z = s.frameTaken .alarm := by
      simp only [State.fireAlarmed, State.frameTaken_burning, hburn, if_true]
    rw [hf] at hexec
    have hdue : (s.frameTaken .alarm).alloc.due = false := by rw [State.frameTaken_alloc]; exact hdue
    obtain ⟨ha, hp, hfans, hm⟩ := State.sends_of_not_due hdue .alarm ⟨.done, 0x20, index, []⟩
    refine ⟨_, hexec, State.frameTaken_sends_lasting _ _ _, ha, hp.trans (s.frameTaken_plant _), hfans.trans (s.frameTaken_fans _),
      fun q => ?_⟩
    obtain ⟨h1, h2, h3⟩ := s.frameTaken_marks .alarm q
    obtain ⟨k1, k2, k3⟩ := hm q
    exact ⟨k1.trans h1, k2.trans h2, k3.trans h3⟩

/-! ### The return (R46) -/

/-- R46: the plan controller's own changes at the return. -/
def PlanControl.returned (c : PlanControl) : PlanControl := { c with current := c.saved, cause := none, purge := none }

theorem State.doReturn_eq (s : State) : s.doReturn = (s.replanned PlanControl.returned .none).handPlan s.plan.current := rfl

theorem State.doReturn_keepsRest (s : State) (hk : ∀ n, .fanFault n ∈ ks) (h : .planChanged ∈ ns) (he : .incidentEnded ∈ ns) :
    s.KeepsRest s.doReturn ks ns := by
  rw [State.doReturn_eq]
  exact (State.replanned_keepsRest rfl h (fun _ k => absurd rfl k) fun _ _ => he).trans (State.handPlan_keepsRest _ _ hk)
theorem State.doReturn_noticed (s : State) (h : s.plan.level ≠ .none) : s.doReturn.noticedByAll .incidentEnded := by
  rw [State.doReturn_eq]
  exact State.handPlan_noticedByAll _ _ ((State.replanned_noticed rfl).2.1 h rfl)

/-- R46, R53, R58, R59: the return from FIRE, from a state prepared for it. -/
theorem State.Prepares.returns (h : s.Prepares t False) (hp : t.plan.current = s.plan.current) (hr : t.resolver = s.resolver)
    (hl : t.lasting = { s.lasting with plan := t.plan }) (hlv : t.plan.level ≠ .none) :
    s.PlanTaken t.doReturn { t.plan.returned with level := .none } s.store s.AnyOut := by
  have ht := h.replans (f := PlanControl.returned) (l := .none) hp hr hl rfl
  rw [← hp, ← State.doReturn_eq] at ht
  exact ht.congr (by simp [hlv])

/-! ### The fires emptied (R47) -/

theorem State.emptyFires_lasting (s : State) : s.emptyFires.lasting = { s.lasting with plan := { s.plan with fireSet := 0 } } := by
  rw [State.emptyFires_eq]; rfl
theorem State.emptyFires_plan (s : State) : s.emptyFires.plan = { s.plan with fireSet := 0 } := by rw [State.emptyFires_eq]
theorem State.emptyFires_prepares (s : State) : s.Prepares s.emptyFires False := by
  rw [State.emptyFires_eq]
  exact .of_same rfl rfl rfl rfl rfl fun h => douseAll_sound _ h
theorem State.emptyFires_keepsRest (s : State) (hk : ∀ z, .fire z ∈ ks) : s.KeepsRest s.emptyFires ks ns := by
  refine State.KeepsRest.trans (foldl_keeps (P := fun q => s.KeepsRest q ks ns) (fun q z h => ?_) _ s
    ((State.Quiet.refl s).keepsRest ks ns)) ((State.modPlan_quiet _ _).keepsRest ks ns)
  split
  · exact h.trans (q.clearAlarm_keepsRest (hk z))
  · exact h

/-! ### FIRE RESET and the expiry of the purge timer (R47, R48) -/

theorem State.fireReset_idle (h : s.plan.fireSet = 0 ∨ s.plan.level = .none) : s.fireReset = s := by
  unfold State.fireReset
  split
  · rfl
  · rename_i hf
    rw [h.resolve_left hf]
theorem State.fireReset_manual (hf : s.plan.fireSet ≠ 0) (hl : s.plan.level = .manual) : s.fireReset = s.emptyFires := by
  rw [State.fireReset, if_neg hf, hl]
theorem State.fireReset_fire (hf : s.plan.fireSet ≠ 0) (hl : s.plan.level = .fire) :
    s.fireReset = s.emptyFires.purgeOrReturn := by
  rw [State.fireReset, if_neg hf, hl]
theorem State.emptyFires_bank (s : State) : s.emptyFires.bank s.emptyFires.plan.current = s.bank s.plan.current := by
  unfold State.bank; rw [State.emptyFires_plan]
/-- R47: the purge timer starts. -/
theorem State.fireReset_purges (hf : s.plan.fireSet ≠ 0) (hl : s.plan.level = .fire) (hp : 0 < (s.bank s.plan.current).purge) :
    s.fireReset.lasting =
      { s.lasting with plan := { s.plan with fireSet := 0, purge := some (s.bank s.plan.current).purge } } := by
  rw [State.fireReset_fire hf hl, State.purgeOrReturn, State.emptyFires_bank, if_pos hp, State.emptyFires_eq]; rfl
/-- R47: the return is made at once. -/
theorem State.fireReset_returns (hf : s.plan.fireSet ≠ 0) (hl : s.plan.level = .fire) (hp : (s.bank s.plan.current).purge = 0) :
    s.fireReset = s.emptyFires.doReturn := by
  rw [State.fireReset_fire hf hl, State.purgeOrReturn, State.emptyFires_bank, if_neg (by omega)]

theorem State.emptyFires_returned (s : State) (hl : s.plan.level = .fire) : s.PlanTaken s.emptyFires.doReturn
    { s.plan with fireSet := 0, current := s.plan.saved, level := .none, cause := none, purge := none } s.store s.AnyOut := by
  have hp := s.emptyFires_plan
  have ht := s.emptyFires_prepares.returns (by rw [hp]) (by rw [State.emptyFires_eq]) (by rw [hp]; exact s.emptyFires_lasting)
    (by rw [hp, hl]; decide)
  rw [hp] at ht
  exact ht

theorem exec_fireReset {index : Byte} (hd : (s.port .alarm).decoder = .waiting) :
    exec (.fireReset .alarm index []) s = .next ((s.frameTaken .alarm).fireReset.sends .alarm ⟨.done, 0x21, index, []⟩) :=
  serve_accepted (row := rowFireReset) (body := fireResetBody) hd rfl (by decide) rfl rfl

/-- Settles O29, by the level, the fire set and the purge time of the plan in force. -/
theorem fireResetPurgesAndReturns : Obligations.FireResetPurgesAndReturns := by
  unfold Obligations.FireResetPurgesAndReturns
  refine ⟨fun index s hd => ?_, fun s hpurge hl => ?_⟩
  · intro r purge
    have hexec := exec_fireReset (index := index) hd
    have hplan : (s.frameTaken .alarm).plan = s.plan := State.frameTaken_plan ..
    have hbank : (s.frameTaken .alarm).bank (s.frameTaken .alarm).plan.current = s.bank s.plan.current := by
      rw [hplan, State.frameTaken_bank]
    refine ⟨fun h => ⟨_, hexec, ?_⟩, fun hf hl => ⟨_, hexec, ?_⟩, fun hf hl hp => ⟨_, hexec, ?_⟩, fun hf hl hp => ?_⟩
    · rw [State.fireReset_idle (by rw [hplan]; exact h)]
      exact State.frameTaken_sends_lasting _ _ _
    · rw [State.fireReset_manual (by rw [hplan]; exact hf) (by rw [hplan]; exact hl),
        State.sends_lasting_plan (State.emptyFires_lasting _), hplan]
    · rw [State.sends_lasting_plan
        (State.fireReset_purges (by rw [hplan]; exact hf) (by rw [hplan]; exact hl) (by rw [hbank]; exact hp)), hplan,
        State.frameTaken_bank]
    · rw [State.fireReset_returns (by rw [hplan]; exact hf) (by rw [hplan]; exact hl) (by rw [hbank]; exact hp)] at hexec
      have hw : (s.frameTaken .alarm).plan.level = .fire := by rw [hplan]; exact hl
      have htaken := (s.frameTaken .alarm).emptyFires_returned hw
      rw [hplan] at htaken
      obtain ⟨hlast, hre, hsame, hch⟩ := htaken.sends_kept r
      have hfans : ∀ n, AlarmKey.fanFault n ∈ (List.finRange 16).map .fire ++ fanFaults :=
        fun n => List.mem_append_right _ (mem_fanFaults n)
      have hfires : ∀ z, AlarmKey.fire z ∈ (List.finRange 16).map .fire ++ fanFaults :=
        fun z => List.mem_append_left _ (List.mem_map_of_mem (List.mem_finRange z))
      refine ⟨_, _, hexec, rfl, htaken.handed.congr (s.frameTaken_anyOut _),
        (State.emptyFires_keepsRest _ hfires).trans (State.doReturn_keepsRest _ hfans (by decide) (by decide)), hlast,
        State.sends_noticedByAll (State.doReturn_noticed _ ?_) _ _, hre, hsame, hch⟩
      rw [State.emptyFires_plan, hw]; decide
  · have htaken := s.prepares_refl.returns rfl rfl rfl (by rw [hl]; decide)
    have hexec : exec .purgeTimerExpiry s = .next s.doReturn.finish := by
      show execPurgeTimerExpiry s = _
      rw [execPurgeTimerExpiry, if_pos hpurge]
    have hfin : s.doReturn.finish.lasting = s.doReturn.lasting := s.doReturn.finish_lasting
    have hkept := (State.finish_moves (w := true) s.doReturn).keepsNotices
    have hres : s.doReturn.finish.resolver = s.doReturn.resolver := resolver_of_lasting hfin
    refine ⟨_, _, hexec, rfl, htaken.handed, s.doReturn_keepsRest mem_fanFaults (by decide) (by decide), ?_,
      fun p => hkept _ _ (s.doReturn_noticed (by rw [hl]; decide) p), ?_, fun e => ?_, fun e => ⟨?_, fun p => ?_⟩⟩
    · rw [hres, hfin, htaken.lasting]; rfl
    · rw [hres]; exact htaken.reworked
    · rw [hres]; exact htaken.same e
    · exact (htaken.changed e).1.congr hres (plan_of_lasting hfin) fun z => by simp only [State.zone, zones_of_lasting hfin]
    · exact hkept _ _ ((htaken.changed e).2 p)

end

end Sys2Proof.Machine

/-! ## The override panel's plan selection (R50, R51) -/

namespace Sys2Proof.Machine

section
variable {s t u v : State} {A B : Prop} {ks : List AlarmKey} {ns : List Notice} {p : Port} {r : Response}

/-- R51: the plan controller's own changes at the return to automatic. -/
def PlanControl.automated (c : PlanControl) : PlanControl :=
  if c.fireSet = 0 then { c with current := c.saved, cause := none } else { c with current := c.automaticPlan }
/-- R51: the level the part returns to. -/
def PlanControl.automaticLevel (c : PlanControl) : Level := if c.fireSet = 0 then .none else .fire

theorem PlanControl.automated_level (c : PlanControl) : c.automated.level = c.level := by
  unfold PlanControl.automated; split <;> rfl
theorem PlanControl.automaticPlan_eq (c : PlanControl) : c.automaticPlan = match c.cause with
    | some k => (c.map[k.zone.val]).getD c.saved
    | none => c.saved := by
  unfold PlanControl.automaticPlan; cases c.cause <;> rfl
/-- R51: the plan and the level together. -/
theorem PlanControl.automated_eq (c : PlanControl) : { c.automated with level := c.automaticLevel } =
    if c.fireSet = 0 then { c with current := c.saved, level := .none, cause := none }
    else { c with
      level := .fire
      current := match c.cause with
        | some k => (c.map[k.zone.val]).getD c.saved
        | none => c.saved } := by
  rw [PlanControl.automated, PlanControl.automaticLevel, PlanControl.automaticPlan_eq]
  split <;> rfl
theorem PlanControl.automaticLevel_eq_none {c : PlanControl} : c.automaticLevel = .none ↔ c.fireSet = 0 := by
  unfold PlanControl.automaticLevel; split <;> simp_all

theorem State.toAutomatic_eq (s : State) : s.toAutomatic = s.replanned PlanControl.automated s.plan.automaticLevel := by
  unfold State.toAutomatic State.replanned State.modPlan PlanControl.automated PlanControl.automaticLevel
  split <;> rfl

theorem State.toAutomatic_prepares (s : State) (h : s.plan.level = .manual) :
    s.Prepares s.toAutomatic (s.plan.fireSet = 0 ∧ s.AnyOut) := by
  rw [State.toAutomatic_eq]
  exact (State.replanned_prepares s.plan.automated_level).congr (by simp [h, PlanControl.automaticLevel_eq_none])
theorem State.toAutomatic_keepsRest (s : State) (h : s.plan.level = .manual) (hp : .planChanged ∈ ns) (he : .incidentEnded ∈ ns) :
    s.KeepsRest s.toAutomatic ks ns := by
  rw [State.toAutomatic_eq]
  exact State.replanned_keepsRest s.plan.automated_level hp (fun k => absurd (h.symm.trans k) (by decide)) fun _ _ => he
/-- R51, R53: the notices of the return to automatic. -/
theorem State.toAutomatic_noticed (s : State) (h : s.plan.level = .manual) :
    (s.plan.fireSet = 0 → s.toAutomatic.noticedByAll .incidentEnded) ∧
    (s.plan.current ≠ s.plan.automated.current → s.toAutomatic.noticedByAll .planChanged) := by
  obtain ⟨_, hended, hchanged⟩ := State.replanned_noticed (s := s) (l := s.plan.automaticLevel) s.plan.automated_level
  rw [State.toAutomatic_eq]
  exact ⟨fun hf => hended (by rw [h]; decide) (PlanControl.automaticLevel_eq_none.2 hf), hchanged⟩

/-- R50: the plan controller's own changes at a selection. -/
def PlanControl.selected (c : PlanControl) (k : PlanId) : PlanControl :=
  { c with saved := if c.level = .none then c.current else c.saved, current := k, purge := none }

theorem State.selectPlan_taken (s : State) (k : PlanId) :
    s.PlanTaken (s.selectPlan k) { s.plan.selected k with level := .manual } s.store (s.plan.level = .none ∧ s.AnyOut) :=
  (State.replanned_taken (f := fun c => c.selected k) rfl).congr (by simp)
theorem State.selectPlan_keepsRest (s : State) (k : PlanId) :
    s.KeepsRest (s.selectPlan k) fanFaults [.planChanged, .incidentBegun] :=
  (State.replanned_keepsRest rfl (by decide) (fun _ _ => by decide) fun _ e => by cases e).trans
    (State.handPlan_keepsRest _ _ mem_fanFaults)
theorem State.selectPlan_noticed (s : State) (k : PlanId) (h : s.plan.level = .none) : (s.selectPlan k).noticedByAll .incidentBegun :=
  State.handPlan_noticedByAll _ _ ((State.replanned_noticed rfl).1 h (by decide))

/-- R51: the return to automatic at MANUAL, with its hand-over. -/
theorem State.automatic_taken (s : State) (h : s.plan.level = .manual) : s.PlanTaken (s.toAutomatic.handPlan s.plan.current)
    { s.plan.automated with level := s.plan.automaticLevel } s.store (s.plan.fireSet = 0 ∧ s.AnyOut) := by
  rw [State.toAutomatic_eq]
  exact (State.replanned_taken s.plan.automated_level).congr (by simp [h, PlanControl.automaticLevel_eq_none])

/-- Settles O33: both requests take a plan and hand it on. -/
theorem selectPlanAndReturnToAutomatic : Obligations.SelectPlanAndReturnToAutomatic := by
  unfold Obligations.SelectPlanAndReturnToAutomatic
  intro index s hd hc
  have hcontrol : (s.frameTaken .override).controlled = true := by simpa using State.controlled_of hc
  have hplan : (s.frameTaken .override).plan = s.plan := State.frameTaken_plan ..
  refine ⟨fun k hk => ?_, fun hm => ?_⟩
  · intro r
    have hbody : selectPlanBody index (s.frameTaken .override) = doneNow ((s.frameTaken .override).selectPlan k).finish := by
      simp only [selectPlanBody, hk, hcontrol, if_true]
    have htaken := (s.frameTaken .override).selectPlan_taken k
    rw [hplan] at htaken
    obtain ⟨hlast, hre, hsame, hch⟩ := htaken.sends_kept r
    refine ⟨_, _, serve_accepted (row := rowSelectPlan) (index := index) (data := []) hd rfl (by decide) rfl hbody, rfl,
      htaken.handed.congr (by rw [s.frameTaken_anyOut]), State.selectPlan_keepsRest _ k, hlast, hre, hsame, hch, fun h => ?_⟩
    exact State.sends_noticedByAll (State.selectPlan_noticed _ k (hplan ▸ h)) _ _
  · intro r plan
    have hw : (s.frameTaken .override).plan.level = .manual := by rw [hplan]; exact hm
    have hbody : returnToAutomaticBody (s.frameTaken .override) =
        doneNow ((s.frameTaken .override).toAutomatic.handPlan (s.frameTaken .override).plan.current).finish := by
      simp only [returnToAutomaticBody, hcontrol, if_true, hw]
    have htaken := (s.frameTaken .override).automatic_taken hw
    have hended := ((s.frameTaken .override).toAutomatic_noticed hw).1
    rw [hplan, PlanControl.automated_eq] at htaken
    rw [hplan] at hbody hended
    obtain ⟨hlast, hre, hsame, hch⟩ := htaken.sends_kept r
    refine ⟨_, _, serve_accepted (row := rowReturnToAutomatic) (index := index) (data := []) hd rfl (by decide) rfl hbody, rfl,
      htaken.handed.congr (by rw [s.frameTaken_anyOut]),
      (State.toAutomatic_keepsRest _ hw (by decide) (by decide)).trans (State.handPlan_keepsRest _ _ mem_fanFaults), hlast, hre, hsame,
      hch, fun h => State.sends_noticedByAll (State.handPlan_noticedByAll _ _ (hended h)) _ _⟩

end

end Sys2Proof.Machine

/-! ## GIVE CONTROL (R62) -/

namespace Sys2Proof.Machine

section
variable {s t u v : State} {A B : Prop} {ks : List AlarmKey} {ns : List Notice} {f : Resolver → Resolver}

theorem State.modResolver_prepares (s : State) (hf : (f s.resolver).reworked s.resolver = f s.resolver) :
    s.Prepares (s.modResolver f) False := .of_same rfl rfl rfl rfl hf id

theorem State.modResolver_quiet (s : State) (f : Resolver → Resolver) : s.Quiet (s.modResolver f) := ⟨rfl, rfl⟩

/-- R62: the resolver without a layer, a block and the control of the override panel. -/
def Resolver.released (r : Resolver) : Resolver :=
  { r with overrides := Vector.replicate 16 none, blocks := Vector.replicate 8 false, control := .notInControl }

/-- R62: what GIVE CONTROL does before the roles are computed again. -/
def State.controlGiven (s : State) : State :=
  ((s.clearOverrides.returnIfManual).modResolver fun r => { r with control := .notInControl }).raiseAll .overrideChanged

theorem State.giveControl_eq (s : State) : s.giveControl = s.controlGiven.recomputeRoles := rfl

/-- R51, R62: the plan that stands after GIVE CONTROL. -/
def PlanControl.givenBack (c : PlanControl) : PlanControl :=
  if c.level ≠ .manual then c else { c.automated with level := c.automaticLevel }

theorem State.clearOverrides_lasting (s : State) : s.clearOverrides.lasting =
    { s.lasting with
      resolver := { s.resolver with overrides := Vector.replicate 16 none, blocks := Vector.replicate 8 false } } := by
  rw [State.clearOverrides, State.triggerIf_lasting]; rfl
theorem State.clearOverrides_prepares (s : State) : s.Prepares s.clearOverrides (∃ n : FanId, s.resolver.blocks[n.val] = true) := by
  have h : s.resolver.blocks.toList.any id = true ↔ ∃ n : FanId, s.resolver.blocks[n.val] = true := by
    rw [Vector.any_toList, Vector.any_eq_true]; simp [Fin.exists_iff]
  exact ((s.modResolver_prepares rfl).trans (State.triggerIf_prepares _ _)).congr (by rw [h, false_or])
theorem State.clearOverrides_anyOut (s : State) : s.clearOverrides.AnyOut ↔ s.AnyOut := by
  simp only [State.AnyOut, State.fan, s.clearOverrides_prepares.fans]

theorem State.returnIfManual_lasting (s : State) : s.returnIfManual.lasting = { s.lasting with plan := s.plan.givenBack } := by
  unfold State.returnIfManual PlanControl.givenBack
  by_cases h : s.plan.level = .manual
  · rw [if_pos h, if_neg (not_not_intro h), State.toAutomatic_eq, State.replanned_lasting]
  · rw [if_neg h, if_pos h]; rfl
theorem State.returnIfManual_prepares (s : State) :
    s.Prepares s.returnIfManual (s.plan.level = .manual ∧ s.plan.fireSet = 0 ∧ s.AnyOut) := by
  unfold State.returnIfManual
  by_cases h : s.plan.level = .manual
  · rw [if_pos h]; exact (s.toAutomatic_prepares h).congr (by simp [h])
  · rw [if_neg h]; exact s.prepares_refl.congr (by simp [h])
theorem State.returnIfManual_keepsRest (s : State) (hp : .planChanged ∈ ns) (he : .incidentEnded ∈ ns) :
    s.KeepsRest s.returnIfManual ks ns := by
  unfold State.returnIfManual
  split
  · rename_i h
    exact s.toAutomatic_keepsRest h hp he
  · exact (State.Quiet.refl s).keepsRest ks ns
/-- R53, R62: the notices of the return that GIVE CONTROL makes. -/
theorem State.returnIfManual_noticed (s : State) :
    (s.plan.level = .manual → s.plan.fireSet = 0 → s.returnIfManual.noticedByAll .incidentEnded) ∧
    (s.plan.current ≠ s.plan.givenBack.current → s.returnIfManual.noticedByAll .planChanged) := by
  unfold State.returnIfManual PlanControl.givenBack
  by_cases h : s.plan.level = .manual
  · rw [if_pos h, if_neg (not_not_intro h)]
    exact ⟨fun _ => (s.toAutomatic_noticed h).1, (s.toAutomatic_noticed h).2⟩
  · rw [if_neg h, if_pos h]
    exact ⟨fun k => absurd k h, fun k => absurd rfl k⟩

theorem State.controlGiven_lasting (s : State) : s.controlGiven.lasting =
    { s.lasting with plan := s.plan.givenBack, resolver := s.resolver.released } := by
  have h1 := s.clearOverrides_lasting
  have h2 := s.clearOverrides.returnIfManual_lasting
  have hp : s.clearOverrides.plan = s.plan := congrArg Lasting.plan h1
  have h : ∀ (q : State) (f : Resolver → Resolver), (q.modResolver f).lasting = { q.lasting with resolver := f q.lasting.resolver } :=
    fun _ _ => rfl
  rw [State.controlGiven, State.raiseAll_lasting, h, h2, h1, hp]; rfl
theorem State.controlGiven_prepares (s : State) : s.Prepares s.controlGiven
    ((∃ n : FanId, s.resolver.blocks[n.val] = true) ∨ (s.plan.level = .manual ∧ s.plan.fireSet = 0 ∧ s.AnyOut)) := by
  have hp : s.clearOverrides.plan = s.plan := congrArg Lasting.plan s.clearOverrides_lasting
  have h := s.clearOverrides_prepares.trans s.clearOverrides.returnIfManual_prepares
  rw [hp, s.clearOverrides_anyOut] at h
  exact (h.andThen (State.modResolver_prepares _ rfl)).andThen (State.raiseAll_prepares _ _)
theorem State.controlGiven_keepsRest (s : State) :
    s.KeepsRest s.controlGiven fanFaults [.overrideChanged, .planChanged, .incidentEnded] := by
  have h1 : s.Quiet s.clearOverrides := by
    unfold State.clearOverrides; exact (State.modResolver_quiet _ _).trans (State.triggerIf_quiet _ _)
  have h2 := s.clearOverrides.returnIfManual_keepsRest (ks := fanFaults) (ns := [.overrideChanged, .planChanged, .incidentEnded])
    (by decide) (by decide)
  exact (((h1.keepsRest _ _).trans h2).trans ((State.modResolver_quiet _ _).keepsRest _ _)).trans
    (State.raiseAll_keepsRest _ (by decide))

/-- R53, R58, R62: the notices stand through the recomputation of the roles. -/
theorem State.giveControl_noticed (s : State) : s.giveControl.noticedByAll .overrideChanged ∧
    (s.plan.current ≠ s.plan.givenBack.current → s.giveControl.noticedByAll .planChanged) ∧
    (s.plan.level = .manual → s.plan.fireSet = 0 → s.giveControl.noticedByAll .incidentEnded) := by
  have hp : s.clearOverrides.plan = s.plan := congrArg Lasting.plan s.clearOverrides_lasting
  obtain ⟨hended, hchanged⟩ := s.clearOverrides.returnIfManual_noticed
  rw [hp] at hended hchanged
  have hend : State.Moves true s.controlGiven s.giveControl := s.controlGiven.recomputeRoles_moves
  have hgiven : State.Moves true s.clearOverrides.returnIfManual s.giveControl :=
    ((s.clearOverrides.returnIfManual.modResolver_moves _).trans (State.raiseAll_moves _ _)).trans hend
  exact ⟨fun p => hend.keepsNotices _ _ (State.raiseAll_noticedByAll _ _ p),
    fun h p => hgiven.keepsNotices _ _ (hchanged h p), fun hm hf p => hgiven.keepsNotices _ _ (hended hm hf p)⟩

theorem State.giveControl_resolver (s : State) : s.giveControl.resolver = s.resolver.released.reworked s.giveControl.resolver := by
  have h : s.controlGiven.resolver = s.resolver.released := congrArg Lasting.resolver s.controlGiven_lasting
  rw [← h]; exact s.controlGiven.recomputeRoles_reworked

theorem State.giveControl_lasting (s : State) :
    s.giveControl.lasting = { s.lasting with plan := s.plan.givenBack, resolver := s.giveControl.resolver } := by
  rw [State.giveControl_eq, State.recomputeRoles_lasting, State.controlGiven_lasting]

/-- Settles O31: the layers, the return and the control are prepared before the one recomputation of the roles. -/
theorem giveControlReturnsTheDepot : Obligations.GiveControlReturnsTheDepot := by
  unfold Obligations.GiveControlReturnsTheDepot
  intro index s hd r
  refine ⟨fun hc => ?_, fun hc => ?_⟩
  · intro plan
    have hcontrol : (s.frameTaken .override).controlled = true := by simpa using State.controlled_of hc
    have hbody : giveControlBody (s.frameTaken .override) = doneNow (s.frameTaken .override).giveControl.finish := by
      simp only [giveControlBody, hcontrol, if_true]
    have hplan : (s.frameTaken .override).plan = s.plan := State.frameTaken_plan ..
    have hgiven : (s.frameTaken .override).plan.givenBack = plan := by
      rw [hplan]
      exact congrArg (fun c => if s.plan.level ≠ .manual then s.plan else c) s.plan.automated_eq
    have hresolver := (s.frameTaken .override).giveControl_resolver
    have hlast := (s.frameTaken .override).giveControl_lasting
    obtain ⟨hover, hchanged, hended⟩ := (s.frameTaken .override).giveControl_noticed
    have hhanded := (s.frameTaken .override).controlGiven.recomputeRoles_handed.prepared (s.frameTaken .override).controlGiven_prepares
    have hsound : (s.frameTaken .override).giveControl.RolesSound := State.recomputeRoles_rolesSound _
    rw [State.frameTaken_resolver] at hresolver
    rw [hgiven] at hlast hchanged
    rw [hplan] at hchanged hended hhanded
    rw [s.frameTaken_anyOut, State.frameTaken_resolver] at hhanded
    refine ⟨_, _, serve_accepted (row := rowGiveControl) (index := index) (data := []) hd rfl (by decide) rfl hbody, rfl, hhanded,
      (State.controlGiven_keepsRest _).trans (State.recomputeRoles_keepsRest _ mem_fanFaults), ?_, ?_, fun z => ?_, fun n => ?_, ?_,
      hsound.sends _ _, State.sends_noticedByAll hover _ _, fun h => State.sends_noticedByAll (hchanged h) _ _,
      fun hm hf => State.sends_noticedByAll (hended hm hf) _ _⟩
    · exact State.sends_lasting_planned (store := (s.frameTaken .override).store) hlast
    all_goals rw [State.sends_resolver, hresolver, Resolver.reworked, Resolver.released]
    · exact Vector.getElem_replicate ..
    · exact Vector.getElem_replicate ..
  · have hcontrol : (s.frameTaken .override).controlled = false := by simpa using State.not_controlled hc
    have hbody : giveControlBody (s.frameTaken .override) = doneNow (s.frameTaken .override) := by
      simp only [giveControlBody, hcontrol, Bool.false_eq_true, if_false]
    have h : exec (.giveControl .override index []) s = .next (serve rowGiveControl .override index [] giveControlBody s) := rfl
    rw [h, serve_owned hd (by decide) rfl rfl, hbody]; rfl

end

end Sys2Proof.Machine

/-! ## The plan banks, the base plan and the plan map written (R32 to R35, R52, R175, R176) -/

namespace Sys2Proof.Machine

section
variable {s t u v : State} {A B : Prop} {ks : List AlarmKey} {ns : List Notice} {plan : PlanControl} {store : Store} {g : GroupId}
  {p q : Port} {k : PlanId} {b : PlanBank} {data : List Word} {r : Response}

/-! ### A group of the plan controller committed -/

/-- R7, R175, R176: the plan controller and a group of the store written, the group's entry cleared and the change told to the
other ports. -/
def State.planStored (s : State) (plan : PlanControl) (store : Store) (g : GroupId) (p : Port) : State :=
  (State.groupWritten { s with plan := plan, store := store } g).configChanged p

theorem State.planStored_lasting (s : State) : (s.planStored plan store g p).lasting = { s.lasting with plan := plan, store := store } :=
  State.raiseOthers_lasting ..
theorem State.planStored_resolver (s : State) : (s.planStored plan store g p).resolver = s.resolver := State.raiseOthers_resolver ..
theorem State.planStored_prepares (s : State) : s.Prepares (s.planStored plan store g p) False :=
  have h : s.Prepares (State.groupWritten { s with plan := plan, store := store } g) False :=
    .of_same rfl rfl rfl rfl rfl fun h => h.clear _ _
  h.andThen (State.configChanged_prepares _ p)
theorem State.planStored_keepsRest (s : State) (hk : .storeFault g ∈ ks) (hn : .configChanged ∈ ns) :
    s.KeepsRest (s.planStored plan store g p) ks ns :=
  ((State.Quiet.keepsRest (s := s) (u := { s with plan := plan, store := store }) ⟨rfl, rfl⟩ ks ns).trans
    (State.clearAlarm_keepsRest _ hk)).trans (State.configChanged_keepsRest _ p hn)
theorem State.planStored_hasActive (s : State) (h : s.alarms.Sound) :
    (s.planStored plan store g p).alarms.hasActive (.storeFault g) = false := by
  have ha : (s.planStored plan store g p).alarms = s.alarms.clear (.storeFault g) s.partTime := State.raiseOthers_alarms ..
  rw [ha]; exact h.clear_hasActive _ _
theorem State.planStored_noticed (s : State) (h : q ≠ p) : (s.planStored plan store g p).noticed .configChanged q :=
  State.raiseOthers_noticed _ _ h

/-! ### WRITE PLAN (R33) -/

/-- R33: group 4 with a bank replaced. -/
def Store.withBank (t : Store) (k : PlanId) (b : PlanBank) : Store :=
  { t with plans := sealWith plansImage (t.plans.contents.withBank k b) }
/-- R33: the plan controller with a bank replaced. -/
def PlanControl.withBank (c : PlanControl) (k : PlanId) (b : PlanBank) : PlanControl := { c with banks := upd c.banks k fun _ => b }

/-- R33: the bank written, before its roles take effect. -/
def State.bankStored (s : State) (p : Port) (k : PlanId) (b : PlanBank) : State :=
  s.planStored (s.plan.withBank k b) (s.store.withBank k b) 3 p

theorem State.planWritten_eq (s : State) (p : Port) (k : PlanId) (b : PlanBank) :
    s.planWritten p k b = if k = s.plan.current then (s.bankStored p k b).recomputeRoles else s.bankStored p k b := rfl

theorem State.planWritten_handed (s : State) : s.RolesHanded (s.planWritten p k b) False := by
  rw [State.planWritten_eq]
  split
  · exact (State.recomputeRoles_handed _).prepared s.planStored_prepares
  · exact (State.rolesHanded_refl _).prepared s.planStored_prepares
theorem State.planWritten_keepsRest (s : State) :
    s.KeepsRest (s.planWritten p k b) (.storeFault 3 :: fanFaults) [.configChanged] := by
  have h : s.KeepsRest (s.bankStored p k b) (.storeFault 3 :: fanFaults) [.configChanged] :=
    s.planStored_keepsRest List.mem_cons_self (by decide)
  rw [State.planWritten_eq]
  split
  · exact h.trans (State.recomputeRoles_keepsRest _ fun n => List.mem_cons_of_mem _ (mem_fanFaults n))
  · exact h
theorem State.planWritten_lasting (s : State) : (s.planWritten p k b).lasting =
    { s.lasting with
      plan := s.plan.withBank k b, resolver := (s.planWritten p k b).resolver, store := s.store.withBank k b } := by
  have h : (s.bankStored p k b).lasting = { s.lasting with plan := s.plan.withBank k b, store := s.store.withBank k b } :=
    s.planStored_lasting
  rw [State.planWritten_eq]
  split
  · rw [State.recomputeRoles_lasting, h]
  · rw [h, State.bankStored, State.planStored_resolver]; rfl
/-- R33, R58: the roles of the bank take effect where it is the current plan's. -/
theorem State.planWritten_resolver (s : State) :
    (s.planWritten p k b).resolver = s.resolver.reworked (s.planWritten p k b).resolver ∧
    (k ≠ s.plan.current → (s.planWritten p k b).resolver = s.resolver) ∧
    (k = s.plan.current → (s.planWritten p k b).RolesSound) := by
  have h : (s.bankStored p k b).resolver = s.resolver := s.planStored_resolver
  rw [State.planWritten_eq]
  split
  · rename_i hk
    have hre := (s.bankStored p k b).recomputeRoles_reworked
    rw [h] at hre
    exact ⟨hre, fun e => absurd hk e, fun _ => State.recomputeRoles_rolesSound _⟩
  · rename_i hk
    rw [h]
    exact ⟨rfl, fun _ => rfl, fun e => absurd e hk⟩
/-- R7, R176: the entry of group 4 and the notices stand through the recomputation. -/
theorem State.planWritten_told (s : State) :
    (s.alarms.Sound → (s.planWritten p k b).alarms.hasActive (.storeFault 3) = false) ∧
    ∀ q, q ≠ p → (s.planWritten p k b).noticed .configChanged q := by
  rw [State.planWritten_eq]
  split
  · refine ⟨fun hs => ?_, fun q hq => (State.recomputeRoles_moves _).keepsNotices _ _ (s.planStored_noticed hq)⟩
    rw [(State.recomputeRoles_fanWork _).active _ fun _ _ => by simp]
    exact s.planStored_hasActive hs
  · exact ⟨s.planStored_hasActive, fun _ => s.planStored_noticed⟩

/-- Where each word gives its value the sixteen are read. -/
theorem sixteenFrom_eq {α : Type} {read : Word → Option (Option α)} {w : Vector (Option α) 16}
    (h : ∀ z : Fin 16, read (dataWord data z.val) = some w[z.val]) :
    (sixteenFrom read data 0).map (fun x => x.map fun e => e.getD none) = some w := by
  have hall : (List.finRange 16).all (fun i => (read (dataWord data (0 + i.val))).isSome) = true := by
    simp only [List.all_eq_true, Nat.zero_add, h, Option.isSome_some, implies_true]
  rw [sixteenFrom, if_pos hall, Option.map_some, Option.some.injEq]
  refine Vector.ext fun i hi => ?_
  have hz := h ⟨i, hi⟩
  simp only [Vector.getElem_map, Vector.getElem_ofFn, Nat.zero_add, hz, Option.getD_some]

/-- R6, R33: a class and a purge time out of their ranges make the write a clamped one. -/
theorem anyClamped_plan (h : data.length = 18) : anyClamped planRanges data 16 = false ↔
    clampTo 1 2 (dataNat data 16) = dataNat data 16 ∧ clampTo 0 3600 (dataNat data 17) = dataNat data 17 := by
  have hdrop : data.drop 16 = [dataWord data 16, dataWord data 17] := by
    rw [List.drop_eq_getElem_cons (by omega), List.drop_eq_getElem_cons (by omega), List.drop_of_length_le (by omega)]
    simp [dataWord, h]
  simp only [anyClamped, clampFields, planRanges, hdrop, List.zipWith_cons_cons, List.length_cons, List.length_nil, Nat.zero_add,
    Nat.reduceAdd, List.take_succ_cons, List.take_zero, List.map_cons, List.map_nil, List.zipWith_nil_left, bne_eq_false_iff_eq,
    List.cons.injEq, and_true, clampField, dataNat]

theorem PlanBank.allows_all {k : PlanKind} {roles : Vector (Option Role) 16}
    (h : k = .normal → ∀ z : ZoneId, roles[z.val] = none ∨ roles[z.val] = some .isolate) : roles.toList.all k.allows = true := by
  cases k with
  | smoke => simp [PlanKind.allows]
  | normal =>
    refine List.all_eq_true.2 fun e he => ?_
    obtain ⟨i, hi, rfl⟩ := List.mem_iff_getElem.1 he
    rcases h rfl ⟨i, by simpa using hi⟩ with e | e
    all_goals rw [Vector.getElem_toList]; simp only [] at e; rw [e]; rfl

/-- Settles O20: the bank is written and reported before the roles of the current plan are computed again. -/
theorem writePlanReplacesTheBank : Obligations.WritePlanReplacesTheBank := by
  unfold Obligations.WritePlanReplacesTheBank
  intro p index data k roles s hd hl hk hlen hp hroles hallowed b r
  have hincident : (s.frameTaken p).incident = false := by simpa using State.not_incident hl
  have hread : rolesOf data = some roles := sixteenFrom_eq hroles
  have hport : ¬(p = .building ∧ (s.bank k).kind = .smoke) := by
    rintro ⟨rfl, h⟩
    rcases hp with hp | ⟨_, hp⟩
    · cases hp
    · rw [hp] at h; cases h
  have hstatus : (if anyClamped planRanges data 16 = true then Status.doneClamped else .done) = r.status := by
    by_cases hc : anyClamped planRanges data 16 = true
    · rw [if_pos hc]
      exact (if_neg fun h => by rw [(anyClamped_plan hlen).2 h] at hc; cases hc).symm
    · rw [if_neg hc]
      exact (if_pos ((anyClamped_plan hlen).1 (by simpa using hc))).symm
  have hbody : writePlanBody p index data (s.frameTaken p) = ⟨((s.frameTaken p).planWritten p k b).finish, r.status, []⟩ := by
    simp only [writePlanBody, hk, State.frameTaken_bank, if_neg hport, hincident, Bool.false_eq_true, if_false, writePlanValues, hread,
      PlanBank.allows_all hallowed, if_true, doneIf, hstatus]
    rfl
  obtain ⟨hre, hother, hcurrent⟩ := (s.frameTaken p).planWritten_resolver (p := p) (k := k) (b := b)
  obtain ⟨hfault, hnotices⟩ := (s.frameTaken p).planWritten_told (p := p) (k := k) (b := b)
  have hlast := (s.frameTaken p).planWritten_lasting (p := p) (k := k) (b := b)
  rw [State.frameTaken_plan, State.frameTaken_store] at hlast
  rw [State.frameTaken_resolver] at hre hother
  rw [State.frameTaken_plan] at hother hcurrent
  have hrow : rowWritePlan.ports.contains p = true := by rcases hp with rfl | ⟨rfl, _⟩ <;> rfl
  refine ⟨_, _, serve_accepted (row := rowWritePlan) (index := index) (data := data) hd hrow (by decide) hlen hbody, rfl,
    State.planWritten_handed _, State.planWritten_keepsRest _, State.sends_lasting_planned hlast, ?_, ?_,
    fun h => (hcurrent h).sends _ _, fun hs => ?_, fun q hq => State.sends_noticed _ _ _ _ (hnotices q hq)⟩
  · rw [State.sends_resolver]; exact hre
  · rw [State.sends_resolver]; exact hother
  · rw [State.sends_hasActive _ _ _ rfl]; exact hfault (State.frameTaken_alarms_sound hs)

end

end Sys2Proof.Machine

/-! ## The base plan, the plan map and a bank's kind (R34, R35, R52) -/

namespace Sys2Proof.Machine

section
variable {s t u v : State} {A B : Prop} {ks : List AlarmKey} {ns : List Notice} {plan : PlanControl} {store : Store}
  {p q : Port} {k : PlanId} {data : List Word} {r : Response}

/-! ### SELECT BASE PLAN (R52) -/

/-- R52: group 6 with the base plan replaced. -/
def Store.withBase (t : Store) (k : PlanId) : Store := { t with base := sealWith baseImage { t.base.contents with base := k } }
/-- R52: the base and the saved plan replaced, at NONE the current plan too. -/
def PlanControl.based (c : PlanControl) (k : PlanId) : PlanControl :=
  { c with base := k, saved := k, current := if c.level = .none then k else c.current }

/-- R52: the base plan written, before it is put in force. -/
def State.baseStored (s : State) (k : PlanId) : State := s.planStored { s.plan with base := k } (s.store.withBase k) 5 .building
/-- R52, R53: the base plan put in force, before its roles take effect. -/
def State.baseTaken (s : State) (k : PlanId) : State :=
  if s.plan.level = .none then ((s.baseStored k).modPlan fun c => { c with current := k, saved := k }).notePlan s.plan.current
  else (s.baseStored k).modPlan fun c => { c with saved := k }

theorem State.baseStored_plan (s : State) (k : PlanId) : (s.baseStored k).plan = { s.plan with base := k } :=
  congrArg Lasting.plan
    (s.planStored_lasting (plan := { s.plan with base := k }) (store := s.store.withBase k) (g := 5) (p := .building))

theorem State.baseTaken_lasting (s : State) (k : PlanId) :
    (s.baseTaken k).lasting = { s.lasting with plan := s.plan.based k, store := s.store.withBase k } := by
  have hp := s.baseStored_plan k
  have hl : (s.baseStored k).lasting = { s.lasting with plan := { s.plan with base := k }, store := s.store.withBase k } :=
    s.planStored_lasting
  have h : ∀ f, ((s.baseStored k).modPlan f).lasting = { (s.baseStored k).lasting with plan := f (s.baseStored k).plan } :=
    fun _ => rfl
  unfold State.baseTaken PlanControl.based
  by_cases hn : s.plan.level = .none
  · rw [if_pos hn, if_pos hn, State.notePlan_lasting, h, hl, hp]
  · rw [if_neg hn, if_neg hn, h, hl, hp]

/-- R52, R58: at another level the current plan stays and no role is computed. -/
theorem State.baseSelected_eq (s : State) (k : PlanId) : s.baseSelected k = (s.baseTaken k).handPlan s.plan.current := by
  have hp : (s.baseTaken k).plan = s.plan.based k := congrArg Lasting.plan (s.baseTaken_lasting k)
  by_cases hn : s.plan.level = .none
  · rw [State.baseTaken, if_pos hn]
    exact if_pos hn
  · have hsame : (s.baseTaken k).plan.current = s.plan.current := by rw [hp]; exact if_neg hn
    rw [State.handPlan, if_pos hsame, State.baseTaken, if_neg hn]
    exact if_neg hn

theorem State.baseTaken_prepares (s : State) (k : PlanId) : s.Prepares (s.baseTaken k) False := by
  have h : s.Prepares (s.baseStored k) False := s.planStored_prepares
  unfold State.baseTaken
  split
  · exact (h.andThen (State.modPlan_prepares _ _)).andThen (State.notePlan_prepares _ _)
  · exact h.andThen (State.modPlan_prepares _ _)
theorem State.baseTaken_keepsRest (s : State) (k : PlanId) (hk : .storeFault 5 ∈ ks) (hc : .configChanged ∈ ns)
    (hp : .planChanged ∈ ns) : s.KeepsRest (s.baseTaken k) ks ns := by
  have h : s.KeepsRest (s.baseStored k) ks ns := s.planStored_keepsRest hk hc
  unfold State.baseTaken
  split
  · exact (h.trans ((State.modPlan_quiet _ _).keepsRest ks ns)).trans (State.notePlan_keepsRest _ _ hp)
  · exact h.trans ((State.modPlan_quiet _ _).keepsRest ks ns)
theorem State.baseTaken_noticed (s : State) (k : PlanId) (h : s.plan.current ≠ (s.plan.based k).current) :
    (s.baseTaken k).noticedByAll .planChanged := by
  unfold State.baseTaken
  split
  · rename_i hn
    refine State.notePlan_noticed _ fun e => h ?_
    exact e.symm.trans (if_pos hn).symm
  · rename_i hn
    exact absurd (if_neg hn).symm h

/-- R7, R52: the work after the base plan is stored leaves the entry of group 6 and the notices of the write. -/
theorem State.baseTaken_moves (s : State) (k : PlanId) : State.Moves true (s.baseStored k) (s.baseTaken k) := by
  unfold State.baseTaken
  split
  · exact (State.modPlan_moves _ _ rfl).trans (State.notePlan_moves _ _)
  · exact State.modPlan_moves _ _ rfl
theorem State.baseTaken_alarms (s : State) (k : PlanId) : (s.baseTaken k).alarms = (s.baseStored k).alarms := by
  unfold State.baseTaken State.notePlan
  split
  · split <;> rfl
  · rfl

theorem State.baseSelected_taken (s : State) (k : PlanId) :
    s.PlanTaken (s.baseSelected k) (s.plan.based k) (s.store.withBase k) False := by
  rw [State.baseSelected_eq]
  exact (s.baseTaken_prepares k).handPlan (congrArg Lasting.resolver (s.baseTaken_lasting k)) (s.baseTaken_lasting k)
    (s.baseTaken_noticed k)

/-- Settles O21: the base plan is stored and, at NONE, put in force before its roles are handed on. -/
theorem selectBasePlanSetsThePlans : Obligations.SelectBasePlanSetsThePlans := by
  unfold Obligations.SelectBasePlanSetsThePlans
  intro index k s hd hk hkind current r
  have hbody : selectBasePlanBody index (s.frameTaken .building) = doneNow ((s.frameTaken .building).baseSelected k).finish := by
    simp [selectBasePlanBody, hk, hkind]
  have htaken := (s.frameTaken .building).baseSelected_taken k
  rw [State.frameTaken_plan, State.frameTaken_store] at htaken
  obtain ⟨hlast, hre, hsame, hch⟩ := htaken.sends r
  have hkept : State.Moves true ((s.frameTaken .building).baseStored k) ((s.frameTaken .building).baseSelected k) := by
    rw [State.baseSelected_eq]
    exact (State.baseTaken_moves _ k).trans (State.handPlan_moves _ _)
  have hnoticed : ∀ q, q ≠ .building → ((s.frameTaken .building).baseSelected k).noticed .configChanged q := fun q hq =>
    hkept.keepsNotices _ _ (State.planStored_noticed _ hq)
  refine ⟨_, _, serve_accepted (row := rowSelectBasePlan) (index := index) (data := []) hd rfl (by decide) rfl hbody, rfl,
    htaken.handed, ?_, hlast, hre, hsame, hch, fun hs => ?_, State.sends_noticed _ _ _ _ (hnoticed .alarm (by decide)),
    State.sends_noticed _ _ _ _ (hnoticed .override (by decide))⟩
  · rw [State.baseSelected_eq]
    exact (State.baseTaken_keepsRest _ k List.mem_cons_self (by decide) (by decide)).trans
      (State.handPlan_keepsRest _ _ fun n => List.mem_cons_of_mem _ (mem_fanFaults n))
  · rw [State.sends_hasActive _ _ _ rfl, State.baseSelected_eq, State.handPlan_hasActive _ _ (by simp), State.baseTaken_alarms]
    exact State.planStored_hasActive _ (State.frameTaken_alarms_sound hs)

/-! ### WRITE PLAN MAP and SET PLAN KIND (R34, R35) -/

/-- R35: each entry of the map is NONE or a SMOKE plan. -/
theorem State.mapEntryAllowed_all {m : Vector (Option PlanId) 16}
    (h : ∀ (z : ZoneId) k, m[z.val] = some k → (s.bank k).kind = .smoke) : m.toList.all s.mapEntryAllowed = true := by
  refine List.all_eq_true.2 fun e he => ?_
  obtain ⟨i, hi, rfl⟩ := List.mem_iff_getElem.1 he
  have hz := h ⟨i, by simpa using hi⟩
  simp only [] at hz
  rw [Vector.getElem_toList]
  cases e : m[i]'(by simpa using hi) with
  | none => rfl
  | some k => simpa [State.mapEntryAllowed] using hz k e

theorem writePlanMap_accepted {m : Vector (Option PlanId) 16} (hi : s.incident = false)
    (hread : ∀ z : ZoneId, mapEntryOf (dataWord data z.val) = some m[z.val])
    (hm : ∀ (z : ZoneId) k, m[z.val] = some k → (s.bank k).kind = .smoke) :
    writePlanMapBody data s = doneNow (s.mapWritten m) := by
  have h : mapOf data = some m := sixteenFrom_eq hread
  simp only [writePlanMapBody, hi, Bool.false_eq_true, if_false, h, State.mapEntryAllowed_all hm, if_true]

theorem setPlanKind_accepted {index : Byte} {kind : PlanKind} (hi : s.incident = false) (hk : planOf index = some k)
    (hkind : kindOf (dataWord data 0) = some kind)
    (hnormal : kind = .normal → (s.bank k).Sealed ∧ ∀ z : ZoneId, s.plan.map[z.val] ≠ some k)
    (hsmoke : kind = .smoke → k ≠ s.plan.current ∧ k ≠ s.plan.saved) :
    setPlanKindBody index data s = doneNow (s.kindSet k kind) := by
  have hvalue : (s.bank k).forbids kind = false ∧ s.kindHeld k kind = false := by
    cases kind with
    | normal =>
      obtain ⟨hsealed, hmap⟩ := hnormal rfl
      refine ⟨Bool.eq_false_iff.2 fun h => PlanBank.forbids_normal.1 h hsealed, List.any_eq_false.2 fun e he => ?_⟩
      obtain ⟨i, hi, rfl⟩ := List.mem_iff_getElem.1 he
      simpa using hmap ⟨i, by simpa using hi⟩
    | smoke => exact ⟨PlanBank.not_forbids_smoke _, by simpa [State.kindHeld] using hsmoke rfl⟩
  simp only [setPlanKindBody, hk, hi, Bool.false_eq_true, if_false, hkind, setPlanKindValue, hvalue]

/-- Settles O23: the checks of the operands and the level, then the commit. -/
theorem planMapAndKindAreStored : Obligations.PlanMapAndKindAreStored := by
  unfold Obligations.PlanMapAndKindAreStored
  intro index data s hd hl u done
  have hincident : u.incident = false := by simpa [u] using State.not_incident hl
  have hplan : u.plan = s.plan := State.frameTaken_plan ..
  have hstore : u.store = s.store := State.frameTaken_store ..
  have hbank : ∀ k, u.bank k = s.bank k := fun k => State.frameTaken_bank ..
  refine ⟨fun map hlen hread hsmoke => ?_, fun k kind hk hlen hkind hnormal hsmoke => ?_⟩
  · have hbody : writePlanMapBody data u = doneNow (u.mapWritten map) :=
      writePlanMap_accepted hincident hread fun z k e => (hbank k).symm ▸ hsmoke z k e
    refine congrArg Host.Outcome.next ((serve_owned hd (by rw [hlen]; decide) rfl hlen).trans ?_)
    rw [hbody, ← hplan, ← hstore]; rfl
  · have hbody : setPlanKindBody index data u = doneNow (u.kindSet k kind) := by
      refine setPlanKind_accepted hincident hk hkind (fun e => ?_) fun e => by rw [hplan]; exact hsmoke e
      rw [hbank, hplan]; exact hnormal e
    refine congrArg Host.Outcome.next ((serve_owned hd (by rw [hlen]; decide) rfl hlen).trans ?_)
    rw [hbody, ← hplan, ← hstore, ← hbank]; rfl

end

end Sys2Proof.Machine

/-! ## The protection policy at the building port (R67, R69) -/

namespace Sys2Proof.Machine

section
variable {s : State} {index : Byte} {data : List Word} {body : State → Answer} {row : CatalogueRow}

/-- R67: a request of the building port that its owner refuses with PROTECTED. -/
theorem serve_guarded (hd : (s.port .building).decoder = .waiting) (hp : row.ports.contains .building = true) (hl : row.words ≤ 32)
    (hw : data.length = row.words) (hb : body (s.frameTaken .building) = refuseGuarded (s.frameTaken .building)) :
    Host.Outcome.next (φ := Fault) (ρ := Refusal) (serve row .building index data body s) =
      .next (((s.frameTaken .building).raiseAll .protectedWrite).modPort .building fun q =>
        { q with response := some ⟨.guarded, row.code, index, []⟩ }) := by
  rw [serve_owned hd (hw ▸ hl) hp hw, hb]; rfl

theorem unlessGuarded_of_incident (h : s.incident = true) (a : Answer) : unlessGuarded s a = refuseGuarded s := if_pos h

/-- Settles O13, request by request: each owner looks at its index, then at the protection. -/
theorem buildingWritesAreProtected : Obligations.BuildingWritesAreProtected := by
  unfold Obligations.BuildingWritesAreProtected
  intro index data s hd hl
  have hi : (s.frameTaken .building).incident = true := by simpa using State.incident_of_ne hl
  refine ⟨fun z hz hw hfloor => ?writeZone, fun h hh hw => ?writeHead, fun n hn hw => ?writeFan, fun hw => ?writeNormalBudget,
    fun k hk hkind hw => ?writePlan, fun z hz hw => ?setZoneClosure, fun z hz hfit hrole hw => ?setBoost,
    fun n hn hw => ?setFanService, fun n hn hw => ?reenrolFan, fun n hn hw => ?resetFan, fun hw => ?clearCounts⟩
  case writeZone =>
    have hallowed : zoneWriteAllowed (s.frameTaken .building) z data = false := by simpa [zoneWriteAllowed, hi] using hfloor
    exact serve_guarded hd rfl (by decide) hw (by simp only [writeZoneBody, hz, hallowed, if_true])
  case writeHead => exact serve_guarded hd rfl (by decide) hw (by simp only [writeHeadBody, hh, unlessGuarded_of_incident hi])
  case writeFan => exact serve_guarded hd rfl (by decide) hw (by simp only [writeFanBody, hn, unlessGuarded_of_incident hi])
  case writeNormalBudget => exact serve_guarded hd rfl (by decide) hw (unlessGuarded_of_incident hi _)
  case writePlan =>
    exact serve_guarded hd rfl (by decide) hw (by simp [writePlanBody, hk, hkind, hi])
  case setZoneClosure =>
    exact serve_guarded hd rfl (by decide) hw (by simp only [setZoneClosureBody, hz, unlessGuarded_of_incident hi])
  case setBoost =>
    have hne : index ≠ 0 := by rintro rfl; rw [zoneOf_eq_none (.inl rfl)] at hz; cases hz
    exact serve_guarded hd rfl (by decide) hw (by rw [setBoostBody, if_neg hne]; simp [hz, hfit, hi, hrole])
  case setFanService =>
    exact serve_guarded hd rfl (by decide) hw (by simp only [setFanServiceBody, hn, unlessGuarded_of_incident hi])
  case reenrolFan =>
    exact serve_guarded hd rfl (by decide) (by rw [hw]; rfl) (by simp only [reenrolFanBody, hn, unlessGuarded_of_incident hi])
  case resetFan => exact serve_guarded hd rfl (by decide) (by rw [hw]; rfl) (by simp [resetFanBody, hn, hi])
  case clearCounts => exact serve_guarded hd rfl (by decide) (by rw [hw]; rfl) (unlessGuarded_of_incident hi _)

end

end Sys2Proof.Machine

/-! ## The books: what the plans, the roles and the store rest on (R31, R36 to R42, R56 to R60, R174) -/

namespace Sys2Proof.Machine

/-- The configuration records, the plan controller, the resolver and the store. -/
structure Books where
  zones : Vector ZoneConfig 16
  heads : Vector HeadConfig 48
  fans : Vector FanConfig 8
  plan : PlanControl
  resolver : Resolver
  normal : Nat
  standby : Nat
  store : Store

def Lasting.books (q : Lasting) : Books :=
  ⟨q.zones.map Zone.config, q.heads.map Head.config, q.fanConfigs, q.plan, q.resolver, q.normal, q.standby, q.store⟩

def State.books (s : State) : Books := s.lasting.books

/-- R31, R36 to R42, R57, R59, R60, R174: the incident state, the store and the roles are sound. -/
structure State.Governed (s : State) : Prop where
  incident : s.IncidentSound
  store : s.StoreSound
  roles : s.RolesSound

/-- R40, R135: the alarm list is sound and its ACTIVE FIRE entries are those of the fire set. -/
structure State.Listed (s : State) : Prop where
  sound : s.alarms.Sound
  fires : s.FiresListed

section
variable {s t u : State} {p : Port} {n : FanId} {z : ZoneId} {h : HeadId} {g : Gas}

/-! ### What rests on the books alone -/

theorem State.books_of_lasting (h : t.lasting = s.lasting) : t.books = s.books := congrArg Lasting.books h
theorem State.books_plan (h : t.books = s.books) : t.plan = s.plan := congrArg Books.plan h
theorem State.books_resolver (h : t.books = s.books) : t.resolver = s.resolver := congrArg Books.resolver h
theorem State.books_store (h : t.books = s.books) : t.store = s.store := congrArg Books.store h
theorem State.books_zone (h : t.books = s.books) (z : ZoneId) : (t.zone z).config = (s.zone z).config := by
  have e := congrArg (fun b : Books => b.zones[z.val]) h
  simpa [State.books, Lasting.books, State.lasting, State.zone] using e
theorem State.books_head (h : t.books = s.books) (k : HeadId) : (t.head k).config = (s.head k).config := by
  have e := congrArg (fun b : Books => b.heads[k.val]) h
  simpa [State.books, Lasting.books, State.lasting, State.head] using e
theorem State.books_fan (h : t.books = s.books) (n : FanId) : (t.fan n).config = (s.fan n).config := by
  have e := congrArg (fun b : Books => b.fans[n.val]) h
  simpa [State.books, Lasting.books, State.lasting, State.fan] using e

/-- R174: the store and what it is compared with. -/
theorem State.keeps_of_books (h : t.books = s.books) : s.Keeps t where
  store := State.books_store h
  zone := State.books_zone h
  head := State.books_head h
  fan := State.books_fan h
  plan := by rw [State.books_plan h]; exact ⟨rfl, rfl, rfl⟩
  budgets := ⟨congrArg Books.normal h, congrArg Books.standby h⟩
  closures := by rw [State.books_resolver h]

/-- R31, R36 to R42, R60: what the incident state rests on. -/
theorem State.IncidentSound.congr (k : s.IncidentSound) (hp : t.plan = s.plan) (hc : t.resolver.control = s.resolver.control)
    (ho : t.resolver.overrides = s.resolver.overrides) (hb : t.resolver.blocks = s.resolver.blocks)
    (hz : ∀ z, (t.zone z).config.fitted = (s.zone z).config.fitted) : t.IncidentSound := by
  obtain ⟨hmapped, hsaved, hnormal, hquiet, hfire, hpurge, hcause, hmanual, hcontrol, hfitted⟩ := k
  constructor <;> simp only [State.bank, State.burning, hp, hc, ho, hb, hz] <;> assumption

theorem State.governed_congr (h : t.books = s.books) (k : s.Governed) : t.Governed where
  incident := by
    have hr := State.books_resolver h
    exact k.incident.congr (State.books_plan h) (by rw [hr]) (by rw [hr]) (by rw [hr]) fun z => by rw [State.books_zone h]
  store := (State.keeps_of_books h).storeSound k.store
  roles := k.roles.congr (State.books_resolver h) (State.books_plan h) fun z => by rw [State.books_zone h]

/-! ### The books of the zone evaluator's work (R11 to R26) -/

theorem State.raiseAlarm_books (s : State) (k : AlarmKey) (d : Option FanDetail) : (s.raiseAlarm k d).books = s.books :=
  State.books_of_lasting (State.raiseAlarm_lasting ..)
theorem State.triggerIf_books (s : State) (b : Bool) : (s.triggerIf b).books = s.books :=
  State.books_of_lasting (State.triggerIf_lasting ..)
theorem State.raiseAll_books (s : State) (n : Notice) : (s.raiseAll n).books = s.books := State.books_of_lasting (State.raiseAll_lasting ..)
theorem State.modZone_books (s : State) (z : ZoneId) {f : Zone → Zone}
    (hf : ∀ q, (f q).config = q.config := by intro q; rfl) :
    (s.modZone z f).books = s.books := by
  have e : (s.modZone z f).zones.map Zone.config = s.zones.map Zone.config := upd_map _ _ _ _ (hf _)
  simp only [State.books, Lasting.books, State.lasting, e]; rfl
theorem State.modHead_books (s : State) (h : HeadId) {f : Head → Head}
    (hf : ∀ q, (f q).config = q.config := by intro q; rfl) :
    (s.modHead h f).books = s.books := by
  have e : (s.modHead h f).heads.map Head.config = s.heads.map Head.config := upd_map _ _ _ _ (hf _)
  simp only [State.books, Lasting.books, State.lasting, e]; rfl

variable (s)

theorem State.retarget_books (z : ZoneId) : (s.retarget z).books = s.books :=
  (State.triggerIf_books _ _).trans (s.modZone_books z fun q => q.follow_config _)
theorem State.refreshZone_books (z : ZoneId) : (s.refreshZone z).books = s.books :=
  (State.retarget_books _ z).trans (s.modZone_books z)
theorem State.fallExpired_books (z : ZoneId) : (s.fallExpired z).books = s.books :=
  (State.triggerIf_books _ _).trans (s.modZone_books z)
theorem State.setBoost_books (z : ZoneId) (b : Option Boost) : (s.setBoost z b).books = s.books :=
  (State.retarget_books _ z).trans (s.modZone_books z)
theorem State.eachZone_books (f : State → ZoneId → State) (hf : ∀ (s : State) (z : ZoneId), (f s z).books = s.books) :
    (s.eachZone f).books = s.books :=
  foldl_keeps (P := fun q => q.books = s.books) (fun q z e => (hf q z).trans e) _ _ rfl
theorem State.endBoosts_books : s.endBoosts.books = s.books :=
  s.eachZone_books _ fun q z => by
    split
    · exact q.setBoost_books z none
    · rfl
theorem State.boostAll_books (b : Option Boost) : (s.boostAll b).books = s.books :=
  s.eachZone_books _ fun q z => by
    split
    · exact q.setBoost_books z b
    · rfl
theorem State.gasRises_books (z : ZoneId) (g : Gas) : (s.gasRises z g).books = s.books :=
  ((State.raiseAll_books _ _).trans (State.raiseAlarm_books _ _ _)).trans (s.modZone_books z fun q => q.modGas_config g _)
theorem State.gasClears_books (z : ZoneId) (g : Gas) : (s.gasClears z g).books = s.books :=
  (State.raiseAll_books _ _).trans (s.modZone_books z fun q => q.modGas_config g _)
theorem State.countReading_books (z : ZoneId) (g : Gas) (v : Option Nat) : (s.countReading z g v).books = s.books := by
  have hm : ∀ f : GasRow → GasRow, (s.modZone z fun q => q.modGas g f).books = s.books := fun f =>
    s.modZone_books z fun q => q.modGas_config g f
  unfold State.countReading State.highReading State.lowReading
  split
  · rfl
  · split
    · rfl
    · split
      · simp only
        split
        · exact (State.gasRises_books _ z g).trans (hm _)
        · exact hm _
      · split
        · simp only
          split
          · exact (State.gasClears_books _ z g).trans (hm _)
          · exact hm _
        · rfl
theorem State.headFault_books (h : HeadId) : (s.headFault h).books = s.books :=
  (State.raiseAll_books _ _).trans (s.raiseAlarm_books _ _)
theorem State.headReplied_books (h : HeadId) (status : Byte) (co no2 : Word) : (s.headReplied h status co no2).books = s.books := by
  unfold State.headReplied
  split
  · have hok : (s.headOk h co no2).books = s.books := s.modHead_books h
    have hgas : ((s.headOk h co no2).refreshGas (s.head h).config.zone).books = s.books :=
      (State.modZone_books _ _).trans hok
    exact (((State.retarget_books _ _).trans (State.countReading_books _ _ _ _)).trans (State.countReading_books _ _ _ _)).trans hgas
  · exact (State.refreshZone_books _ _).trans (s.modHead_books h)
  · refine (State.refreshZone_books _ _).trans ?_
    unfold State.headFaults
    simp only
    split
    · exact s.modHead_books h
    · exact (State.headFault_books _ h).trans (s.modHead_books h)
theorem State.loseHead_books (h : HeadId) : (s.loseHead h).books = s.books := by
  unfold State.loseHead
  simp only
  refine (State.refreshZone_books _ _).trans ?_
  split
  · exact s.modHead_books h
  · exact (State.headFault_books _ h).trans (s.modHead_books h)
theorem State.endHigh_books (z : ZoneId) (g : Gas) : (s.endHigh z g).books = s.books := by
  unfold State.endHigh
  split
  · exact s.gasClears_books z g
  · rfl
theorem State.unfitZone_books (z : ZoneId) : (s.unfitZone z).books = s.books :=
  (((State.modZone_books _ z).trans (State.endHigh_books _ z .no2)).trans (State.endHigh_books _ z .co)).trans
    (s.modZone_books z)
theorem State.refreshZones_books (y z : ZoneId) : (s.refreshZones y z).books = s.books := by
  unfold State.refreshZones
  split
  · exact s.refreshZone_books y
  · exact (State.refreshZone_books _ z).trans (s.refreshZone_books y)
theorem State.linkGone_books (p : Port) : (s.linkGone p).books = s.books := by
  have e : ((((s.modPort p fun q => { q with link := .lost, silence := none }).raiseAlarm (.linkLost p) none).raiseAll
      .linkLost)).books = s.books := (State.raiseAll_books _ _).trans (State.raiseAlarm_books _ _ _)
  unfold State.linkGone State.portLost
  split
  · exact (State.endBoosts_books _).trans e
  · exact e
  · exact e
theorem State.countTotal_books (d : Device) : (s.countTotal d).books = s.books := by
  unfold State.countTotal
  split
  · exact s.modHead_books _
  all_goals rfl
/-- R15: the counts are no part of the books. -/
theorem State.countsCleared_books : s.countsCleared.books = s.books := by
  have hz : s.countsCleared.zones.map Zone.config = s.zones.map Zone.config := by simp [State.countsCleared, Function.comp_def]
  have hh : s.countsCleared.heads.map Head.config = s.heads.map Head.config := by simp [State.countsCleared, Function.comp_def]
  have hf : s.countsCleared.fans.map Fan.config = s.fans.map Fan.config := by simp [State.countsCleared, Function.comp_def]
  simp only [State.books, Lasting.books, State.lasting, hz, hh, hf]; rfl

end

end Sys2Proof.Machine

/-! ## The incident state, the roles and the store through each change (R31, R36 to R60, R174) -/

namespace Sys2Proof.Machine

section
variable {s t u : State} {p : Port} {n : FanId} {z : ZoneId} {A : Prop} {plan : PlanControl} {store : Store} {k : PlanId}

/-! ### The fire set -/

theorem State.burning_joined (s : State) (z y : ZoneId) :
    (s.plan.fireSet ||| fireMark z).getLsbD y.val = true ↔ y = z ∨ s.burning y = true := by
  rw [burning_join, Bool.or_eq_true, decide_eq_true_iff]; rfl
theorem fireSet_joined_ne_zero (c : BitVec 16) (z : ZoneId) : c ||| fireMark z ≠ 0 := fun e => by
  have h := burning_join c z z
  rw [e] at h
  simp at h

/-! ### The plan controller's changes keep the incident state -/

/-- R43: an incident begins in a fitted zone. -/
theorem State.IncidentSound.begun (i : s.IncidentSound) (hl : s.plan.level = .none) (hf : (s.zone z).config.fitted = true)
    (t : Nat) : State.IncidentSound { s with plan := { s.plan with
      fireSet := s.plan.fireSet ||| fireMark z, saved := s.plan.current, current := (s.plan.map[z.val]).getD s.plan.current,
      level := .fire, cause := some ⟨z, s.plan.map[z.val], t, .none⟩ } } := by
  obtain ⟨hcurrent, hset, hcause⟩ := i.quiet hl
  have hpurge : s.plan.purge.isSome ≠ true := fun e => by have h := (i.purge e).1; rw [hl] at h; cases h
  exact {
    mapped := i.mapped
    saved := hcurrent.trans i.saved
    normal := by
      show (s.bank s.plan.current).kind = .normal
      rw [hcurrent]; exact i.normal
    quiet := fun e => by cases e
    fire := fun _ => ⟨.inl (fireSet_joined_ne_zero _ _), rfl⟩
    purge := fun e => absurd e hpurge
    cause := fun _ => ⟨_, rfl, (s.burning_joined z z).2 (.inl rfl)⟩
    manual := fun e => by cases e
    control := i.control
    fitted := fun y hy => ((s.burning_joined z y).1 hy).elim (fun e => e ▸ hf) (i.fitted y) }

/-- R44, R45: a further zone burns. -/
theorem State.IncidentSound.second (i : s.IncidentSound) (hl : s.plan.level ≠ .none) (hf : (s.zone z).config.fitted = true)
    (t : Nat) : State.IncidentSound { s with plan := { s.plan with
      fireSet := s.plan.fireSet ||| fireMark z, purge := none,
      cause := some (secondCause s.plan.cause z t (s.plan.fireSet == 0)) } } := by
  have hcause : (s.plan.fireSet ||| fireMark z).getLsbD (secondCause s.plan.cause z t (s.plan.fireSet == 0)).zone.val = true := by
    by_cases hs : s.plan.fireSet = 0
    · have e : (secondCause s.plan.cause z t (s.plan.fireSet == 0)).zone = z := by
        rw [hs]; cases s.plan.cause <;> rfl
      rw [e]; exact (s.burning_joined z z).2 (.inl rfl)
    · obtain ⟨c, hc, hb⟩ := i.cause hs
      have e : (secondCause s.plan.cause z t (s.plan.fireSet == 0)).zone = c.zone := by
        rw [hc, beq_false_of_ne hs]; rfl
      rw [e]; exact (s.burning_joined z _).2 (.inr hb)
  exact {
    mapped := i.mapped
    saved := i.saved
    normal := i.normal
    quiet := fun e => absurd e hl
    fire := fun _ => ⟨.inl (fireSet_joined_ne_zero _ _), rfl⟩
    purge := fun e => by cases e
    cause := fun _ => ⟨_, rfl, hcause⟩
    manual := i.manual
    control := i.control
    fitted := fun y hy => ((s.burning_joined z y).1 hy).elim (fun e => e ▸ hf) (i.fitted y) }

/-- R47, R49: the fires are reset at MANUAL. -/
theorem State.IncidentSound.emptied (i : s.IncidentSound) (hl : s.plan.level = .manual) :
    State.IncidentSound { s with plan := { s.plan with fireSet := 0 } } where
  mapped := i.mapped
  saved := i.saved
  normal := i.normal
  quiet := fun e => by rw [hl] at e; cases e
  fire := fun e => by rw [hl] at e; cases e
  purge := fun e => ⟨(i.purge e).1, rfl⟩
  cause := fun e => absurd rfl e
  manual := i.manual
  control := i.control
  fitted := fun y hy => by simp [State.burning] at hy

/-- R47, R48: the purge begins. -/
theorem State.IncidentSound.purging (i : s.IncidentSound) (hl : s.plan.level = .fire) (d : Nat) :
    State.IncidentSound { s with plan := { s.plan with fireSet := 0, purge := some d } } where
  mapped := i.mapped
  saved := i.saved
  normal := i.normal
  quiet := fun e => by rw [hl] at e; cases e
  fire := fun _ => ⟨.inr rfl, (i.fire hl).2⟩
  purge := fun _ => ⟨hl, rfl⟩
  cause := fun e => absurd rfl e
  manual := i.manual
  control := i.control
  fitted := fun y hy => by simp [State.burning] at hy

/-- R46: the return. -/
theorem State.IncidentSound.returned (i : s.IncidentSound) : State.IncidentSound { s with plan :=
    { s.plan with fireSet := 0, current := s.plan.saved, level := .none, cause := none, purge := none } } where
  mapped := i.mapped
  saved := i.saved
  normal := i.normal
  quiet := fun _ => ⟨rfl, rfl, rfl⟩
  fire := fun e => by cases e
  purge := fun e => by cases e
  cause := fun e => absurd rfl e
  manual := fun e => by cases e
  control := i.control
  fitted := fun y hy => by simp [State.burning] at hy

/-- R50: a plan is selected in control. -/
theorem State.IncidentSound.selected (i : s.IncidentSound) (hc : s.resolver.control = .inControl) (k : PlanId) :
    State.IncidentSound { s with plan := { s.plan.selected k with level := .manual } } := by
  have hsaved : (if s.plan.level = .none then s.plan.current else s.plan.saved) = s.plan.saved := by
    split
    · rename_i hl
      exact (i.quiet hl).1
    · rfl
  exact {
    mapped := i.mapped
    saved := hsaved.trans i.saved
    normal := by
      show (s.bank (if s.plan.level = .none then s.plan.current else s.plan.saved)).kind = .normal
      rw [hsaved]; exact i.normal
    quiet := fun e => by cases e
    fire := fun e => by cases e
    purge := fun e => by cases e
    cause := i.cause
    manual := fun _ => hc
    control := i.control
    fitted := i.fitted }

/-- R51: the part returns to automatic from MANUAL. -/
theorem State.IncidentSound.automated (i : s.IncidentSound) (hl : s.plan.level = .manual) :
    State.IncidentSound { s with plan := { s.plan.automated with level := s.plan.automaticLevel } } := by
  have hpurge : s.plan.purge.isSome ≠ true := fun e => by have h := (i.purge e).1; rw [hl] at h; cases h
  unfold PlanControl.automated PlanControl.automaticLevel
  by_cases hf : s.plan.fireSet = 0
  · rw [if_pos hf, if_pos hf]
    exact {
      mapped := i.mapped
      saved := i.saved
      normal := i.normal
      quiet := fun _ => ⟨rfl, hf, rfl⟩
      fire := fun e => by cases e
      purge := fun e => absurd e hpurge
      cause := fun e => absurd hf e
      manual := fun e => by cases e
      control := i.control
      fitted := i.fitted }
  · rw [if_neg hf, if_neg hf]
    obtain ⟨c, hc, hb⟩ := i.cause hf
    exact {
      mapped := i.mapped
      saved := i.saved
      normal := i.normal
      quiet := fun e => by cases e
      fire := fun _ => ⟨.inl hf, by show s.plan.cause.isSome = true; rw [hc]; rfl⟩
      purge := fun e => absurd e hpurge
      cause := fun _ => ⟨c, hc, hb⟩
      manual := fun e => by cases e
      control := i.control
      fitted := i.fitted }

/-- R51, R62: the control is given back. -/
theorem State.IncidentSound.givenBack (i : s.IncidentSound) :
    State.IncidentSound { s with plan := s.plan.givenBack, resolver := s.resolver.released } := by
  have hrow : State.IncidentSound { s with plan := s.plan.givenBack } ∧ s.plan.givenBack.level ≠ .manual := by
    unfold PlanControl.givenBack
    by_cases hl : s.plan.level = .manual
    · rw [if_neg (not_not_intro hl)]
      refine ⟨i.automated hl, ?_⟩
      show s.plan.automaticLevel ≠ .manual
      unfold PlanControl.automaticLevel
      split <;> decide
    · rw [if_pos hl]; exact ⟨i, hl⟩
  obtain ⟨g, hl⟩ := hrow
  exact {
    mapped := g.mapped
    saved := g.saved
    normal := g.normal
    quiet := g.quiet
    fire := g.fire
    purge := g.purge
    cause := g.cause
    manual := fun e => absurd e hl
    control := fun _ => ⟨fun z => Vector.getElem_replicate .., fun n => Vector.getElem_replicate ..⟩
    fitted := g.fitted }

/-- R52: a NORMAL plan becomes the base plan. -/
theorem State.IncidentSound.based (i : s.IncidentSound) (hk : (s.bank k).kind = .normal) :
    State.IncidentSound { s with plan := s.plan.based k } where
  mapped := i.mapped
  saved := rfl
  normal := hk
  quiet := fun e => ⟨if_pos e, (i.quiet e).2⟩
  fire := i.fire
  purge := i.purge
  cause := i.cause
  manual := i.manual
  control := i.control
  fitted := i.fitted

/-- R31, R35: the map is replaced by one of SMOKE plans. -/
theorem State.IncidentSound.withMap (i : s.IncidentSound) {m : Vector (Option PlanId) 16}
    (hm : ∀ (z : ZoneId) k, m[z.val] = some k → (s.bank k).kind = .smoke) :
    State.IncidentSound { s with plan := { s.plan with map := m } } :=
  { i with mapped := hm }

/-- R31, R33, R34: a bank is replaced, and those that the map and the saved plan name keep their kind. -/
theorem State.IncidentSound.withBank (i : s.IncidentSound) {b : PlanBank}
    (hm : (∃ z : ZoneId, s.plan.map[z.val] = some k) → b.kind = .smoke) (hs : k = s.plan.saved → b.kind = .normal) :
    State.IncidentSound { s with plan := s.plan.withBank k b } := by
  have hbank : ∀ j, (State.bank { s with plan := s.plan.withBank k b } j) = if j = k then b else s.bank j := fun j =>
    upd_get s.plan.banks k j fun _ => b
  refine { i with mapped := fun z j hj => ?_, normal := ?_ }
  · rw [hbank]
    split
    · rename_i e; subst e; exact hm ⟨z, hj⟩
    · exact i.mapped z j hj
  · show (State.bank { s with plan := s.plan.withBank k b } s.plan.saved).kind = .normal
    rw [hbank]
    split
    · rename_i e; exact hs e.symm
    · exact i.normal

/-! ### The roles and the store -/

/-- R57, R59: the control state and the blocks are no part of what the roles rest on, and of the plans the current bank alone. -/
theorem State.RolesSound.of_bank (h : s.RolesSound)
    (hr : t.resolver = { s.resolver with control := t.resolver.control, blocks := t.resolver.blocks })
    (hb : t.bank t.plan.current = s.bank s.plan.current) (hz : ∀ z, (t.zone z).config.fitted = (s.zone z).config.fitted) :
    t.RolesSound := by
  have hroles : t.resolver.roles = s.resolver.roles := by rw [hr]
  have hlayers : t.resolver.layers = s.resolver.layers := by rw [hr]
  have hover : t.resolver.overrides = s.resolver.overrides := by rw [hr]
  have hclosed : t.resolver.closures = s.resolver.closures := by rw [hr]
  have hsmoke : t.resolver.smoke = s.resolver.smoke := by rw [hr]
  have hcls : t.resolver.cls = s.resolver.cls := by rw [hr]
  refine ⟨fun z => ?_, ?_, ?_⟩
  · have := h.roles z
    simpa only [hroles, hlayers, hover, hclosed, hb] using this
  · simpa only [hsmoke, hroles, hz] using h.smoke
  · rw [hcls, hb]; exact h.cls

/-- R58: after a recomputation the roles are sound whatever went before. -/
theorem State.recomputeRoles_governed (hi : s.IncidentSound) (hs : s.StoreSound) : s.recomputeRoles.Governed := by
  obtain ⟨r, hr⟩ : ∃ r, s.recomputeRoles.resolver = s.resolver.reworked r := ⟨_, s.recomputeRoles_reworked⟩
  have hl := s.recomputeRoles_lasting
  rw [hr] at hl
  have hbooks : s.recomputeRoles.books = State.books { s with resolver := s.resolver.reworked r } := State.books_of_lasting hl
  have hi : State.IncidentSound { s with resolver := s.resolver.reworked r } := hi.congr rfl rfl rfl rfl fun _ => rfl
  have hs : State.StoreSound { s with resolver := s.resolver.reworked r } :=
    hs.congr rfl (fun _ => rfl) (fun _ => rfl) (fun _ => rfl) ⟨rfl, rfl, rfl⟩ ⟨rfl, rfl⟩ rfl
  refine ⟨hi.congr (State.books_plan hbooks) (by rw [hr]) (by rw [hr]) (by rw [hr]) fun z => by rw [State.books_zone hbooks],
    (State.keeps_of_books hbooks).storeSound hs, s.recomputeRoles_rolesSound⟩

/-- R41, R53, R58: a plan taken keeps the roles and the store sound where the plan itself does. -/
theorem State.PlanTaken.governed (h : s.PlanTaken u plan store A) (hr : s.RolesSound) (hb : plan.banks = s.plan.banks)
    (hi : State.IncidentSound { s with plan := plan }) (hs : State.StoreSound { s with plan := plan, store := store }) :
    u.Governed := by
  have hbooks : u.books = State.books { s with plan := plan, resolver := u.resolver, store := store } :=
    State.books_of_lasting h.lasting
  have hre := h.reworked
  refine State.governed_congr hbooks ⟨?_, ?_, ?_⟩
  · exact hi.congr rfl (by rw [hre]; rfl) (by rw [hre]; rfl) (by rw [hre]; rfl) fun _ => rfl
  · refine hs.congr rfl (fun _ => rfl) (fun _ => rfl) (fun _ => rfl) ⟨rfl, rfl, rfl⟩ ⟨rfl, rfl⟩ ?_
    show u.resolver.closures = s.resolver.closures
    rw [hre]; rfl
  · by_cases hc : s.plan.current = plan.current
    · refine hr.of_bank ?_ ?_ fun _ => rfl
      · show u.resolver = _
        rw [h.same hc]
      · show plan.banks[plan.current.val] = s.plan.banks[s.plan.current.val]
        simp only [hb, hc]
    · exact (h.changed hc).1.congr rfl (State.books_plan hbooks).symm fun z => by rw [State.books_zone hbooks]

/-- R174: the plan controller's own state is no part of the store. -/
theorem State.StoreSound.withPlan (h : s.StoreSound) (hb : plan.banks = s.plan.banks) (hm : plan.map = s.plan.map)
    (hk : plan.base = s.plan.base) : State.StoreSound { s with plan := plan } :=
  h.congr rfl (fun _ => rfl) (fun _ => rfl) (fun _ => rfl) ⟨hb, hm, hk⟩ ⟨rfl, rfl⟩ rfl

/-- R39, R174: a change of the plan controller that keeps the current plan. -/
theorem State.Governed.replanned (g : s.Governed) (hu : u.lasting = { s.lasting with plan := plan })
    (hi : State.IncidentSound { s with plan := plan }) (hb : plan.banks = s.plan.banks) (hm : plan.map = s.plan.map)
    (hk : plan.base = s.plan.base) (hc : plan.current = s.plan.current) : u.Governed := by
  have hbooks : u.books = State.books { s with plan := plan } := State.books_of_lasting hu
  refine State.governed_congr hbooks ⟨hi, g.store.withPlan hb hm hk, g.roles.of_bank rfl ?_ fun _ => rfl⟩
  show plan.banks[plan.current.val] = s.plan.banks[s.plan.current.val]
  simp only [hb, hc]

end

end Sys2Proof.Machine

/-! ## The plan controller's and the override panel's work keeps the books sound (R33 to R66, R174) -/

namespace Sys2Proof.Machine

section
variable {s t u : State} {p : Port} {n : FanId} {z : ZoneId} {k : PlanId} {b : PlanBank} {plan : PlanControl} {store : Store}

theorem State.IncidentSound.of_books (i : s.IncidentSound) (h : t.books = s.books) : t.IncidentSound := by
  have hr := State.books_resolver h
  exact i.congr (State.books_plan h) (by rw [hr]) (by rw [hr]) (by rw [hr]) fun z => by rw [State.books_zone h]
theorem State.StoreSound.of_books (k : s.StoreSound) (h : t.books = s.books) : t.StoreSound := (State.keeps_of_books h).storeSound k

theorem State.trigger_books (s : State) : s.trigger.books = s.books := rfl

/-! ### Fires, the return and the choice of a plan -/

theorem State.Governed.fireAlarmed (g : s.Governed) (hf : (s.zone z).config.fitted = true) : (s.fireAlarmed z).Governed := by
  unfold State.fireAlarmed
  split
  · exact g
  · split
    · rename_i hl
      exact (s.beginIncident_taken z hl).governed g.roles rfl (g.incident.begun hl hf _) (g.store.withPlan rfl rfl rfl)
    · rename_i hl
      exact g.replanned (s.secondAlarm_lasting z) (g.incident.second hl hf _) rfl rfl rfl rfl

theorem State.Governed.fireReset (g : s.Governed) : s.fireReset.Governed := by
  by_cases hf : s.plan.fireSet = 0
  · rw [State.fireReset_idle (.inl hf)]; exact g
  · cases hl : s.plan.level with
    | none => rw [State.fireReset_idle (.inr hl)]; exact g
    | fire =>
      by_cases hp : 0 < (s.bank s.plan.current).purge
      · exact g.replanned (State.fireReset_purges hf hl hp) (g.incident.purging hl _) rfl rfl rfl rfl
      · rw [State.fireReset_returns hf hl (by omega)]
        exact (s.emptyFires_returned hl).governed g.roles rfl g.incident.returned (g.store.withPlan rfl rfl rfl)
    | manual =>
      rw [State.fireReset_manual hf hl]
      exact g.replanned s.emptyFires_lasting (g.incident.emptied hl) rfl rfl rfl rfl

/-- R48: the purge timer runs at FIRE, with an empty fire set. -/
theorem State.Governed.doReturn (g : s.Governed) (hp : s.plan.purge.isSome = true) : s.doReturn.Governed := by
  obtain ⟨hl, hf⟩ := g.incident.purge hp
  have htaken := s.prepares_refl.returns rfl rfl rfl (by rw [hl]; decide)
  have hplan : { s.plan.returned with level := Level.none } =
      { s.plan with fireSet := 0, current := s.plan.saved, level := .none, cause := none, purge := none } := by
    simp only [PlanControl.returned, hf]
  rw [hplan] at htaken
  exact htaken.governed g.roles rfl g.incident.returned (g.store.withPlan rfl rfl rfl)

theorem State.Governed.selectPlan (g : s.Governed) (hc : s.controlled = true) (k : PlanId) : (s.selectPlan k).Governed :=
  (s.selectPlan_taken k).governed g.roles rfl (g.incident.selected (by simpa [State.controlled] using hc) k)
    (g.store.withPlan rfl rfl rfl)

theorem PlanControl.automated_stores (c : PlanControl) :
    c.automated.banks = c.banks ∧ c.automated.map = c.map ∧ c.automated.base = c.base := by
  unfold PlanControl.automated
  split <;> exact ⟨rfl, rfl, rfl⟩
theorem PlanControl.givenBack_stores (c : PlanControl) :
    c.givenBack.banks = c.banks ∧ c.givenBack.map = c.map ∧ c.givenBack.base = c.base := by
  unfold PlanControl.givenBack
  split
  · exact ⟨rfl, rfl, rfl⟩
  · exact c.automated_stores

theorem State.Governed.automatic (g : s.Governed) (hl : s.plan.level = .manual) :
    (s.toAutomatic.handPlan s.plan.current).Governed := by
  obtain ⟨hb, hm, hk⟩ := s.plan.automated_stores
  exact (s.automatic_taken hl).governed g.roles hb (g.incident.automated hl) (g.store.withPlan hb hm hk)

/-! ### The control, the layers and the blocks -/

theorem State.Governed.giveControl (g : s.Governed) : s.giveControl.Governed := by
  have hbooks : s.controlGiven.books = State.books { s with plan := s.plan.givenBack, resolver := s.resolver.released } :=
    State.books_of_lasting s.controlGiven_lasting
  have hstore : State.StoreSound { s with plan := s.plan.givenBack, resolver := s.resolver.released } :=
    g.store.congr rfl (fun _ => rfl) (fun _ => rfl) (fun _ => rfl) s.plan.givenBack_stores ⟨rfl, rfl⟩ rfl
  rw [State.giveControl_eq]
  exact State.recomputeRoles_governed (g.incident.givenBack.of_books hbooks) (hstore.of_books hbooks)

/-- R60, R174: the control state, the layers and the blocks are no part of the store. -/
theorem State.StoreSound.withResolver (h : s.StoreSound) {r : Resolver} (hr : r.closures = s.resolver.closures) :
    State.StoreSound { s with resolver := r } :=
  h.congr rfl (fun _ => rfl) (fun _ => rfl) (fun _ => rfl) ⟨rfl, rfl, rfl⟩ ⟨rfl, rfl⟩ hr
/-- R60: while in control any layer and any block may stand. -/
theorem State.IncidentSound.inControl (i : s.IncidentSound) {r : Resolver} (hr : r.control = .inControl) :
    State.IncidentSound { s with resolver := r } :=
  { i with manual := fun _ => hr, control := fun e => absurd (hr.symm.trans e) (by decide) }

theorem State.Governed.takeControl (g : s.Governed) : s.takeControl.Governed := by
  unfold State.takeControl
  split
  · exact g
  · refine State.governed_congr (State.raiseAll_books _ _) (s := s.modResolver fun r => { r with control := .inControl }) ?_
    exact ⟨g.incident.inControl rfl, g.store.withResolver rfl, g.roles.of_bank rfl rfl fun _ => rfl⟩

theorem State.Governed.overrideSet (g : s.Governed) (hc : s.controlled = true) (z : ZoneId) (r : Option Role) :
    (s.overrideSet z r).Governed := by
  have hc : s.resolver.control = .inControl := by simpa [State.controlled] using hc
  have hi : State.IncidentSound (s.modResolver fun q => { q with overrides := upd q.overrides z fun _ => r }) :=
    g.incident.inControl hc
  have hs : State.StoreSound (s.modResolver fun q => { q with overrides := upd q.overrides z fun _ => r }) :=
    g.store.withResolver rfl
  unfold State.overrideSet
  split
  · exact g
  · exact State.recomputeRoles_governed (hi.of_books (State.raiseAll_books _ _)) (hs.of_books (State.raiseAll_books _ _))

theorem State.Governed.blockSet (g : s.Governed) (hc : s.controlled = true) (n : FanId) (b : Bool) : (s.blockSet n b).Governed := by
  have hc : s.resolver.control = .inControl := by simpa [State.controlled] using hc
  have hm : State.Governed (s.modResolver fun q => { q with blocks := upd q.blocks n fun _ => b }) :=
    ⟨g.incident.inControl hc, g.store.withResolver rfl, g.roles.of_bank rfl rfl fun _ => rfl⟩
  unfold State.blockSet
  split
  · exact g
  · exact State.governed_congr ((State.trigger_books _).trans (State.raiseAll_books _ _)) hm

/-! ### Groups 4 and 6 written -/

theorem State.planStored_books (s : State) {g : GroupId} :
    (s.planStored plan store g p).books = State.books { s with plan := plan, store := store } :=
  State.books_of_lasting s.planStored_lasting

/-- R33, R174: a bank replaced in the plan controller and in group 4. -/
theorem State.StoreSound.withBank (h : s.StoreSound) (k : PlanId) (b : PlanBank) :
    State.StoreSound { s with plan := s.plan.withBank k b, store := s.store.withBank k b } := by
  refine { h with plans := ?_ }
  show sealWith plansImage (s.store.plans.contents.withBank k b) = _
  rw [h.plans]; rfl
theorem State.StoreSound.withMap (h : s.StoreSound) (m : Vector (Option PlanId) 16) : State.StoreSound { s with
    plan := { s.plan with map := m },
    store := { s.store with plans := sealWith plansImage { s.store.plans.contents with map := m } } } := by
  refine { h with plans := ?_ }
  show sealWith plansImage { s.store.plans.contents with map := m } = _
  rw [h.plans]; rfl
theorem State.StoreSound.withBase (h : s.StoreSound) (k : PlanId) :
    State.StoreSound { s with plan := s.plan.based k, store := s.store.withBase k } := by
  refine { h with base := ?_ }
  show sealWith baseImage { s.store.base.contents with base := k } = _
  rw [h.base]; rfl

theorem State.Governed.planWritten (g : s.Governed) (p : Port) (hb : b.kind = (s.bank k).kind) : (s.planWritten p k b).Governed := by
  have hi := g.incident.withBank (k := k) (b := b) (fun ⟨z, hz⟩ => hb.trans (g.incident.mapped z k hz))
    fun e => hb.trans (e ▸ g.incident.normal)
  have hi : State.IncidentSound { s with plan := s.plan.withBank k b, store := s.store.withBank k b } :=
    hi.congr rfl rfl rfl rfl fun _ => rfl
  have hs := g.store.withBank k b
  have hbooks : (s.bankStored p k b).books = State.books { s with plan := s.plan.withBank k b, store := s.store.withBank k b } :=
    s.planStored_books
  rw [State.planWritten_eq]
  split
  · exact State.recomputeRoles_governed (hi.of_books hbooks) (hs.of_books hbooks)
  · rename_i hk
    refine State.governed_congr hbooks ⟨hi, hs, g.roles.of_bank rfl ?_ fun _ => rfl⟩
    exact upd_get_other _ _ (Ne.symm hk)

theorem State.Governed.baseSelected (g : s.Governed) (hk : (s.bank k).kind = .normal) : (s.baseSelected k).Governed :=
  (s.baseSelected_taken k).governed g.roles rfl (g.incident.based hk) (g.store.withBase k)

theorem State.Governed.mapWritten (g : s.Governed) {m : Vector (Option PlanId) 16}
    (hm : ∀ (z : ZoneId) k, m[z.val] = some k → (s.bank k).kind = .smoke) : (s.mapWritten m).Governed := by
  have hbooks : (s.mapWritten m).books = State.books { s with
      plan := { s.plan with map := m },
      store := { s.store with plans := sealWith plansImage { s.store.plans.contents with map := m } } } :=
    State.planStored_books (g := 3) (p := .alarm) s
  exact State.governed_congr hbooks ⟨(g.incident.withMap hm).congr rfl rfl rfl rfl fun _ => rfl, g.store.withMap m,
    g.roles.of_bank rfl rfl fun _ => rfl⟩

/-- R34: a kind that neither the map nor the plans in force forbid. At level NONE the current plan is of NORMAL kind, so that
NORMAL leaves its bank as it is. -/
theorem State.Governed.kindSet (g : s.Governed) {kind : PlanKind} (hl : s.plan.level = .none) (hk : s.kindHeld k kind = false) :
    (s.kindSet k kind).Governed := by
  have hcurrent := (g.incident.quiet hl).1
  have hbooks : (s.kindSet k kind).books = State.books { s with
      plan := s.plan.withBank k { s.bank k with kind := kind }, store := s.store.withBank k { s.bank k with kind := kind } } :=
    State.planStored_books (g := 3) (p := .alarm) s
  have hkinds : ((∃ z : ZoneId, s.plan.map[z.val] = some k) → kind = .smoke) ∧ (k = s.plan.saved → kind = .normal) := by
    cases kind with
    | normal =>
      refine ⟨fun ⟨z, hz⟩ => ?_, fun _ => rfl⟩
      have h := List.any_eq_false.1 hk s.plan.map[z.val] (by simp)
      simp [hz] at h
    | smoke =>
      simp only [State.kindHeld, Bool.or_eq_false_iff, beq_eq_false_iff_ne] at hk
      exact ⟨fun _ => rfl, fun e => absurd e hk.2⟩
  have hi := g.incident.withBank (k := k) (b := { s.bank k with kind := kind }) hkinds.1 hkinds.2
  refine State.governed_congr hbooks ⟨hi.congr rfl rfl rfl rfl fun _ => rfl, g.store.withBank k _, g.roles.of_bank rfl ?_ fun _ => rfl⟩
  show (upd s.plan.banks k fun _ => { s.bank k with kind := kind })[s.plan.current.val] = s.bank s.plan.current
  rw [upd_get]
  split
  · rename_i e
    have hn : (s.bank k).kind = .normal := by rw [← e, hcurrent]; exact g.incident.normal
    have hkind : kind = .normal := hkinds.2 (e ▸ hcurrent)
    rw [e, hkind, ← hn]
  · rfl

theorem State.Governed.closureSet (g : s.Governed) (z : ZoneId) (closed : Bool) : (s.closureSet z closed).Governed := by
  have hi : (s.commitClosure z closed).IncidentSound := g.incident.congr rfl rfl rfl rfl fun _ => rfl
  have hs : (s.commitClosure z closed).StoreSound := by
    refine { g.store with base := ?_ }
    show sealWith baseImage (s.store.base.contents.withClosure z closed) = _
    rw [g.store.base]; rfl
  have hbooks : ((s.commitClosure z closed).configChanged .building).books = (s.commitClosure z closed).books :=
    State.books_of_lasting (State.raiseOthers_lasting ..)
  unfold State.closureSet
  simp only
  split
  · rename_i hc
    refine State.governed_congr hbooks ⟨hi, hs, g.roles.congr ?_ rfl fun _ => rfl⟩
    show { s.resolver with closures := upd s.resolver.closures z fun _ => closed } = s.resolver
    rw [← hc, upd, Vector.set_getElem_self]
  · exact State.recomputeRoles_governed (hi.of_books hbooks) (hs.of_books hbooks)

end

end Sys2Proof.Machine

/-! ## The records, the budgets and the tick keep the books sound (R2, R6 to R10, R75, R94, R115, R174) -/

namespace Sys2Proof.Machine

section
variable {s t u : State} {p : Port} {n : FanId} {z : ZoneId} {h : HeadId}

/-! ### Work beside the books -/

theorem State.configChanged_books (s : State) (p : Port) : (s.configChanged p).books = s.books :=
  State.books_of_lasting (State.raiseOthers_lasting ..)
theorem State.unfitDevice_lasting (s : State) (d : Device) : (s.unfitDevice d).lasting = s.lasting := rfl
theorem State.withDuty_lasting (s : State) (l : List FanId) : State.lasting { s with duty := l } = s.lasting := rfl
theorem State.refitFan_lasting (s : State) (n : FanId) (old new : Bool) : (s.refitFan n old new).lasting = s.lasting := by
  unfold State.refitFan
  split
  · rfl
  · split
    · rw [State.fitFan, State.trigger_lasting, State.withDuty_lasting, State.enterEnrolling_lasting]; rfl
    · rw [State.unfitFan, State.trigger_lasting, State.rebuildPolls_lasting, State.unfitDevice_lasting, State.withDuty_lasting,
        State.clearAlarm_lasting, State.enterState_lasting]
      exact s.modFan_lasting n _ fun _ => rfl
theorem State.ratingsChanged_lasting (s : State) (n : FanId) (old new : FanConfig) :
    (s.ratingsChanged n old new).lasting = s.lasting := by
  unfold State.ratingsChanged
  split
  · exact s.modFan_lasting n _ fun q => by unfold Fan.reresolve; split <;> rfl
  · rfl
theorem State.unfitDampers_lasting (s : State) (z : ZoneId) : (s.unfitDampers z).lasting = s.lasting := by
  rw [State.unfitDampers, State.rebuildPolls_lasting, State.unfitDevice_lasting, State.unfitDevice_lasting, State.stopMakeUp,
    State.clearAlarm_lasting, State.modMakeUp_lasting, State.stopExtract, State.clearAlarm_lasting, State.modExtract_lasting]
/-- R8, R107: what the evaluator and the dampers do when a zone becomes or ceases to be fitted. -/
theorem State.refit_books (s : State) (z : ZoneId) (old new : Bool) : (s.refit z old new).books = s.books := by
  unfold State.refit
  split
  · exact (State.books_of_lasting (State.unfitDampers_lasting _ z)).trans (s.unfitZone_books z)
  · split
    · exact State.books_of_lasting (s.fitDampers_starting z).lasting
    · rfl
theorem State.resetHead_books (s : State) (h : HeadId) : (s.resetHead h).books = s.books := by
  unfold State.resetHead
  exact s.modHead_books h
theorem State.refitHead_books (s : State) (h : HeadId) (old new : Bool) : (s.refitHead h old new).books = s.books := by
  unfold State.refitHead
  split
  · rfl
  · split <;> rfl

/-! ### The records and their groups -/

/-- R174: a record replaced in its block and in its group. -/
theorem sealed_upd {α β : Type} {m : Nat} {image : Vector β m → List Word} {x : Sealed (Vector β m)} {v : Vector α m} {f : α → β}
    (hx : x = sealWith image (v.map f)) (i : Fin m) {g : α → α} {c : β} (hg : f (g v[i.val]) = c) :
    sealWith image (upd x.contents i fun _ => c) = sealWith image ((upd v i g).map f) := by
  have e : (upd x.contents i fun _ => c) = (upd v i g).map f := by
    refine Vector.ext fun j hj => ?_
    have h1 := upd_get x.contents i ⟨j, hj⟩ fun _ => c
    have h2 := upd_get v i ⟨j, hj⟩ g
    simp only at h1 h2
    rw [h1, Vector.getElem_map, h2, hx]
    split
    · exact hg.symm
    · exact Vector.getElem_map ..
  rw [e]

theorem State.commitZone_zone (s : State) (z y : ZoneId) (c : ZoneConfig) :
    ((s.commitZone z c).zone y).config = if y = z then c else (s.zone y).config := by
  have e : (s.commitZone z c).zone y = if y = z then { s.zone z with config := c } else s.zone y := s.modZone_zone z y _
  rw [e]
  split <;> rfl

/-- R40, R67: a zone of the fire set stays fitted. -/
theorem State.IncidentSound.commitZone (i : s.IncidentSound) {c : ZoneConfig} (hf : s.burning z = true → c.fitted = true) :
    (s.commitZone z c).IncidentSound := by
  refine { i with fitted := fun y hy => ?_ }
  rw [State.commitZone_zone]
  split
  · rename_i e; exact hf (e ▸ hy)
  · exact i.fitted y hy
theorem State.StoreSound.commitZone (k : s.StoreSound) (z : ZoneId) (c : ZoneConfig) : (s.commitZone z c).StoreSound :=
  { k with zones := sealed_upd k.zones z rfl }
theorem State.StoreSound.commitHead (k : s.StoreSound) (h : HeadId) (c : HeadConfig) : (s.commitHead h c).StoreSound :=
  { k with heads := sealed_upd k.heads h rfl }
theorem State.StoreSound.commitFan (k : s.StoreSound) (n : FanId) (c : FanConfig) : (s.commitFan n c).StoreSound :=
  { k with fans := sealed_upd k.fans n rfl }

theorem State.Governed.commitHead (g : s.Governed) (h : HeadId) (c : HeadConfig) : (s.commitHead h c).Governed :=
  ⟨g.incident.congr rfl rfl rfl rfl fun _ => rfl, g.store.commitHead h c, g.roles.congr rfl rfl fun _ => rfl⟩
theorem State.Governed.commitFan (g : s.Governed) (n : FanId) (c : FanConfig) : (s.commitFan n c).Governed :=
  ⟨g.incident.congr rfl rfl rfl rfl fun _ => rfl, g.store.commitFan n c, g.roles.congr rfl rfl fun _ => rfl⟩

/-- R7, R58: a change of the fitted field has the roles computed again; the protection keeps the zones of the fire set fitted. -/
theorem State.Governed.zoneWritten (g : s.Governed) {c : ZoneConfig}
    (hf : s.plan.level = .none ∨ c.fitted = (s.zone z).config.fitted) : (s.zoneWritten z c).Governed := by
  have hburn : s.burning z = true → c.fitted = true := fun hb => by
    rcases hf with hl | e
    · have := (g.incident.quiet hl).2.1
      simp [State.burning, this] at hb
    · rw [e]; exact g.incident.fitted z hb
  have hbooks : (((s.commitZone z c).configChanged .building).refit z (s.zone z).config.fitted c.fitted).books =
      (s.commitZone z c).books := (State.refit_books _ _ _ _).trans (State.configChanged_books _ _)
  have hi : (s.commitZone z c).IncidentSound := g.incident.commitZone hburn
  have hs := g.store.commitZone z c
  have hjudged : State.Governed ((((s.commitZone z c).configChanged .building).refit z (s.zone z).config.fitted c.fitted).judgeFit
      ((s.zone z).config.fitted != c.fitted)) := by
    unfold State.judgeFit
    split
    · have hproved := (State.books_of_lasting (State.reprove_lasting _)).trans hbooks
      exact State.recomputeRoles_governed (hi.of_books hproved) (hs.of_books hproved)
    · rename_i e
      have e : (s.zone z).config.fitted = c.fitted := by simpa using e
      refine State.governed_congr hbooks ⟨hi, hs, g.roles.congr rfl rfl fun y => ?_⟩
      rw [State.commitZone_zone]
      split
      · rename_i hy; rw [hy, e]
      · rfl
  exact State.governed_congr ((State.trigger_books _).trans (State.refreshZone_books _ z)) hjudged

theorem State.Governed.headWritten (g : s.Governed) (h : HeadId) (c : HeadConfig) : (s.headWritten h c).Governed := by
  have hw : ((s.commitHead h c).configChanged .building).Governed :=
    State.governed_congr (State.configChanged_books _ _) (g.commitHead h c)
  unfold State.headWritten
  simp only
  split
  · exact hw
  · exact State.governed_congr
      (((State.refreshZones_books _ _ _).trans (State.refitHead_books _ h _ _)).trans (State.resetHead_books _ h)) hw

theorem State.Governed.fanWritten (g : s.Governed) (n : FanId) (c : FanConfig) : (s.fanWritten n c).Governed := by
  have hl : (s.fanWritten n c).lasting = ((s.commitFan n c).configChanged .building).lasting :=
    (State.refitFan_lasting _ _ _ _).trans (State.ratingsChanged_lasting _ _ _ _)
  exact State.governed_congr ((State.books_of_lasting hl).trans (State.configChanged_books _ _)) (g.commitFan n c)

theorem State.Governed.serviceSet (g : s.Governed) (n : FanId) (v : Service) : (s.serviceSet n v).Governed :=
  State.governed_congr ((State.triggerIf_books _ _).trans (State.configChanged_books _ _)) (g.commitFan n _)

/-! ### The budgets -/

theorem State.Governed.normalWritten (g : s.Governed) (b : Nat) : (s.normalWritten b).Governed := by
  have hs : (s.commitNormal b).StoreSound := by
    refine { g.store with budgets := ?_ }
    show sealWith budgetsImage { s.store.budgets.contents with normal := b } = _
    rw [g.store.budgets]; rfl
  exact State.governed_congr ((State.triggerIf_books _ _).trans (State.configChanged_books _ _))
    ⟨g.incident.congr rfl rfl rfl rfl fun _ => rfl, hs, g.roles.congr rfl rfl fun _ => rfl⟩
theorem State.Governed.standbyWritten (g : s.Governed) (b : Nat) : (s.standbyWritten b).Governed := by
  have hs : (s.commitStandby b).StoreSound := by
    refine { g.store with budgets := ?_ }
    show sealWith budgetsImage { s.store.budgets.contents with standby := b } = _
    rw [g.store.budgets]; rfl
  exact State.governed_congr ((State.triggerIf_books _ _).trans (State.configChanged_books _ _))
    ⟨g.incident.congr rfl rfl rfl rfl fun _ => rfl, hs, g.roles.congr rfl rfl fun _ => rfl⟩

/-! ### A second of part time -/

/-- R2: a running purge timer goes on running. -/
theorem State.Governed.second (g : s.Governed) : s.second.Governed := by
  have hpurge : s.second.plan.purge.isSome = s.plan.purge.isSome := lessOne_isSome' _
  have hz : ∀ z, (s.second.zone z).config = (s.zone z).config := fun z => by rw [State.second_zone]; rfl
  have i := g.incident
  refine ⟨?_, ?_, ?_⟩
  · exact {
      mapped := i.mapped
      saved := i.saved
      normal := i.normal
      quiet := i.quiet
      fire := fun e => by rw [hpurge]; exact i.fire e
      purge := fun e => i.purge (hpurge ▸ e)
      cause := i.cause
      manual := i.manual
      control := i.control
      fitted := fun z hb => by rw [hz]; exact i.fitted z hb }
  · exact g.store.congr rfl hz (fun _ => rfl) (fun n => by simp [State.fan, State.second]) ⟨rfl, rfl, rfl⟩ ⟨rfl, rfl⟩ rfl
  · exact g.roles.of_bank rfl rfl fun z => by rw [hz]

end

end Sys2Proof.Machine

/-! ## The alarm list beside the books, and the resets (R40, R135 to R138, R176 to R178) -/

namespace Sys2Proof.Machine

section
variable {s t u : State} {w : Bool} {p : Port} {n : FanId} {z : ZoneId} {h : HeadId} {k : AlarmKey}

/-! ### The FIRE entries -/

theorem State.Listed.moves (l : s.Listed) (m : State.Moves w s t) : t.Listed :=
  ⟨m.alarms_sound l.sound, m.firesListed l.sound l.fires⟩
/-- R40: neither the list nor the fire set has changed. -/
theorem State.Listed.of_same (l : s.Listed) (ha : t.alarms = s.alarms) (hf : t.plan.fireSet = s.plan.fireSet := by rfl) : t.Listed :=
  ⟨ha ▸ l.sound, fun z => by rw [ha, l.fires z, State.burning, State.burning, hf]⟩
theorem State.Listed.clearAlarm (l : s.Listed) (hk : k.isFire = false) : (s.clearAlarm k).Listed :=
  l.moves (State.clearAlarm_moves (w := true) _ _ (.inr ⟨rfl, hk⟩))
/-- R137, R138: the list has changed in cursors, acknowledgements and CLEARED entries alone. -/
theorem State.Listed.withAlarms (l : s.Listed) {a : AlarmList} (ha : a.Sound) (hk : ∀ k, a.hasActive k = s.alarms.hasActive k) :
    State.Listed { s with alarms := a } :=
  l.moves (State.Move.alarms s a fun _ => ⟨ha, hk⟩).moves
theorem State.Listed.finish (l : s.Listed) : s.finish.Listed := l.moves (w := true) (State.finish_moves s)

theorem State.Listed.trigger (l : s.Listed) : s.trigger.Listed := l.of_same rfl
theorem State.Listed.withPending (l : s.Listed) (q : List Instr) : State.Listed { s with pending := q } := l.of_same rfl

/-! ### Work on the list and beside it that is no chain of moves -/

theorem State.Listed.zoneWritten (l : s.Listed) (z : ZoneId) (c : ZoneConfig) : (s.zoneWritten z c).Listed := by
  have hcommit : (s.commitZone z c).Listed := (l.clearAlarm (k := .storeFault 0) rfl).of_same rfl
  have hstored := hcommit.moves (State.configChanged_moves _ .building)
  have hrefit : ∀ (q : State) (old new : Bool), q.Listed → (q.refit z old new).Listed := fun q old new k => by
    unfold State.refit
    split
    · have k := k.moves (q.unfitZone_moves z)
      have hset : ((q.unfitZone z).unfitDampers z).plan = (q.unfitZone z).plan := plan_of_lasting (State.unfitDampers_lasting _ z)
      exact ((k.clearAlarm (k := extractKey z) rfl).clearAlarm (k := makeUpKey z) rfl).of_same (State.unfitDampers_alarms _ z)
        (by rw [hset]; rfl)
    · split
      · exact k.of_same (q.fitDampers_quiet z).1 (by rw [plan_of_lasting (q.fitDampers_starting z).lasting]; rfl)
      · exact k
  have hjudged := (hrefit _ (s.zone z).config.fitted c.fitted hstored).moves
    (State.judgeFit_moves _ ((s.zone z).config.fitted != c.fitted))
  exact (hjudged.moves (State.refreshZone_moves _ z)).moves (w := true) (State.trigger_moves _)

theorem State.Listed.headWritten (l : s.Listed) (h : HeadId) (c : HeadConfig) : (s.headWritten h c).Listed := by
  have hcommit : (s.commitHead h c).Listed := (l.clearAlarm (k := .storeFault 1) rfl).of_same rfl
  have hstored := hcommit.moves (State.configChanged_moves _ .building)
  unfold State.headWritten
  simp only
  split
  · exact hstored
  · have hreset : (((s.commitHead h c).configChanged .building).resetHead h).Listed :=
      (hstored.clearAlarm (k := .headFault h) rfl).of_same rfl
    have hrefit : ∀ (q : State) (old new : Bool), q.Listed → (q.refitHead h old new).Listed := fun q old new k => by
      unfold State.refitHead
      split
      · exact k
      · split <;> exact k.of_same rfl
    exact (hrefit _ _ _ hreset).moves (State.refreshZones_moves _ _ _)

theorem State.Listed.commitFan (l : s.Listed) (n : FanId) (c : FanConfig) : (s.commitFan n c).Listed :=
  (l.clearAlarm (k := .storeFault 2) rfl).of_same rfl

theorem State.Listed.refitFan (l : s.Listed) (n : FanId) (old new : Bool) : (s.refitFan n old new).Listed := by
  have hplan : (s.refitFan n old new).plan = s.plan := plan_of_lasting (s.refitFan_lasting n old new)
  have hset : (s.refitFan n old new).plan.fireSet = s.plan.fireSet := by rw [hplan]
  unfold State.refitFan at hset ⊢
  split
  · exact l
  · split
    · rename_i e e1
      rw [if_neg e, if_pos e1] at hset
      have ha : (s.fitFan n).alarms = ((s.fitDevice (.drive n)).rebuildPolls.enterEnrolling n).alarms := rfl
      exact l.of_same (ha.trans (State.enterEnrolling_quiet _ n).1) hset
    · rename_i e e1
      rw [if_neg e, if_neg e1] at hset
      have ha : (s.unfitFan n).alarms = (s.clearAlarm (.fanFault n)).alarms := by
        have hq : ∀ f : Fan → Fan, ((s.modFan n f).enterState n .absent none).alarms = s.alarms := fun f =>
          (State.enterState_quiet (s.modFan n f) n _ _).1
        have ht : ∀ f : Fan → Fan, ((s.modFan n f).enterState n .absent none).partTime = s.partTime := fun f =>
          partTime_of_lasting (s := s.modFan n f) (State.enterState_lasting ..)
        have he : ∀ q : State, State.alarms (State.trigger (State.rebuildPolls (State.unfitDevice
            { q with duty := q.duty.filter (· != n) } (.drive n)))) = q.alarms := fun _ => rfl
        rw [State.unfitFan, he, State.clearAlarm, hq, ht]; rfl
      exact (l.clearAlarm (k := .fanFault n) rfl).of_same ha hset

theorem State.Listed.fanWritten (l : s.Listed) (n : FanId) (c : FanConfig) : (s.fanWritten n c).Listed := by
  have hrated : ∀ (q : State) (old new : FanConfig), q.Listed → (q.ratingsChanged n old new).Listed := fun q old new k => by
    unfold State.ratingsChanged
    split
    · exact k.of_same rfl
    · exact k
  exact ((hrated _ (s.fan n).config c ((l.commitFan n c).moves (State.configChanged_moves _ .building))).refitFan n _ _).of_same rfl

theorem State.Listed.serviceSet (l : s.Listed) (n : FanId) (v : Service) : (s.serviceSet n v).Listed :=
  ((l.commitFan n _).moves (State.configChanged_moves _ .building)).moves (w := true) (State.triggerIf_moves _ _)

/-- R98: the table of an extract damper's reply, for a zone fitted or not. -/
theorem State.Listed.judgeExtract (l : s.Listed) (z : ZoneId) : (s.judgeExtract z).Listed := by
  have hf : (s.faultExtract z).Listed := l.moves (w := true) (s.faultExtract_moves z)
  have hs : (s.settleExtract z).Listed := l.moves (w := true) (s.settleExtract_moves z)
  have hd : (s.driveExtract z).Listed :=
    l.of_same (s.driveExtract_quiet z).1 (by rw [plan_of_lasting (s.driveExtract_lasting z)])
  unfold State.judgeExtract
  simp only
  split
  · exact hd
  · split
    · exact hf
    · split
      · exact hs
      · exact l
  · split
    · exact hf
    · split
      · exact l
      · exact hd
  · split
    · exact l
    · split
      · exact hs
      · exact l

/-- R103: the cases of a make-up damper's reply, for a zone fitted or not. -/
theorem State.Listed.judgeMakeUp (l : s.Listed) (z : ZoneId) : (s.judgeMakeUp z).Listed := by
  have hd : (s.driveMakeUp z).Listed :=
    l.of_same (s.driveMakeUp_quiet z).1 (by rw [plan_of_lasting (s.driveMakeUp_lasting z)])
  unfold State.judgeMakeUp
  simp only
  split
  · exact hd
  · split
    · split
      · exact l
      · exact l.moves (w := true) (s.faultMakeUp_moves z)
    · split
      · exact l.moves (w := true) (s.settleMakeUp_moves z)
      · unfold State.straysMakeUp
        split
        · exact hd
        · exact hd
        · exact l
        · exact l
        · exact l
        · exact l

/-! ### The resets -/

theorem State.reportIf_moves (s : State) (b : Bool) (g : GroupId) : State.Moves true s (s.reportIf b g) := by
  cases b with
  | false => exact .refl _
  | true => exact s.groupFailed_moves g

/-- R176, R178: of a reset the alarm list holds STORE_FAULT entries alone. -/
theorem State.restart_listed (s : State) (cut : StoreCut) : (s.restart cut).Listed := by
  rw [State.restart_eq]
  generalize ({ s with store := s.store.after cut } : State) = q
  have hfilled : (State.filled q.store).based.Listed :=
    State.Listed.of_same ⟨State.reset_alarms_sound, State.reset_firesListed⟩ (State.filled_based_quiet _).1
      (by unfold State.based; split <;> rfl)
  have hloaded : q.volatileReset.loadGroups.correctBase.Loaded := q.corrected_loaded
  have hcorrected : q.volatileReset.loadGroups.correctBase.Listed := by
    rw [State.corrected_eq]
    exact (hfilled.moves (foldl_moves (w := true) _ _ _ fun x g => x.reportIf_moves _ g)).moves (State.reportIf_moves _ _ _)
  have hbegun : q.volatileReset.loadGroups.correctBase.begun.Listed :=
    hcorrected.of_same hloaded.begun_quiet.1 (by rw [hloaded.begun_plan])
  have hprimed : q.primed.Listed := by
    unfold State.primed
    exact hbegun.trigger
  exact hprimed.finish.withPending _

/-- R31, R36 to R42, R57 to R60, R174 to R178: a reset starts from what the store of a sound part loads. -/
theorem State.Governed.restart (g : s.Governed) (cut : StoreCut) : (s.restart cut).Governed := by
  obtain ⟨_, t, ht, -, -, -, -, -, -, -, -, -, -, -, hlevel, hset, hcause, hpurge, hcurrent, hsaved, hcontrol, hover, hblocks, hroles, -⟩ :=
    resetLeavesTheVolatileValues cut s
  obtain ⟨t', loaded, ht', hstore, -, -, -, hcleared, hkept, -, -, -, -, hnormal, hsmoke, -⟩ := (resetLoadsTheStore s g.store g.incident).2 cut
  have e : t = s.restart cut := (Host.Outcome.next.inj ht).symm
  have e' : t' = s.restart cut := (Host.Outcome.next.inj ht').symm
  subst e
  subst e'
  have hbase : ((s.restart cut).bank (s.restart cut).plan.base).kind = .normal := by
    cases hk : ((s.restart cut).bank loaded).kind with
    | normal => rw [hnormal hk]; exact hk
    | smoke => exact (hsmoke hk).1
  have hburn : ∀ z, (s.restart cut).burning z = false := fun z => by simp [State.burning, hset]
  have hmapped : ∀ z k, (s.restart cut).plan.map[(z : ZoneId).val] = some k → ((s.restart cut).bank k).kind = .smoke := fun z k hz => by
    by_cases hc : CutClears cut 3
    · rw [(hcleared hc).2] at hz
      simp at hz
    · obtain ⟨hbanks, hmap⟩ := hkept hc
      simp only [hmap] at hz
      simp only [State.bank, hbanks]
      exact g.incident.mapped z k hz
  exact ⟨{
    mapped := hmapped
    saved := hsaved
    normal := by rw [hsaved]; exact hbase
    quiet := fun _ => ⟨hcurrent.trans hsaved.symm, hset, hcause⟩
    fire := fun h => by rw [hlevel] at h; cases h
    purge := fun h => by rw [hpurge] at h; cases h
    cause := fun h => absurd hset h
    manual := fun h => by rw [hlevel] at h; cases h
    control := fun _ => ⟨hover, hblocks⟩
    fitted := fun z h => by rw [hburn] at h; cases h }, hstore, hroles⟩

end

end Sys2Proof.Machine

/-! ## What each command upholds (R36 to R60, R135 to R138, R174) -/

namespace Sys2Proof.Machine

/-- From s to t the books stay sound, and so does the alarm list with the FIRE entries of the fire set. -/
structure State.Upholds (s t : State) : Prop where
  governed : s.Governed → t.Governed
  listed : s.Listed → t.Listed

section
variable {s t u : State} {w : Bool} {p : Port} {n : FanId} {z : ZoneId} {index : Byte} {data : List Word}

/-! ### Chains of work -/

theorem State.Upholds.refl (s : State) : s.Upholds s := ⟨id, id⟩
theorem State.Upholds.trans (h : s.Upholds t) (k : t.Upholds u) : s.Upholds u := ⟨k.governed ∘ h.governed, k.listed ∘ h.listed⟩
/-- Work that leaves the books. -/
theorem State.Upholds.of_books (hb : t.books = s.books) (hl : s.Listed → t.Listed) : s.Upholds t := ⟨State.governed_congr hb, hl⟩
theorem State.Upholds.of_moves (hb : t.books = s.books) (hm : State.Moves w s t) : s.Upholds t := .of_books hb fun l => l.moves hm
theorem State.Upholds.of_lasting (hl : t.lasting = s.lasting) (hm : State.Moves w s t) : s.Upholds t :=
  .of_moves (State.books_of_lasting hl) hm
/-- Work that leaves the books and the alarm list. -/
theorem State.Upholds.of_rest (hb : t.books = s.books) (ha : t.alarms = s.alarms) : s.Upholds t :=
  .of_books hb fun l => l.of_same ha (by rw [State.books_plan hb])
/-- Work that changes the books. -/
theorem State.Upholds.of_work (hg : s.Governed → t.Governed) (hm : State.Moves w s t) : s.Upholds t := ⟨hg, fun l => l.moves hm⟩

theorem State.Upholds.finish (h : s.Upholds t) : s.Upholds t.finish :=
  h.trans (.of_lasting (w := true) t.finish_lasting (State.finish_moves t))
theorem State.Upholds.modPort (s : State) (p : Port) (f : PortState → PortState) : s.Upholds (s.modPort p f) := .of_rest rfl rfl
theorem State.Upholds.modLine (s : State) (f : FieldLine → FieldLine) : s.Upholds (s.modLine f) := .of_rest rfl rfl
theorem State.Upholds.withPending (s : State) (l : List Instr) : s.Upholds { s with pending := l } := .of_rest rfl rfl
/-- R137, R138: the cursors and the acknowledgements. -/
theorem State.Upholds.withAlarms {a : AlarmList} (h : s.alarms.Sound → a.Sound) (hk : s.alarms.Sound → ∀ k, a.hasActive k = s.alarms.hasActive k) :
    s.Upholds { s with alarms := a } := .of_books rfl fun l => l.withAlarms (h l.sound) (hk l.sound)

/-- R156: the taking of a frame. -/
theorem State.Upholds.frameTaken (s : State) (p : Port) : s.Upholds (s.frameTaken p) := by
  refine .of_moves ?_ (s.frameTaken_moves p)
  unfold State.frameTaken
  simp only
  split <;> rfl

theorem State.Upholds.serve {row : CatalogueRow} {body : State → Answer} (h : ∀ u : State, u.Upholds (body u).state) :
    s.Upholds (serve row p index data body s) :=
  serve_keeps (P := s.Upholds) (fun u k => k.trans (.frameTaken u p)) (fun u _ k => k.trans (.modPort u p _))
    (fun u k => k.trans (h u)) (.refl s)

theorem State.Upholds.guarded (u : State) : u.Upholds (refuseGuarded u).state :=
  .of_moves (u.raiseAll_books _) (w := true) (u.raiseAll_moves .protectedWrite)
theorem State.Upholds.unlessGuarded {body : Answer} (h : u.Upholds body.state) : u.Upholds (unlessGuarded u body).state := by
  unfold Machine.unlessGuarded
  split
  · exact .guarded u
  · exact h

/-! ### Requests of every port -/

theorem ackAlarmBody_upholds (u : State) : u.Upholds (ackAlarmBody p data u).state := by
  unfold ackAlarmBody
  split
  · exact .refl u
  · split
    · exact .refl u
    · split
      · exact .refl u
      · exact .withAlarms (fun h => h.acknowledge _ _) fun h => h.acknowledge_hasActive _ _

/-! ### Requests of the building port -/

/-- R67, R68: what the protection lets through leaves the fitted field in an incident. -/
theorem zoneWriteAllowed_fitted {f : Bool} (ha : zoneWriteAllowed u z data ≠ false) (hf : yesNoOf (dataWord data 0) = some f) :
    u.plan.level = .none ∨ f = (u.zone z).config.fitted := by
  by_cases hi : u.plan.level = .none
  · exact .inl hi
  · refine .inr ?_
    have hinc := State.incident_of_ne hi
    have h : floorOnly (u.zone z).config data = true := by simp [zoneWriteAllowed, hinc] at ha; exact ha.2
    have h := (Bool.and_eq_true_iff.1 h).1
    rw [hf] at h
    simpa using h

theorem writeZoneBody_upholds (u : State) : u.Upholds (writeZoneBody index data u).state := by
  unfold writeZoneBody
  split
  · exact .refl u
  · split
    · exact .guarded u
    · rename_i ha
      split
      · exact .refl u
      · rename_i hf
        split
        · exact State.Upholds.finish ⟨fun g => g.zoneWritten (zoneWriteAllowed_fitted ha hf), fun l => l.zoneWritten _ _⟩
        · exact .refl u

theorem writeHeadBody_upholds (u : State) : u.Upholds (writeHeadBody index data u).state := by
  unfold writeHeadBody
  split
  · exact .refl u
  · refine .unlessGuarded ?_
    split
    · exact .refl u
    · exact State.Upholds.finish ⟨fun g => g.headWritten _ _, fun l => l.headWritten _ _⟩

theorem writeFanBody_upholds (u : State) : u.Upholds (writeFanBody index data u).state := by
  unfold writeFanBody
  split
  · exact .refl u
  · refine .unlessGuarded ?_
    split
    · exact .refl u
    · split
      · exact .refl u
      · exact State.Upholds.finish ⟨fun g => g.fanWritten _ _, fun l => l.fanWritten _ _⟩

theorem writePlanBody_upholds (u : State) : u.Upholds (writePlanBody p index data u).state := by
  unfold writePlanBody writePlanValues
  split
  · exact .refl u
  · split
    · exact .refl u
    · split
      · split
        · exact .guarded u
        · exact .refl u
      · split
        · exact .refl u
        · split
          · exact State.Upholds.finish (.of_work (fun g => g.planWritten p rfl) (u.planWritten_moves _ _ _))
          · exact .refl u

theorem selectBasePlanBody_upholds (u : State) : u.Upholds (selectBasePlanBody index u).state := by
  unfold selectBasePlanBody
  split
  · exact .refl u
  · rename_i k _
    split
    · exact .refl u
    · rename_i hk
      have hnormal : (u.bank k).kind = .normal := by cases h : (u.bank k).kind <;> simp_all
      exact State.Upholds.finish (.of_work (fun g => g.baseSelected hnormal) (u.baseSelected_moves k))

theorem setZoneClosureBody_upholds (u : State) : u.Upholds (setZoneClosureBody index data u).state := by
  unfold setZoneClosureBody
  split
  · exact .refl u
  · refine .unlessGuarded ?_
    split
    · exact .refl u
    · exact State.Upholds.finish (.of_work (fun g => g.closureSet _ _) (u.closureSet_moves _ _))

theorem setBoostBody_upholds (u : State) : u.Upholds (setBoostBody index data u).state := by
  unfold setBoostBody
  split
  · exact State.Upholds.finish (.of_moves (u.boostAll_books _) (u.boostAll_moves _))
  · split
    · exact .refl u
    · split
      · exact .refl u
      · split
        · exact .guarded u
        · exact State.Upholds.finish (.of_moves (u.setBoost_books _ _) (u.setBoost_moves _ _))

theorem setFanServiceBody_upholds (u : State) : u.Upholds (setFanServiceBody index data u).state := by
  unfold setFanServiceBody
  split
  · exact .refl u
  · refine .unlessGuarded ?_
    split
    · exact .refl u
    · exact State.Upholds.finish ⟨fun g => g.serviceSet _ _, fun l => l.serviceSet _ _⟩

/-- R80: the fan's record changes beside its configuration. -/
theorem State.modFan_books (s : State) (n : FanId) {f : Fan → Fan} (hf : ∀ q, (f q).config = q.config := by intro q; rfl) :
    (s.modFan n f).books = s.books := State.books_of_lasting (s.modFan_lasting n f hf)

theorem reenrolByState_upholds (u : State) (n : FanId) : u.Upholds (reenrolByState n u).state := by
  have hhold : ∀ q : State, q.Upholds (q.enterEnrolHold n) := fun q =>
    .of_rest (State.books_of_lasting (State.enterEnrolHold_lasting q n)) (State.enterEnrolHold_quiet q n).1
  have hstop : ∀ q : State, q.Upholds (q.stopFan n) := fun q =>
    .of_rest (State.books_of_lasting (State.stopFan_lasting q n)) (State.stopFan_quiet q n).1
  unfold reenrolByState
  split
  · exact (State.Upholds.trans (.of_rest (u.modFan_books n) rfl) (hhold _)).finish
  · exact (State.Upholds.trans (.of_rest (u.modFan_books n) rfl) (hhold _)).finish
  · exact (State.Upholds.trans (.of_rest (u.modFan_books n) rfl) (hstop _)).finish
  · exact (State.Upholds.trans (.of_rest (u.modFan_books n) rfl) (hstop _)).finish
  all_goals exact .refl u

theorem reenrolFanBody_upholds (u : State) : u.Upholds (reenrolFanBody index u).state := by
  unfold reenrolFanBody
  split
  · exact .refl u
  · exact .unlessGuarded (reenrolByState_upholds u _)

theorem State.fanReset_books (s : State) (n : FanId) : (s.fanReset n).books = s.books := by
  unfold State.fanReset
  simp only
  split
  · exact (State.books_of_lasting (State.enterEnrolHold_lasting _ n)).trans (State.modFan_books (s.clearAlarm _) n)
  · exact State.books_of_lasting (State.enterReady_lasting (s.clearAlarm _) n)

theorem resetFanBody_upholds (u : State) : u.Upholds (resetFanBody p index u).state := by
  unfold resetFanBody
  split
  · exact .refl u
  · split
    · exact .guarded u
    · split
      · exact .refl u
      · split
        · exact .refl u
        · rename_i ht
          split
          · exact .refl u
          · exact State.Upholds.finish (.of_moves (u.fanReset_books _) (u.fanReset_moves _ (by simpa using ht)))

theorem clearCountsBody_upholds (u : State) : u.Upholds (clearCountsBody u).state :=
  .unlessGuarded (.of_rest u.countsCleared_books rfl)

theorem factoryClearBody_upholds (u : State) : u.Upholds (factoryClearBody u).state := by
  unfold factoryClearBody
  split
  · exact .refl u
  · show u.Upholds u.factoryReset
    rw [State.factoryReset_eq]
    have hgoverned : State.reset.Governed := ⟨State.reset_incidentSound, State.reset_storeSound, State.reset_rolesSound⟩
    have hlisted : State.reset.Listed := ⟨State.reset_alarms_sound, State.reset_firesListed⟩
    exact ⟨fun _ => (State.Upholds.withPending _ _).governed hgoverned, fun _ => hlisted.withPending _⟩

/-! ### Requests of the alarm port -/

theorem fireAlarmBody_upholds (u : State) : u.Upholds (fireAlarmBody index u).state := by
  unfold fireAlarmBody
  split
  · exact .refl u
  · split
    · rename_i hf
      exact State.Upholds.finish (.of_work (fun g => g.fireAlarmed hf) (u.fireAlarmed_moves _))
    · exact .refl u

theorem supplyStateBody_upholds (u : State) : u.Upholds (supplyStateBody data u).state := by
  unfold supplyStateBody
  split
  · exact .refl u
  · rename_i v _
    exact State.Upholds.finish (.of_moves (State.triggerIf_books { u with alloc := { u.alloc with supply := v } } _) (u.supplySet_moves v))

theorem writePlanMapBody_upholds (u : State) : u.Upholds (writePlanMapBody data u).state := by
  unfold writePlanMapBody
  split
  · exact .refl u
  · split
    · exact .refl u
    · rename_i m _
      split
      · rename_i hm
        refine .of_work (fun g => g.mapWritten fun z k hz => ?_) (u.mapWritten_moves m)
        have h := List.all_eq_true.1 hm m[z.val] (by simp)
        rw [hz] at h
        simpa [State.mapEntryAllowed] using h
      · exact .refl u

theorem setPlanKindBody_upholds (u : State) : u.Upholds (setPlanKindBody index data u).state := by
  unfold setPlanKindBody setPlanKindValue
  split
  · exact .refl u
  · split
    · exact .refl u
    · rename_i hi
      split
      · exact .refl u
      · split
        · exact .refl u
        · split
          · exact .refl u
          · rename_i hk
            have hl : u.plan.level = .none := by simpa [State.incident] using hi
            exact .of_work (fun g => g.kindSet hl (by simpa using hk)) (u.kindSet_moves _ _)

/-! ### Requests of the override port -/

theorem giveControlBody_upholds (u : State) : u.Upholds (giveControlBody u).state := by
  unfold giveControlBody
  split
  · exact State.Upholds.finish (.of_work (fun g => g.giveControl) u.giveControl_moves)
  · exact .refl u

theorem setZoneOverrideBody_upholds (u : State) : u.Upholds (setZoneOverrideBody index data u).state := by
  unfold setZoneOverrideBody
  split
  · exact .refl u
  · split
    · rename_i hc
      split
      · exact .refl u
      · exact State.Upholds.finish (.of_work (fun g => g.overrideSet hc _ _) (u.overrideSet_moves _ _))
    · exact .refl u

theorem setFanBlockBody_upholds (u : State) : u.Upholds (setFanBlockBody index data u).state := by
  unfold setFanBlockBody
  split
  · exact .refl u
  · split
    · rename_i hc
      split
      · exact .refl u
      · exact State.Upholds.finish (.of_work (fun g => g.blockSet hc _ _) (u.blockSet_moves _ _))
    · exact .refl u

theorem selectPlanBody_upholds (u : State) : u.Upholds (selectPlanBody index u).state := by
  unfold selectPlanBody
  split
  · exact .refl u
  · split
    · rename_i hc
      exact State.Upholds.finish (.of_work (fun g => g.selectPlan hc _) (u.selectPlan_moves _))
    · exact .refl u

theorem returnToAutomaticBody_upholds (u : State) : u.Upholds (returnToAutomaticBody u).state := by
  unfold returnToAutomaticBody
  split
  · split
    · rename_i hl
      exact State.Upholds.finish (.of_work (fun g => g.automatic hl) (u.toAutomatic_moves.trans (State.handPlan_moves _ _)))
    · exact .refl u
  · exact .refl u

end

end Sys2Proof.Machine

/-! ## Every step upholds the books and the FIRE entries (R31, R36 to R60, R135 to R138, R174) -/

namespace Sys2Proof.Machine

section
variable {s t u w : State}

/-! ### Replies and the reply timeout -/

theorem State.Upholds.takeReply {α : Type} {address : Byte} {kind : Device → Option α} {owner : α → Option Order → State → State}
    (h : ∀ a k (u : State), u.Upholds (owner a k u)) : s.Upholds (s.takeReply address kind owner) := by
  have hend : s.Upholds s.endExchange := .modLine s _
  unfold State.takeReply
  split
  · unfold State.exchangeAnswered
    split
    · exact hend.finish
    · exact ((hend.trans (.modLine _ _)).trans (h _ _ _)).finish
  · exact .refl s

theorem State.driveReply_upholds (s : State) (n : FanId) (run speed fault : Byte) (k : Option Order) (a : Option Ability) :
    s.Upholds (s.driveReply n run speed fault k a) :=
  .of_lasting (w := true) (s.driveReply_lasting n _ _ _ _ _) (State.driveReply_moves s n _ _ _ _ _)
theorem State.extractReplied_upholds (s : State) (z : ZoneId) (position flag : Byte) : s.Upholds (s.extractReplied z position flag) :=
  .of_books (State.books_of_lasting (s.extractReplied_lasting z position flag)) fun l =>
    State.Listed.moves (w := true) ((l.of_same (t := s.storeExtract z position flag) rfl).judgeExtract z) (State.reprove_moves _)
theorem State.makeUpReplied_upholds (s : State) (z : ZoneId) (o c flag : Byte) : s.Upholds (s.makeUpReplied z o c flag) :=
  .of_books (State.books_of_lasting (s.makeUpReplied_lasting z o c flag)) fun l =>
    (l.of_same (t := s.storeMakeUp z o c flag) rfl).judgeMakeUp z

theorem State.ownerLoses_upholds (s : State) (d : Device) : s.Upholds (s.ownerLoses d) := by
  cases d with
  | head h => exact .of_moves (s.loseHead_books h) (s.loseHead_moves h)
  | drive n => exact .of_lasting (w := true) (s.loseFan_lasting n) (State.loseFan_moves s n)
  | extract z => exact .of_lasting (w := true) (s.loseExtract_lasting z) (State.loseExtract_moves s z)
  | makeUp z => exact .of_lasting (w := true) (s.loseMakeUp_lasting z) (State.loseMakeUp_moves s z)
theorem State.countTotal_upholds (s : State) (d : Device) : s.Upholds (s.countTotal d) :=
  .of_rest (s.countTotal_books d) (by cases d <;> rfl)
theorem State.requeue_upholds (s : State) (o : Option Order) : s.Upholds (s.requeue o) := by
  unfold State.requeue
  split
  · exact .refl s
  · split
    · exact .refl s
    · exact .of_lasting (w := true) (State.enqueue_lasting s _) (State.enqueue_moves s _)

theorem State.missed_upholds (s : State) (x : Exchange) : s.Upholds (s.missed x) := by
  have hend : s.Upholds s.endExchange := .modLine s _
  unfold State.missed
  split
  · exact hend
  · have hcounted : s.Upholds ((s.endExchange.countMiss x.device).countTotal x.device) :=
      (hend.trans (.modLine _ _)).trans (State.countTotal_upholds _ _)
    unfold State.judgeMiss
    split
    · exact (hcounted.trans (.modLine _ _)).trans (State.ownerLoses_upholds _ _)
    · exact hcounted.trans (State.requeue_upholds _ _)

/-! ### Expiries and the tick -/

theorem State.tripped_upholds {n : FanId} {st : FanState} (d : FanDetail) (ht : (s.fan n).timing st = true) (he : st.enrolled = true) :
    s.Upholds (s.tripFan n d).finish := by
  have hst := (Fan.timing_iff.1 ht).1
  exact (State.Upholds.of_lasting (w := true) (s.tripFan_lasting n d) (State.tripFan_moves s n d fun hs => hs.able (hst ▸ he))).finish

theorem State.restartHold_upholds {n : FanId} (ht : (s.fan n).timing .restartHold = true) : s.Upholds (s.enterReady n).finish :=
  (State.Upholds.of_lasting (w := true) (s.enterReady_lasting n) (State.enterReady_moves s n fun q =>
    q.able ((Fan.timing_iff.1 ht).1 ▸ rfl))).finish

/-- R2: no key of the list and no zone of the fire set changes with a second. -/
theorem State.second_upholds (s : State) : s.Upholds s.second := ⟨fun g => g.second, fun l => l.of_same rfl⟩

theorem State.restart_upholds (s : State) (cut : StoreCut) : s.Upholds (s.restart cut) :=
  ⟨fun g => g.restart cut, fun _ => s.restart_listed cut⟩

/-! ### Every command -/

theorem State.Upholds.of_next (e : (Host.Outcome.next w : Result) = .next t) (h : s.Upholds w) : s.Upholds t := by
  cases e; exact h
theorem State.Upholds.unlessNot {b : Bool} (h : b = true → s.Upholds t) : s.Upholds (if b then t else s) := by
  cases b with
  | false => exact .refl s
  | true => exact h rfl

theorem unknownRequest_upholds {p : Port} {code object index : Byte} {data : List Word}
    (e : execUnknownRequest p code object index data s = .next t) : s.Upholds t := by
  unfold execUnknownRequest at e
  split at e
  · cases e
  · split at e
    · exact .of_next e ((State.Upholds.frameTaken s p).trans (.modPort _ p _))
    · exact .of_next e (.modPort s p _)

theorem read_upholds (p : Port) (object index : Byte) (data : List Word) :
    s.Upholds (if s.takesFrame p data then respond p rowRead.code index (readChecks object index p data (s.frameTaken p))
      else s.discardFrame p) := by
  split
  · have hread : (s.frameTaken p).Upholds (readChecks object index p data (s.frameTaken p)).state := by
      unfold readChecks generalChecks readBody
      split
      · exact .refl _
      · split
        · exact .refl _
        · split
          · exact .refl _
          · split <;> exact .refl _
    exact ((State.Upholds.frameTaken s p).trans hread).trans (.modPort _ p _)
  · exact .modPort s p _

theorem replyTimeout_upholds (e : execReplyTimeout s = .next t) : s.Upholds t := by
  unfold execReplyTimeout at e
  split at e
  · exact .of_next e (s.missed_upholds _).finish
  · exact .of_next e (.refl s)

/-- R31, R36 to R60, R135 to R138, R174: one arm for each command. -/
theorem exec_upholds : ∀ c : Instr, exec c s = .next t → s.Upholds t
  | .ping p _ _, e => .of_next e (.serve fun _ => .withAlarms (fun h => h.rewind p) fun _ _ => rfl)
  | .read p object index data, e => .of_next e (read_upholds p object index data)
  | .readNotices p _ _, e => .of_next e (.serve fun u => .modPort u p _)
  | .ackNotices p _ _, e => .of_next e (.serve fun u => .modPort u p _)
  | .setNoticeMask p _ _, e => .of_next e (.serve fun u => .modPort u p _)
  | .endService p _ _, e => .of_next e (.serve fun u => .modPort u p _)
  | .readAlarmList p _ _, e => .of_next e (.serve fun _ => .withAlarms (fun h => h.turnPage p) fun _ _ => rfl)
  | .ackAlarm _ _ _, e => .of_next e (.serve ackAlarmBody_upholds)
  | .writeZone _ _ _, e => .of_next e (.serve writeZoneBody_upholds)
  | .writeHead _ _ _, e => .of_next e (.serve writeHeadBody_upholds)
  | .writeFan _ _ _, e => .of_next e (.serve writeFanBody_upholds)
  | .writeNormalBudget _ _ _, e => .of_next e (.serve fun u => .unlessGuarded (State.Upholds.finish
      (.of_work (fun g => g.normalWritten _) (u.normalWritten_moves _))))
  | .writePlan _ _ _, e => .of_next e (.serve writePlanBody_upholds)
  | .selectBasePlan _ _ _, e => .of_next e (.serve selectBasePlanBody_upholds)
  | .setZoneClosure _ _ _, e => .of_next e (.serve setZoneClosureBody_upholds)
  | .setBoost _ _ _, e => .of_next e (.serve setBoostBody_upholds)
  | .setFanService _ _ _, e => .of_next e (.serve setFanServiceBody_upholds)
  | .reenrolFan _ _ _, e => .of_next e (.serve reenrolFanBody_upholds)
  | .resetFan _ _ _, e => .of_next e (.serve resetFanBody_upholds)
  | .clearCounts _ _ _, e => .of_next e (.serve clearCountsBody_upholds)
  | .factoryClear _ _ _, e => .of_next e (.serve factoryClearBody_upholds)
  | .fireAlarm _ _ _, e => .of_next e (.serve fireAlarmBody_upholds)
  | .fireReset _ _ _, e => .of_next e (.serve fun u => State.Upholds.finish (.of_work (fun g => g.fireReset) u.fireReset_moves))
  | .supplyState _ _ _, e => .of_next e (.serve supplyStateBody_upholds)
  | .writePlanMap _ _ _, e => .of_next e (.serve writePlanMapBody_upholds)
  | .writeStandbyBudget _ _ _, e => .of_next e (.serve fun u => State.Upholds.finish
      (.of_work (fun g => g.standbyWritten _) (u.standbyWritten_moves _)))
  | .setPlanKind _ _ _, e => .of_next e (.serve setPlanKindBody_upholds)
  | .takeControl _ _ _, e => .of_next e (.serve fun u => .of_work (fun g => g.takeControl) u.takeControl_moves)
  | .giveControl _ _ _, e => .of_next e (.serve giveControlBody_upholds)
  | .setZoneOverride _ _ _, e => .of_next e (.serve setZoneOverrideBody_upholds)
  | .setFanBlock _ _ _, e => .of_next e (.serve setFanBlockBody_upholds)
  | .selectPlan _ _ _, e => .of_next e (.serve selectPlanBody_upholds)
  | .returnToAutomatic _ _ _, e => .of_next e (.serve returnToAutomaticBody_upholds)
  | .unknownRequest _ _ _ _ _, e => unknownRequest_upholds e
  | .requestFrameDiscarded p _, e => .of_next e (.modPort s p _)
  | .lineQuiet p, e => .of_next e (.modPort s p _)
  | .headReply _ status co no2, e => .of_next e (.takeReply fun h _ u =>
      .of_moves (u.headReplied_books h status co no2) (u.headReplied_moves h status co no2))
  | .statusReply _ _ _ _, e => .of_next e (.takeReply fun n _ u => u.driveReply_upholds n _ _ _ _ _)
  | .abilityReply _ _ _ _ _ _ _, e => .of_next e (.takeReply fun n _ u => u.driveReply_upholds n _ _ _ _ _)
  | .extractReply _ _ _, e => .of_next e (.takeReply fun z _ u => u.extractReplied_upholds z _ _)
  | .makeUpReply _ _ _ _, e => .of_next e (.takeReply fun z _ u => u.makeUpReplied_upholds z _ _ _)
  | .fieldFrameDiscarded _, e => .of_next e (.refl s)
  | .replyTimeout, e => replyTimeout_upholds e
  | .fallTimerExpiry z, e => .of_next e (.unlessNot fun _ =>
      State.Upholds.finish (.of_moves (s.fallExpired_books z) (s.fallExpired_moves z)))
  | .boostExpiry z, e => .of_next e (.unlessNot fun _ =>
      State.Upholds.finish (.of_moves (s.setBoost_books z none) (s.setBoost_moves z none)))
  | .purgeTimerExpiry, e => .of_next e (.unlessNot fun h =>
      State.Upholds.finish (.of_work (fun g => g.doReturn h) s.doReturn_moves))
  | .startLimitExpiry _, e => .of_next e (.unlessNot fun h => State.tripped_upholds .startFail h rfl)
  | .stopLimitExpiry _, e => .of_next e (.unlessNot fun h => State.tripped_upholds .stopFail h rfl)
  | .restartHoldExpiry _, e => .of_next e (.unlessNot fun h => State.restartHold_upholds h)
  | .enrolHoldExpiry n, e => .of_next e (.unlessNot fun _ =>
      State.Upholds.finish (.of_rest (State.books_of_lasting (s.enterEnrolling_lasting n)) (s.enterEnrolling_quiet n).1))
  | .graceTimerExpiry, e => .of_next e (.unlessNot fun _ =>
      State.Upholds.finish (.of_lasting (w := true) s.graceExpired_lasting (State.graceExpired_moves s)))
  | .extractTravelTimerExpiry z, e => .of_next e (.unlessNot fun _ =>
      State.Upholds.finish (.of_lasting (w := true) ((State.reprove_lasting _).trans (s.faultExtract_lasting z))
        ((State.faultExtract_moves s z).trans (State.reprove_moves _))))
  | .makeUpTravelTimerExpiry z, e => .of_next e (.unlessNot fun _ =>
      State.Upholds.finish (.of_lasting (w := true) (s.faultMakeUp_lasting z) (State.faultMakeUp_moves s z)))
  | .stageDownTimerExpiry, e => .of_next e (.unlessNot fun _ =>
      .of_lasting (w := true) s.finishExpiry_lasting (State.finishExpiry_moves s))
  | .startUpWindowEnd, e => .of_next e (.unlessNot fun _ => State.Upholds.finish (t := s.closeWindow) (.of_rest rfl rfl))
  | .silenceTimerExpiry p, e => .of_next e (.unlessNot fun _ =>
      State.Upholds.finish (.of_moves (s.linkGone_books p) (s.linkGone_moves p)))
  | .holdOffExpiry p, e => .of_next e (.unlessNot fun _ => .modPort s p _)
  | .powerOn cut, e => .of_next e (s.restart_upholds cut)
  | .resetLine cut, e => .of_next e (s.restart_upholds cut)
  | .partTimeTick, e => .of_next e s.second_upholds

theorem step_upholds (e : step s = .next t) : s.Upholds t := by
  match hq : s.pending with
  | [] =>
    rw [step_of_pending_nil hq] at e
    exact .of_next e (.refl s)
  | c :: rest =>
    rw [step_of_pending_cons hq] at e
    exact (State.Upholds.withPending s rest).trans (exec_upholds c e)

/-- Settles O34: the three invariants go through each command together. -/
theorem incidentRolesAndStoreStaySound : Obligations.IncidentRolesAndStoreStaySound := by
  unfold Obligations.IncidentRolesAndStoreStaySound
  intro s t hincident hstore hroles e
  obtain ⟨hi, hs, hr⟩ := (step_upholds e).governed ⟨hincident, hstore, hroles⟩
  exact ⟨hi, hs, hr⟩

/-- Settles O35: zones join and leave the fire set with their entries, and nothing else reaches a FIRE entry. -/
theorem fireSetStaysListed : Obligations.FireSetStaysListed := by
  unfold Obligations.FireSetStaysListed
  intro s t hsound _ hfires e
  exact ((step_upholds e).listed ⟨hsound, hfires⟩).fires

end

end Sys2Proof.Machine

/-! ## Control, layers, marks and service (R61, R63, R64, R66, R94) -/

namespace Sys2Proof.Machine

section
variable {s u v : State} {ks : List AlarmKey} {ns : List Notice} {r : Resolver} {store : Store} {p q : Port}
  {z : ZoneId} {n : FanId} {a : Option Role} {b closed : Bool} {c : FanConfig} {x : Service} {index : Byte} {w : Word}

/-! ### TAKE CONTROL (R61) -/

/-- R61: control is taken and told where it was not held. -/
theorem State.takeControl_eq (s : State) : s.takeControl = if s.resolver.control = .notInControl then
    State.raiseAll { s with resolver := { s.resolver with control := .inControl } } .overrideChanged else s := by
  unfold State.takeControl
  cases h : s.resolver.control with
  | inControl => rw [if_pos (State.controlled_of h), if_neg (by decide)]
  | notInControl =>
    rw [if_neg (by rw [State.not_controlled h]; decide), if_pos rfl]
    rfl

/-- Settles O30: a frame that no check refuses is its owner's, and the owner's work is one notice and one field. -/
theorem takeControlSetsInControl : Obligations.TakeControlSetsInControl := by
  unfold Obligations.TakeControlSetsInControl
  intro index s hd u respond
  have hserve : exec (.takeControl .override index []) s = .next (respond u.takeControl) :=
    congrArg Host.Outcome.next (serve_owned (row := rowTakeControl) hd (by decide) rfl rfl)
  rw [hserve, State.takeControl_eq, State.frameTaken_resolver]

/-! ### One entry of the resolver -/

theorem upd_eq_self_iff {α : Type} {m : Nat} (t : Vector α m) (i : Fin m) (e : α) : t = upd t i (fun _ => e) ↔ t[i.val] = e := by
  refine ⟨fun h => ?_, fun h => ?_⟩
  · have hi := upd_get_self t i fun _ => e
    rwa [← h] at hi
  · subst h
    exact (Vector.set_getElem_self i.isLt).symm

/-- R63: the resolver with the OVERRIDE layer of one zone set or removed. -/
def Resolver.withOverride (r : Resolver) (z : ZoneId) (a : Option Role) : Resolver :=
  { r with overrides := upd r.overrides z fun _ => a }
/-- R64: the resolver with the block mark of one fan set or removed. -/
def Resolver.withBlock (r : Resolver) (n : FanId) (b : Bool) : Resolver := { r with blocks := upd r.blocks n fun _ => b }
/-- R66: the resolver with the closure mark of one zone set or removed. -/
def Resolver.withClosure (r : Resolver) (z : ZoneId) (closed : Bool) : Resolver :=
  { r with closures := upd r.closures z fun _ => closed }

theorem Resolver.eq_withOverride_iff (r : Resolver) : r = r.withOverride z a ↔ r.overrides[z.val] = a := by
  rw [← upd_eq_self_iff]
  exact ⟨congrArg Resolver.overrides, fun h => by rw [Resolver.withOverride, ← h]⟩
theorem Resolver.eq_withBlock_iff (r : Resolver) : r = r.withBlock n b ↔ r.blocks[n.val] = b := by
  rw [← upd_eq_self_iff]
  exact ⟨congrArg Resolver.blocks, fun h => by rw [Resolver.withBlock, ← h]⟩
theorem Resolver.eq_withClosure_iff (r : Resolver) : r = r.withClosure z closed ↔ r.closures[z.val] = closed := by
  rw [← upd_eq_self_iff]
  exact ⟨congrArg Resolver.closures, fun h => by rw [Resolver.withClosure, ← h]⟩

/-! ### A changed layer or mark handed on (R58, R59) -/

/-- R58, R59: from s to u a request has put the layers and marks of r in the resolver and stored `store`: where they differ from
those before, the roles have been computed again and handed on. -/
structure State.LayersTaken (s u : State) (r : Resolver) (store : Store) : Prop where
  handed : s.RolesHanded u False
  lasting : u.lasting = { s.lasting with resolver := u.resolver, store := store }
  reworked : u.resolver = r.reworked u.resolver
  same : s.resolver = r → u.resolver = s.resolver
  changed : s.resolver ≠ r → u.RolesSound

/-- R58: unchanged layers leave the resolver. -/
theorem State.Prepares.layersKept (h : s.Prepares u False) (hl : u.lasting = { s.lasting with resolver := r, store := store })
    (hr : s.resolver = r) : s.LayersTaken u r store := by
  have hu : u.resolver = r := congrArg Lasting.resolver hl
  exact ⟨u.rolesHanded_refl.prepared h, by rw [hu]; exact hl, by rw [hu]; rfl, fun _ => hu.trans hr.symm, fun k => absurd hr k⟩

/-- R58, R59: changed layers have the roles computed again and handed on. -/
theorem State.Prepares.layersRecomputed (h : s.Prepares v False)
    (hl : v.lasting = { s.lasting with resolver := r, store := store }) (hr : s.resolver ≠ r) :
    s.LayersTaken v.recomputeRoles r store := by
  have hv : v.resolver = r := congrArg Lasting.resolver hl
  refine ⟨v.recomputeRoles_handed.prepared h, ?_, ?_, fun k => absurd k hr, fun _ => v.recomputeRoles_rolesSound⟩
  · rw [State.recomputeRoles_lasting, hl]
  · rw [← hv]; exact v.recomputeRoles_reworked

/-- R157: the layers taken and the roles stand at the end of the request. -/
theorem State.LayersTaken.sends (h : (s.frameTaken p).LayersTaken u r store) (o : Response) :
    (u.sends p o).lasting = { s.answered p o with resolver := (u.sends p o).resolver, store := store } ∧
    (u.sends p o).resolver = r.reworked (u.sends p o).resolver ∧
    (s.resolver = r → (u.sends p o).resolver = s.resolver) ∧ (s.resolver ≠ r → (u.sends p o).RolesSound) := by
  obtain ⟨_, hlast, hre, hsame, hch⟩ := h
  rw [State.frameTaken_resolver] at hsame hch
  refine ⟨State.sends_lasting_planned (plan := (s.frameTaken p).plan) hlast, ?_, ?_, fun k => (hch k).sends p o⟩
  · rw [State.sends_resolver]; exact hre
  · rw [State.sends_resolver]; exact hsame

/-! ### SET ZONE OVERRIDE (R63) -/

/-- R63: the layer set or removed and told, before the roles are computed again. -/
def State.overrideTold (s : State) (z : ZoneId) (a : Option Role) : State :=
  (s.modResolver fun q => q.withOverride z a).raiseAll .overrideChanged

theorem State.overrideSet_same (h : s.resolver.overrides[z.val] = a) : s.overrideSet z a = s := if_pos h
theorem State.overrideSet_changed (h : s.resolver.overrides[z.val] ≠ a) : s.overrideSet z a = (s.overrideTold z a).recomputeRoles :=
  if_neg h

theorem State.overrideTold_lasting (s : State) :
    (s.overrideTold z a).lasting = { s.lasting with resolver := s.resolver.withOverride z a } := State.raiseAll_lasting _ _
theorem State.overrideTold_prepares (s : State) : s.Prepares (s.overrideTold z a) False :=
  (s.modResolver_prepares rfl).andThen (State.raiseAll_prepares _ _)
theorem State.overrideTold_keepsRest (s : State) (h : .overrideChanged ∈ ns) : s.KeepsRest (s.overrideTold z a) ks ns :=
  ((s.modResolver_quiet _).keepsRest ks ns).trans (State.raiseAll_keepsRest _ h)

theorem State.overrideSet_taken (s : State) (z : ZoneId) (a : Option Role) :
    s.LayersTaken (s.overrideSet z a) (s.resolver.withOverride z a) s.store := by
  by_cases h : s.resolver.overrides[z.val] = a
  · have hr := s.resolver.eq_withOverride_iff.2 h
    rw [State.overrideSet_same h]
    exact s.prepares_refl.layersKept (by rw [← hr]; rfl) hr
  · rw [State.overrideSet_changed h]
    exact s.overrideTold_prepares.layersRecomputed s.overrideTold_lasting (mt s.resolver.eq_withOverride_iff.1 h)
theorem State.overrideSet_keepsRest (s : State) (z : ZoneId) (a : Option Role) :
    s.KeepsRest (s.overrideSet z a) fanFaults [.overrideChanged] := by
  by_cases h : s.resolver.overrides[z.val] = a
  · rw [State.overrideSet_same h]; exact (State.Quiet.refl s).keepsRest _ _
  · rw [State.overrideSet_changed h]
    exact (s.overrideTold_keepsRest (by decide)).trans (State.recomputeRoles_keepsRest _ mem_fanFaults)
theorem State.overrideSet_noticed (h : s.resolver.overrides[z.val] ≠ a) : (s.overrideSet z a).noticedByAll .overrideChanged := by
  rw [State.overrideSet_changed h]
  exact fun q => (State.recomputeRoles_moves _).keepsNotices _ _ (State.raiseAll_noticedByAll _ _ q)

theorem exec_setZoneOverride (hd : (s.port .override).decoder = .waiting) (hc : s.resolver.control = .inControl)
    (hz : zoneOf index = some z) (ha : roleOf w = some a) : exec (.setZoneOverride .override index [w]) s =
      .next (((s.frameTaken .override).overrideSet z a).sends .override ⟨.done, 0x32, index, []⟩) := by
  have hcontrol : (s.frameTaken .override).controlled = true := by simpa using State.controlled_of hc
  have hw : roleOf (dataWord [w] 0) = some a := ha
  have hbody : setZoneOverrideBody index [w] (s.frameTaken .override) =
      doneNow ((s.frameTaken .override).overrideSet z a).finish := by
    simp only [setZoneOverrideBody, hz, hcontrol, if_true, hw]
  exact serve_accepted (row := rowSetZoneOverride) hd rfl (by decide) rfl hbody

/-! ### SET FAN BLOCK (R64) -/

/-- R64: the mark set or removed and told, with the trigger of its change. -/
def State.blockTold (s : State) (n : FanId) (b : Bool) : State :=
  ((s.modResolver fun q => q.withBlock n b).raiseAll .overrideChanged).trigger

theorem State.blockSet_same (h : s.resolver.blocks[n.val] = b) : s.blockSet n b = s := if_pos h
theorem State.blockSet_changed (h : s.resolver.blocks[n.val] ≠ b) : s.blockSet n b = s.blockTold n b := if_neg h

theorem State.blockTold_keepsRest (s : State) (h : .overrideChanged ∈ ns) : s.KeepsRest (s.blockTold n b) ks ns :=
  (((s.modResolver_quiet _).keepsRest ks ns).trans (State.raiseAll_keepsRest _ h)).trans ((State.trigger_quiet _).keepsRest ks ns)

theorem State.blockSet_lasting (s : State) (n : FanId) (b : Bool) :
    (s.blockSet n b).lasting = { s.lasting with resolver := s.resolver.withBlock n b } := by
  by_cases h : s.resolver.blocks[n.val] = b
  · rw [State.blockSet_same h, ← s.resolver.eq_withBlock_iff.2 h]; rfl
  · rw [State.blockSet_changed h]; rfl
theorem State.blockSet_beside (s : State) (n : FanId) (b : Bool) :
    (s.blockSet n b).plant = s.plant ∧ (s.blockSet n b).fans = s.fans ∧ (s.blockSet n b).line = s.line := by
  unfold State.blockSet
  split <;> exact ⟨rfl, rfl, rfl⟩
theorem State.blockSet_keepsRest (s : State) (n : FanId) (b : Bool) : s.KeepsRest (s.blockSet n b) [] [.overrideChanged] := by
  by_cases h : s.resolver.blocks[n.val] = b
  · rw [State.blockSet_same h]; exact (State.Quiet.refl s).keepsRest _ _
  · rw [State.blockSet_changed h]
    exact s.blockTold_keepsRest List.mem_cons_self
/-- R64, R91: a changed mark triggers a pass and is told. -/
theorem State.blockSet_told (h : s.resolver.blocks[n.val] ≠ b) :
    (s.blockSet n b).alloc = { s.alloc with due := true } ∧ (s.blockSet n b).noticedByAll .overrideChanged := by
  rw [State.blockSet_changed h]
  exact ⟨rfl, (s.modResolver fun q => q.withBlock n b).raiseAll_noticedByAll _⟩

theorem exec_setFanBlock (hd : (s.port .override).decoder = .waiting) (hc : s.resolver.control = .inControl)
    (hn : fanOf index = some n) (hb : blockOf w = some b) : exec (.setFanBlock .override index [w]) s =
      .next (((s.frameTaken .override).blockSet n b).sends .override ⟨.done, 0x33, index, []⟩) := by
  have hcontrol : (s.frameTaken .override).controlled = true := by simpa using State.controlled_of hc
  have hw : blockOf (dataWord [w] 0) = some b := hb
  have hbody : setFanBlockBody index [w] (s.frameTaken .override) = doneNow ((s.frameTaken .override).blockSet n b).finish := by
    simp only [setFanBlockBody, hn, hcontrol, if_true, hw]
  exact serve_accepted (row := rowSetFanBlock) hd rfl (by decide) rfl hbody

/-- Settles O32: an unchanged layer or mark leaves the part, a changed layer has the roles handed on and a changed mark triggers. -/
theorem overrideAndBlockAreSet : Obligations.OverrideAndBlockAreSet := by
  unfold Obligations.OverrideAndBlockAreSet
  intro index w s hd hc v
  have hresolver : v.resolver = s.resolver := State.frameTaken_resolver ..
  refine ⟨fun z a hz ha => ?override, fun n b hn hb => ?block⟩
  case override =>
    intro r
    have htaken := v.overrideSet_taken z a
    obtain ⟨hlast, hre, _, hsound⟩ := htaken.sends r
    rw [hresolver] at hre hsound
    refine ⟨_, _, exec_setZoneOverride hd hc hz ha, rfl, htaken.handed, v.overrideSet_keepsRest z a, hlast, hre, fun h => ?_,
      fun h => ⟨hsound (mt s.resolver.eq_withOverride_iff.1 h), ?_⟩⟩
    · exact State.overrideSet_same (by rw [hresolver]; exact h)
    · exact State.sends_noticedByAll (State.overrideSet_noticed (by rw [hresolver]; exact h)) _ _
  case block =>
    intro r
    have hlast : (v.blockSet n b).lasting = { v.lasting with resolver := s.resolver.withBlock n b } := by
      rw [v.blockSet_lasting, hresolver]
    obtain ⟨hplant, hfans, hline⟩ := v.blockSet_beside n b
    refine ⟨_, _, exec_setFanBlock hd hc hn hb, rfl, ?_, v.blockSet_keepsRest n b, hplant.trans (State.frameTaken_plant ..),
      hfans.trans (State.frameTaken_fans ..), hline.trans (State.frameTaken_line ..), fun h => ?_, fun h => ?_⟩
    · rw [State.sends_lasting, hlast]; rfl
    · exact State.blockSet_same (by rw [hresolver]; exact h)
    · obtain ⟨halloc, hnoticed⟩ := State.blockSet_told (s := v) (n := n) (b := b) (by rw [hresolver]; exact h)
      exact ⟨by rw [halloc, State.frameTaken_alloc], State.sends_noticedByAll hnoticed _ _⟩

/-! ### SET ZONE CLOSURE (R66) -/

/-- R66: group 6 with one closure mark replaced. -/
def Store.withClosure (t : Store) (z : ZoneId) (closed : Bool) : Store :=
  { t with base := sealWith baseImage (t.base.contents.withClosure z closed) }

/-- R66: the mark stored and told, before the roles are computed again. -/
def State.closureStored (s : State) (z : ZoneId) (closed : Bool) : State := (s.commitClosure z closed).configChanged .building

theorem State.closureSet_eq (s : State) (z : ZoneId) (closed : Bool) : s.closureSet z closed =
    if s.resolver.closures[z.val] = closed then s.closureStored z closed else (s.closureStored z closed).recomputeRoles := rfl

theorem State.closureStored_lasting (s : State) : (s.closureStored z closed).lasting =
    { s.lasting with resolver := s.resolver.withClosure z closed, store := s.store.withClosure z closed } :=
  State.raiseOthers_lasting ..
theorem State.closureStored_prepares (s : State) : s.Prepares (s.closureStored z closed) False :=
  have h : s.Prepares (s.commitClosure z closed) False := .of_same rfl rfl rfl rfl rfl fun h => h.clear _ _
  h.andThen (State.configChanged_prepares _ _)
theorem State.closureStored_keepsRest (s : State) (hk : .storeFault 5 ∈ ks) (hn : .configChanged ∈ ns) :
    s.KeepsRest (s.closureStored z closed) ks ns := by
  have h : s.Quiet { s with resolver := s.resolver.withClosure z closed, store := s.store.withClosure z closed } := ⟨rfl, rfl⟩
  exact ((h.keepsRest ks ns).trans (State.clearAlarm_keepsRest _ hk)).trans (State.configChanged_keepsRest _ _ hn)
theorem State.closureStored_hasActive (h : s.alarms.Sound) : (s.closureStored z closed).alarms.hasActive (.storeFault 5) = false := by
  have ha : (s.closureStored z closed).alarms = s.alarms.clear (.storeFault 5) s.partTime := State.raiseOthers_alarms ..
  rw [ha]; exact h.clear_hasActive _ _

theorem State.closureSet_taken (s : State) (z : ZoneId) (closed : Bool) :
    s.LayersTaken (s.closureSet z closed) (s.resolver.withClosure z closed) (s.store.withClosure z closed) := by
  rw [State.closureSet_eq]
  split
  · rename_i h
    exact s.closureStored_prepares.layersKept s.closureStored_lasting (s.resolver.eq_withClosure_iff.2 h)
  · rename_i h
    exact s.closureStored_prepares.layersRecomputed s.closureStored_lasting (mt s.resolver.eq_withClosure_iff.1 h)
theorem State.closureSet_keepsRest (s : State) (z : ZoneId) (closed : Bool) :
    s.KeepsRest (s.closureSet z closed) (.storeFault 5 :: fanFaults) [.configChanged] := by
  have h : s.KeepsRest (s.closureStored z closed) (.storeFault 5 :: fanFaults) [.configChanged] :=
    s.closureStored_keepsRest List.mem_cons_self (by decide)
  rw [State.closureSet_eq]
  split
  · exact h
  · exact h.trans (State.recomputeRoles_keepsRest _ fun n => List.mem_cons_of_mem _ (mem_fanFaults n))
/-- R7, R176: the entry of group 6 and the notices stand through the recomputation. -/
theorem State.closureSet_told (s : State) (z : ZoneId) (closed : Bool) :
    (s.alarms.Sound → (s.closureSet z closed).alarms.hasActive (.storeFault 5) = false) ∧
    ∀ q, q ≠ .building → (s.closureSet z closed).noticed .configChanged q := by
  have hn : ∀ q, q ≠ .building → (s.closureStored z closed).noticed .configChanged q := fun _ => State.raiseOthers_noticed _ _
  rw [State.closureSet_eq]
  split
  · exact ⟨State.closureStored_hasActive, hn⟩
  · refine ⟨fun hs => ?_, fun q hq => (State.recomputeRoles_moves _).keepsNotices _ _ (hn q hq)⟩
    rw [(State.recomputeRoles_fanWork _).active _ fun _ _ => by simp]
    exact State.closureStored_hasActive hs

theorem exec_setZoneClosure (hd : (s.port .building).decoder = .waiting) (hl : s.plan.level = .none)
    (hz : zoneOf index = some z) (hc : closureOf w = some closed) : exec (.setZoneClosure .building index [w]) s =
      .next (((s.frameTaken .building).closureSet z closed).sends .building ⟨.done, 0x16, index, []⟩) := by
  have hi : (s.frameTaken .building).incident = false := by simpa using State.not_incident hl
  have hw : closureOf (dataWord [w] 0) = some closed := hc
  have hbody : setZoneClosureBody index [w] (s.frameTaken .building) =
      doneNow ((s.frameTaken .building).closureSet z closed).finish := by
    simp only [setZoneClosureBody, hz, unlessGuarded_of_quiet hi, hw]
  exact serve_accepted (row := rowSetZoneClosure) hd rfl (by decide) rfl hbody

/-! ### SET FAN SERVICE (R94) -/

/-- R75, R94: a fan's record stored and told. -/
def State.fanStored (s : State) (n : FanId) (c : FanConfig) : State := (s.commitFan n c).configChanged .building

theorem State.serviceSet_eq (s : State) (n : FanId) (x : Service) : s.serviceSet n x =
    (s.fanStored n { (s.fan n).config with service := x }).triggerIf (x != (s.fan n).config.service) := rfl

/-- The records of the fans after the change of one. -/
theorem map_config_upd (t : Vector Fan 8) (n : FanId) (c : FanConfig) :
    (upd t n fun q => { q with config := c }).map Fan.config = upd (t.map Fan.config) n fun _ => c := by
  refine Vector.ext fun j hj => ?_
  have h1 := upd_get t n ⟨j, hj⟩ fun q => { q with config := c }
  have h2 := upd_get (t.map Fan.config) n ⟨j, hj⟩ fun _ => c
  simp only at h1 h2
  rw [Vector.getElem_map, h1, h2]
  split
  · rfl
  · exact (Vector.getElem_map ..).symm

theorem State.fanStored_lasting (s : State) : (s.fanStored n c).lasting = { s.lasting with
    fanConfigs := upd (s.fans.map Fan.config) n fun _ => c
    store := { s.store with fans := sealWith fansImage (upd s.store.fans.contents n fun _ => c) } } := by
  rw [← map_config_upd]
  exact State.raiseOthers_lasting ..
theorem State.fanStored_beside (s : State) : (s.fanStored n c).plant = s.plant ∧ (s.fanStored n c).line = s.line ∧
    (s.fanStored n c).fans = upd s.fans n (fun q => { q with config := c }) ∧ (s.fanStored n c).alloc = s.alloc :=
  ⟨rfl, rfl, rfl, rfl⟩
theorem State.fanStored_keepsRest (s : State) (hk : .storeFault 2 ∈ ks) (hn : .configChanged ∈ ns) :
    s.KeepsRest (s.fanStored n c) ks ns := by
  have h : s.Quiet { s.modFan n (fun q => { q with config := c }) with
      store := { s.store with fans := sealWith fansImage (upd s.store.fans.contents n fun _ => c) } } := ⟨rfl, rfl⟩
  exact ((h.keepsRest ks ns).trans (State.clearAlarm_keepsRest _ hk)).trans (State.configChanged_keepsRest _ _ hn)
theorem State.fanStored_hasActive (h : s.alarms.Sound) : (s.fanStored n c).alarms.hasActive (.storeFault 2) = false := by
  have ha : (s.fanStored n c).alarms = s.alarms.clear (.storeFault 2) s.partTime := State.raiseOthers_alarms ..
  rw [ha]; exact h.clear_hasActive _ _
theorem State.fanStored_noticed (s : State) (hq : q ≠ .building) : (s.fanStored n c).noticed .configChanged q :=
  State.raiseOthers_noticed _ _ hq

/-- R94: what SET FAN SERVICE leaves before its passes, on every block but the trigger that of the stored record. -/
theorem State.serviceSet_beside (s : State) (n : FanId) (x : Service) :
    (s.serviceSet n x).plant = s.plant ∧ (s.serviceSet n x).line = s.line ∧
    (s.serviceSet n x).fans = upd s.fans n (fun q => { q with config := { (s.fan n).config with service := x } }) ∧
    (s.serviceSet n x).alloc = { s.alloc with due := s.alloc.due || x != (s.fan n).config.service } := by
  obtain ⟨hplant, hline, hfans, halloc⟩ := s.fanStored_beside (n := n) (c := { (s.fan n).config with service := x })
  rw [State.serviceSet_eq, State.triggerIf_eq]
  exact ⟨hplant, hline, hfans, by rw [halloc]⟩

theorem State.serviceSet_lasting (s : State) (n : FanId) (x : Service) :
    let c := { (s.fan n).config with service := x }
    (s.serviceSet n x).lasting = { s.lasting with
      fanConfigs := upd (s.fans.map Fan.config) n fun _ => c
      store := { s.store with fans := sealWith fansImage (upd s.store.fans.contents n fun _ => c) } } :=
  (State.triggerIf_lasting _ _).trans s.fanStored_lasting
theorem State.serviceSet_keepsRest (s : State) (n : FanId) (x : Service) :
    s.KeepsRest (s.serviceSet n x) [.storeFault 2] [.configChanged] :=
  (s.fanStored_keepsRest List.mem_cons_self List.mem_cons_self).trans ((State.triggerIf_quiet _ _).keepsRest _ _)
/-- R7, R176: the entry of group 3 is cleared and the write is told. -/
theorem State.serviceSet_told (s : State) (n : FanId) (x : Service) :
    (s.alarms.Sound → (s.serviceSet n x).alarms.hasActive (.storeFault 2) = false) ∧
    ∀ q, q ≠ .building → (s.serviceSet n x).noticed .configChanged q := by
  refine ⟨fun hs => ?_, fun q hq => (State.triggerIf_moves (w := true) _ _).keepsNotices _ _ (s.fanStored_noticed hq)⟩
  rw [State.serviceSet_eq, State.triggerIf_alarms]
  exact State.fanStored_hasActive hs

theorem exec_setFanService (hd : (s.port .building).decoder = .waiting) (hl : s.plan.level = .none)
    (hn : fanOf index = some n) (hx : serviceOf w = some x) : exec (.setFanService .building index [w]) s =
      .next (((s.frameTaken .building).serviceSet n x).sends .building ⟨.done, 0x18, index, []⟩) := by
  have hi : (s.frameTaken .building).incident = false := by simpa using State.not_incident hl
  have hw : serviceOf (dataWord [w] 0) = some x := hx
  have hbody : setFanServiceBody index [w] (s.frameTaken .building) =
      doneNow ((s.frameTaken .building).serviceSet n x).finish := by
    simp only [setFanServiceBody, hn, unlessGuarded_of_quiet hi, hw]
  exact serve_accepted (row := rowSetFanService) hd rfl (by decide) rfl hbody

/-- Settles O22: each record is stored and told, then a changed closure has the roles handed on and a changed service triggers. -/
theorem closureAndServiceAreStored : Obligations.ClosureAndServiceAreStored := by
  unfold Obligations.ClosureAndServiceAreStored
  intro index w s hd hl
  refine ⟨fun z closed hz hc => ?closure, fun n x hn hx => ?service⟩
  case closure =>
    intro r
    have htaken := (s.frameTaken .building).closureSet_taken z closed
    rw [State.frameTaken_store] at htaken
    obtain ⟨hlast, hre, hsame, hsound⟩ := htaken.sends r
    rw [State.frameTaken_resolver] at hre hsame hsound
    obtain ⟨hfault, hnoticed⟩ := (s.frameTaken .building).closureSet_told z closed
    refine ⟨_, _, exec_setZoneClosure hd hl hz hc, rfl, htaken.handed, State.closureSet_keepsRest _ z closed, hlast, hre,
      fun h => hsame (s.resolver.eq_withClosure_iff.2 h), fun h => hsound (mt s.resolver.eq_withClosure_iff.1 h), fun hs => ?_,
      State.sends_noticed _ _ _ _ (hnoticed .alarm (by decide)), State.sends_noticed _ _ _ _ (hnoticed .override (by decide))⟩
    rw [State.sends_hasActive _ _ _ rfl]; exact hfault (State.frameTaken_alarms_sound hs)
  case service =>
    intro c r
    have hlast := (s.frameTaken .building).serviceSet_lasting n x
    rw [State.frameTaken_fan, State.frameTaken_fans, State.frameTaken_store] at hlast
    obtain ⟨hfault, hnoticed⟩ := (s.frameTaken .building).serviceSet_told n x
    obtain ⟨hplant, hline, hfans, halloc⟩ := (s.frameTaken .building).serviceSet_beside n x
    rw [State.frameTaken_plant] at hplant
    rw [State.frameTaken_line] at hline
    rw [State.frameTaken_fans, State.frameTaken_fan] at hfans
    rw [State.frameTaken_alloc, State.frameTaken_fan] at halloc
    refine ⟨_, _, exec_setFanService hd hl hn hx, rfl, State.serviceSet_keepsRest _ n x, hplant, hline, hfans, halloc, ?_,
      fun hs => ?_, State.sends_noticed _ _ _ _ (hnoticed .alarm (by decide)),
      State.sends_noticed _ _ _ _ (hnoticed .override (by decide))⟩
    · rw [State.sends_lasting, hlast]; rfl
    · rw [State.sends_hasActive _ _ _ rfl]; exact hfault (State.frameTaken_alarms_sound hs)

end

end Sys2Proof.Machine

/-! ## What the rest of the sequencer's work leaves of the line, the allocator and the alarm list (R77 to R90) -/

namespace Sys2Proof.Machine

section
variable {s t u : State} {n m : FanId} {P : FanId → Prop} {r : DriveReport}

/-! ### One fan -/

variable (s) (n)

theorem State.raiseAlarm_fanWork (d : Option FanDetail) : s.FanWork (s.raiseAlarm (.fanFault n) d) (· = n) := by
  have ha : ∀ k, (∀ m, m = n → k ≠ .fanFault m) → (s.raiseAlarm (.fanFault n) d).alarms.hasActive k = s.alarms.hasActive k := by
    intro k hk
    rw [State.raiseAlarm_alarms]
    exact AlarmList.raise_hasActive_other (hk n rfl) (.inl rfl) _ _
  have hs : s.alarms.Sound → (s.raiseAlarm (.fanFault n) d).alarms.Sound := by
    rw [State.raiseAlarm_alarms]
    exact fun h => h.raise _ _ _
  refine ⟨?_, fun _ _ => ?_, ?_, ?_, ha, hs⟩
  · rw [State.raiseAlarm_line]
  · rw [State.raiseAlarm_line]
  · rw [State.raiseAlarm_alloc]
  · rw [State.raiseAlarm_alloc]; exact id
theorem State.raiseAll_fanWork (x : Notice) : s.FanWork (s.raiseAll x) P := .of_same rfl rfl rfl

theorem State.queueStop_fanWork : s.FanWork (s.queueStop n) (· = n) := (s.modFan_fanWork n _).trans (State.enqueue_fanWork _ n rfl)
theorem State.stopFan_fanWork : s.FanWork (s.stopFan n) (· = n) := (s.queueStop_fanWork n).trans (State.enterState_fanWork _ n _ _)
theorem State.enterEnrolHold_fanWork : s.FanWork (s.enterEnrolHold n) P := s.enterState_fanWork n _ _
theorem State.tripFan_fanWork (d : FanDetail) : s.FanWork (s.tripFan n d) (· = n) :=
  ((((s.modFan_fanWork n _).trans (State.enterState_fanWork _ n _ _)).trans (State.queueStop_fanWork _ n)).trans
    (State.raiseAlarm_fanWork _ n _)).trans (State.raiseAll_fanWork _ _)
theorem State.loseFan_fanWork : s.FanWork (s.loseFan n) (· = n) := by
  unfold State.loseFan
  split
  · exact .refl s _
  · exact (((s.modFan_fanWork n _).trans (State.enterState_fanWork _ n _ _)).trans (State.raiseAlarm_fanWork _ n _)).trans
      (State.raiseAll_fanWork _ _)
theorem State.enterEnrolling_fanWork : s.FanWork (s.enterEnrolling n) (· = n) :=
  ((s.modFan_fanWork n _).trans (State.enterState_fanWork _ n _ _)).trans (State.enqueue_fanWork _ n rfl)
theorem State.graceStop_fanWork : s.FanWork (s.graceStop n) (· = n) := by
  unfold State.graceStop
  split
  · exact (s.queueStop_fanWork n).trans (State.modFan_fanWork _ n _)
  · exact .refl s _
theorem State.graceExpired_fanWork : s.FanWork s.graceExpired fun _ => True :=
  (State.FanWork.of_same (s := s) (u := { s with grace := none }) rfl rfl rfl).trans (State.eachFan_fanWork _ State.graceStop_fanWork)

/-! ### A drive's reply -/

theorem State.completeEnrolment_fanWork (a : Ability) (r : DriveReport) : s.FanWork (s.completeEnrolment n a r) (· = n) := by
  have h : s.FanWork (s.modFan n fun f => f.resolve a).trigger (· = n) := (s.modFan_fanWork n _).trans (State.trigger_fanWork _)
  unfold State.completeEnrolment
  simp only
  split
  · exact h.trans (State.tripFan_fanWork _ n _)
  · split
    · exact h.trans (State.enterReady_fanWork _ n)
    · exact h.trans (State.stopFan_fanWork _ n)
theorem State.plainAnswer_fanWork (r : DriveReport) : s.FanWork (s.plainAnswer n r) (· = n) := by
  unfold State.plainAnswer
  simp only
  split
  · exact (s.modFan_fanWork n _).trans (State.enqueue_fanWork _ n rfl)
  · exact (s.modFan_fanWork n _).trans (State.completeEnrolment_fanWork _ n _ _)
theorem State.enrollingReply_fanWork (r : DriveReport) (k : Option Order) (a : Option Ability) :
    s.FanWork (s.enrollingReply n r k a) (· = n) := by
  unfold State.enrollingReply
  split
  · exact s.completeEnrolment_fanWork n _ r
  · split
    · exact s.plainAnswer_fanWork n r
    · exact .refl s _
theorem State.restFan_fanWork : s.FanWork (s.restFan n) (· = n) := by
  unfold State.restFan
  simp only
  split
  · exact (s.enterState_fanWork n _ _).trans (State.enterReady_fanWork _ n)
  · exact s.enterState_fanWork n _ _
theorem State.fanStopped_fanWork : s.FanWork (s.fanStopped n) (· = n) := by
  unfold State.fanStopped
  split
  · exact (s.modFan_fanWork n _).trans (State.enterEnrolHold_fanWork _ n)
  · split
    · exact s.restFan_fanWork n
    · exact s.enterReady_fanWork n
theorem State.commandOff_fanWork (r : DriveReport) : s.FanWork (s.commandOff n r) (· = n) := by
  unfold State.commandOff
  split
  · exact s.queueStop_fanWork n
  · exact .refl s _
theorem State.unlessFault_fanWork (h : s.FanWork t (· = n)) : s.FanWork (s.unlessFault n r t) (· = n) := by
  unfold State.unlessFault
  split
  · exact s.tripFan_fanWork n _
  · exact h
theorem State.reportTaken_fanWork (r : DriveReport) (k : Option Order) (a : Option Ability) :
    s.FanWork (s.reportTaken n r k a) (· = n) := by
  unfold State.reportTaken
  split
  · exact .refl s _
  · exact s.enrollingReply_fanWork n r k a
  · split
    · exact .refl s _
    · exact s.commandOff_fanWork n r
  · exact s.unlessFault_fanWork n (s.commandOff_fanWork n r)
  · exact s.unlessFault_fanWork n (s.commandOff_fanWork n r)
  · refine s.unlessFault_fanWork n ?_
    unfold State.startingReply
    split
    · exact s.enterState_fanWork n _ _
    · exact .refl s _
  · refine s.unlessFault_fanWork n ?_
    unfold State.runningReply
    split
    · exact s.tripFan_fanWork n _
    · exact .refl s _
  · refine s.unlessFault_fanWork n ?_
    split
    · exact s.fanStopped_fanWork n
    · exact .refl s _
  · exact .refl s _
  · exact s.enterEnrolling_fanWork n
theorem State.driveReply_fanWork (run speed fault : Byte) (k : Option Order) (a : Option Ability) :
    s.FanWork (s.driveReply n run speed fault k a) (· = n) := (s.modFan_fanWork n _).trans (State.reportTaken_fanWork _ n _ _ _)

/-! ### The taking of a record -/

theorem State.calledFor_fanWork : s.FanWork (s.calledFor n) (· = n) := by
  unfold State.calledFor
  split
  · exact (s.modFan_fanWork n _).trans (State.startIfAllowed_fanWork _ n)
  · simp only
    split
    · exact (s.modFan_fanWork n _).trans (State.enterReady_fanWork _ n)
    · exact s.modFan_fanWork n _
  · split
    · exact s.queueRun_fanWork n
    · exact .refl s _
  · split
    · exact s.queueRun_fanWork n
    · exact .refl s _
  · exact .refl s _
theorem State.notCalledFor_fanWork : s.FanWork (s.notCalledFor n) (· = n) := by
  unfold State.notCalledFor
  split
  · exact s.modFan_fanWork n _
  · exact s.modFan_fanWork n _
  · exact s.modFan_fanWork n _
  · exact s.stopFan_fanWork n
  · exact s.stopFan_fanWork n
  · exact .refl s _
theorem State.fanTakes_fanWork : s.FanWork (s.fanTakes n) (· = n) := by
  unfold State.fanTakes
  split
  · exact s.calledFor_fanWork n
  · exact s.notCalledFor_fanWork n
theorem State.turnDuty_fanWork (old : AllocRecord) : s.FanWork (s.turnDuty old) P := by
  unfold State.turnDuty
  split
  · exact .of_same rfl rfl rfl
  · exact .refl s _
theorem State.takeRunSet_fanWork (old : AllocRecord) : s.FanWork (s.takeRunSet old) fun _ => True :=
  (s.eachFan_fanWork State.fanTakes_fanWork).trans (State.turnDuty_fanWork _ old)

end

end Sys2Proof.Machine

/-! ## The handover of a pass in its parts (R99, R104, R131) -/

namespace Sys2Proof.Machine

section
variable (s : State)

/-- R99, R104: every damper takes the commands of the record; the path is not judged yet. -/
def State.dampersTake : State := (s.eachZone State.extractTakes).eachZone State.makeUpTakes


theorem State.extractTakes_starting (z : ZoneId) : s.Starting (s.extractTakes z) := by
  unfold State.extractTakes
  split
  · exact s.commandExtract_starting z _
  · exact .refl s
theorem State.makeUpTakes_starting (z : ZoneId) : s.Starting (s.makeUpTakes z) := by
  unfold State.makeUpTakes
  split
  · exact s.commandMakeUp_starting z _
  · exact .refl s
theorem State.dampersTake_starting : s.Starting s.dampersTake :=
  foldl_keeps (P := s.Starting) (fun q z h => h.trans (q.makeUpTakes_starting z)) _ _
    (foldl_keeps (P := s.Starting) (fun q z h => h.trans (q.extractTakes_starting z)) _ s (.refl s))

/-- R131: the state between the record and its handover. -/
def State.recorded (b : Bool) : State := s.putRecord (s.newRecord b) (s.newStageDown b)

theorem State.pass_eq (b : Bool) : s.pass b = ((s.recorded b).dampersTake.reprove).takeRunSet s.alloc.record := rfl

theorem State.recorded_line (b : Bool) : (s.recorded b).line = s.line := by
  unfold State.recorded State.putRecord
  simp only
  split <;> rfl

/-- Of the line the queue alone has changed. -/
def State.QueueOnly (s t : State) : Prop := { t.line with queue := s.line.queue } = s.line

theorem State.QueueOnly.trans {s t u : State} (h : s.QueueOnly t) (k : t.QueueOnly u) : s.QueueOnly u := by
  unfold State.QueueOnly at h k ⊢
  rw [← h, ← k]
theorem State.QueueOnly.inFlight {s t : State} (h : s.QueueOnly t) : t.line.inFlight = s.line.inFlight := by
  have hl := congrArg FieldLine.inFlight h
  exact hl
theorem State.QueueOnly.of_line {s t : State} (h : t.line = s.line) : s.QueueOnly t := by
  unfold State.QueueOnly
  rw [h]
theorem State.FanWork.queueOnly {s t : State} {P : FanId → Prop} (h : s.FanWork t P) : s.QueueOnly t := h.line
theorem State.Starting.queueOnly {s t : State} (h : s.Starting t) : s.QueueOnly t := h.line

/-- R131: of the line a pass changes the queue alone. -/
theorem State.pass_queueOnly (b : Bool) : s.QueueOnly (s.pass b) := by
  rw [State.pass_eq]
  exact ((State.QueueOnly.of_line (s.recorded_line b)).trans (s.recorded b).dampersTake_starting.queueOnly).trans
    ((s.recorded b).dampersTake.reprove_fanWork.trans (State.takeRunSet_fanWork _ _)).queueOnly
theorem State.pass_inFlight (b : Bool) : (s.pass b).line.inFlight = s.line.inFlight := (s.pass_queueOnly b).inFlight
theorem State.chain_inFlight (k : Nat) : (s.chain k).line.inFlight = s.line.inFlight := by
  induction k generalizing s with
  | zero => rfl
  | succ k ih =>
    unfold State.chain
    split
    · exact (ih _).trans (s.pass_inFlight false)
    · rfl
theorem State.settle_inFlight : s.settle.line.inFlight = s.line.inFlight := s.chain_inFlight _

end

end Sys2Proof.Machine

/-! ## What a step owes the sequencer, the line and the dampers (R74 to R81, R97 to R109, R146 to R153) -/

namespace Sys2Proof.Machine

section
variable {s t u v : State} {n : FanId} {w : Bool} {P : FanId → Prop}

/-- R74, R76, R92, R111: the duty list and the fan records are sound. -/
def State.Sequenced (s : State) : Prop := s.DutySound ∧ s.FansSound

/-- R97 to R109, R146 to R153: the dampers are sound, and the line but for its idle law. -/
def State.Outfit (s : State) : Prop := s.LineFit ∧ s.DampersSound

/-- R80: an exchange in flight in t was in flight in s. -/
def State.SameFlight (s t : State) : Prop :=
  ∀ x, t.line.inFlight = some x → ∃ y, s.line.inFlight = some y ∧ y.device = x.device ∧ y.order = x.order

/-- From s to t the work of a command before its passes keeps the sequencer, the line and the dampers sound, and sends nothing. -/
structure State.Upkeep (s t : State) : Prop where
  sequenced : s.Sequenced → t.Sequenced
  outfit : s.Outfit → t.Outfit
  flight : s.SameFlight t

/-- From s to t a command is served: the sequencer, the line and the dampers are sound again, and no OFFER is newly sent to a fan in
ENROL_HOLD. -/
structure State.Serviced (s t : State) : Prop where
  sequenced : s.Sequenced → t.Sequenced
  plant : s.LineSound → s.DampersSound → t.LineSound ∧ t.DampersSound
  offers : ∀ n x, (t.fan n).state = .enrolHold → t.line.inFlight = some x → x.order = some (.offer n) →
    ∃ y, s.line.inFlight = some y ∧ y.device = x.device ∧ y.order = x.order

/-! ### The dampers in three laws -/

/-- R100, R102, R108, R109: the laws of the dampers are those of the timers, the path and the indications. -/
theorem State.dampersSound_iff : s.DampersSound ↔ s.Timed ∧ s.PathSound ∧ s.Indicated := by
  constructor
  · rintro ⟨hextract, hmakeUp, hpath, hshown⟩
    exact ⟨⟨hextract, hmakeUp⟩, hpath, fun z => (hshown z).trans (indicationOf_eq _ _ _).symm⟩
  · rintro ⟨⟨hextract, hmakeUp⟩, hpath, hshown⟩
    exact ⟨hextract, hmakeUp, hpath, fun z => (hshown z).trans (indicationOf_eq _ _ _)⟩

/-- The dampers are judged from their records, the path, the indications, the roles and the fitted zones. -/
theorem State.DampersSound.congr (h : s.DampersSound) (he : t.extract = s.extract) (hm : t.makeUp = s.makeUp)
    (hp : t.pathProven = s.pathProven) (hi : t.indications = s.indications) (hr : t.resolver.roles = s.resolver.roles)
    (hz : ∀ z, (t.zone z).config.fitted = (s.zone z).config.fitted) : t.DampersSound := by
  obtain ⟨⟨hextract, hmakeUp⟩, hpath, hshown⟩ := State.dampersSound_iff.1 h
  refine State.dampersSound_iff.2 ⟨⟨fun z => ?_, fun z => ?_⟩, hpath.congr hp he hz, fun z => ?_⟩
  · simpa only [State.extractOf, he, hz] using hextract z
  · simpa only [State.makeUpOf, hm, hz] using hmakeUp z
  · simpa only [State.extractOf, State.makeUpOf, State.role, he, hm, hi, hr] using hshown z

theorem State.SamePath.dampersSound (h : s.SamePath t) (hs : s.DampersSound) : t.DampersSound :=
  hs.congr h.extract h.makeUp h.pathProven h.indications (by rw [resolver_of_lasting h.lasting]) fun z => by rw [h.zone]

/-! ### Chains of work -/

theorem State.SameFlight.refl (s : State) : s.SameFlight s := fun x hx => ⟨x, hx, rfl, rfl⟩
theorem State.SameFlight.trans (h : s.SameFlight t) (k : t.SameFlight u) : s.SameFlight u := fun x hx => by
  obtain ⟨y, hy, hyd, hyo⟩ := k x hx
  obtain ⟨a, ha, had, hao⟩ := h y hy
  exact ⟨a, ha, had.trans hyd, hao.trans hyo⟩
theorem State.SameFlight.of_eq (h : t.line.inFlight = s.line.inFlight) : s.SameFlight t := fun x hx => ⟨x, h ▸ hx, rfl, rfl⟩

theorem State.Upkeep.refl (s : State) : s.Upkeep s := ⟨id, id, .refl s⟩
theorem State.Upkeep.trans (h : s.Upkeep t) (k : t.Upkeep u) : s.Upkeep u :=
  ⟨k.sequenced ∘ h.sequenced, k.outfit ∘ h.outfit, h.flight.trans k.flight⟩

theorem State.Moves.sequenced (h : State.Moves w s t) (hs : s.Sequenced) : t.Sequenced := ⟨h.dutySound hs.1, h.fansSound hs.2⟩

/-- A chain of moves, with what the moves do not say. -/
theorem State.Upkeep.of_moves (hm : State.Moves w s t) (hd : s.DampersSound → t.DampersSound)
    (hf : t.line.inFlight = s.line.inFlight) : s.Upkeep t :=
  ⟨hm.sequenced, fun h => ⟨hm.lineFit h.1, hd h.2⟩, .of_eq hf⟩
/-- The moves of a pass keep the dampers' timers and indications. -/
theorem State.Moves.dampersSound (hm : State.Moves false s t) (hp : s.PathSound → t.PathSound) (h : s.DampersSound) :
    t.DampersSound := by
  obtain ⟨htimed, hpath, hshown⟩ := State.dampersSound_iff.1 h
  exact State.dampersSound_iff.2 ⟨hm.timed htimed, hp hpath, hm.indicated hshown⟩
/-- Work on fans. -/
theorem State.Upkeep.of_samePath (hm : State.Moves w s t) (h : s.SamePath t) (hw : s.FanWork t P) : s.Upkeep t :=
  .of_moves hm h.dampersSound hw.queueOnly.inFlight
theorem State.Upkeep.of_onlyFan (hm : State.Moves w s t) (h : s.OnlyFan t n) (hw : s.FanWork t P) : s.Upkeep t :=
  .of_samePath hm h.samePath hw
/-- Work in the zone evaluator. -/
theorem State.Upkeep.of_evaluator (hm : State.Moves w s t) (h : s.InEvaluator t) : s.Upkeep t := by
  obtain ⟨he, hu, hp⟩ := h.dampers
  have hi := congrArg Plant.indications h.plant
  exact .of_moves hm (fun hs => hs.congr he hu hp hi (by rw [h.resolver]) hm.zoneFitted) (by rw [h.line])

/-! ### What the blocks beside the plant leave -/

/-- What the laws of the sequencer and the dampers look at, but for the fitted zones. -/
structure Gear where
  fans : Vector Fan 8
  duty : List FanId
  runSet : List FanId
  extract : Vector ExtractDamper 16
  makeUp : Vector MakeUpDamper 16
  pathProven : Bool
  indications : Vector Indication 16
  roles : Vector Role 16

def State.gear (s : State) : Gear :=
  ⟨s.fans, s.duty, s.alloc.record.runSet, s.extract, s.makeUp, s.pathProven, s.indications, s.resolver.roles⟩

/-- What the laws of the sequencer, the line and the dampers look at. -/
structure Works where
  gear : Gear
  line : FieldLine
  zones : ZoneId → Bool
  heads : HeadId → Bool

def State.works (s : State) : Works :=
  ⟨s.gear, s.line, fun z => (s.zone z).config.fitted, fun h => (s.head h).config.fitted⟩

theorem State.Sequenced.of_gear (h : t.gear = s.gear) (hs : s.Sequenced) : t.Sequenced := by
  have hfans : t.fans = s.fans := congrArg Gear.fans h
  have hfan : ∀ n, t.fan n = s.fan n := fun n => by simp only [State.fan, hfans]
  have hduty : t.duty = s.duty := congrArg Gear.duty h
  have hrun : t.alloc.record.runSet = s.alloc.record.runSet := congrArg Gear.runSet h
  refine ⟨⟨by rw [hduty]; exact hs.1.once, fun n => ?_, by rw [hrun]; exact hs.1.runSet⟩, fun n => ?_⟩
  · rw [hduty, hfan]; exact hs.1.fitted n
  · rw [hfan]; exact hs.2 n
theorem State.DampersSound.of_gear (h : t.gear = s.gear) (hz : ∀ z, (t.zone z).config.fitted = (s.zone z).config.fitted)
    (hs : s.DampersSound) : t.DampersSound := by
  have he : t.extract = s.extract := congrArg Gear.extract h
  have hm : t.makeUp = s.makeUp := congrArg Gear.makeUp h
  have hp : t.pathProven = s.pathProven := congrArg Gear.pathProven h
  have hi : t.indications = s.indications := congrArg Gear.indications h
  have hr : t.resolver.roles = s.resolver.roles := congrArg Gear.roles h
  exact hs.congr he hm hp hi hr hz

theorem State.works_gear (h : t.works = s.works) : t.gear = s.gear := congrArg Works.gear h
theorem State.works_fan (h : t.works = s.works) (n : FanId) : t.fan n = s.fan n := by
  have hf : t.fans = s.fans := congrArg Gear.fans (State.works_gear h)
  simp only [State.fan, hf]
theorem State.works_line (h : t.works = s.works) : t.line = s.line := congrArg Works.line h
theorem State.works_zone (h : t.works = s.works) (z : ZoneId) : (t.zone z).config.fitted = (s.zone z).config.fitted :=
  congrFun (congrArg Works.zones h) z
theorem State.works_deviceFitted (h : t.works = s.works) (d : Device) : t.deviceFitted d = s.deviceFitted d := by
  cases d with
  | head k => exact congrFun (congrArg Works.heads h) k
  | drive n => simp only [State.deviceFitted, State.works_fan h]
  | extract z => exact State.works_zone h z
  | makeUp z => exact State.works_zone h z
theorem State.Sequenced.of_works (h : t.works = s.works) (hs : s.Sequenced) : t.Sequenced := hs.of_gear (State.works_gear h)
theorem State.DampersSound.of_works (h : t.works = s.works) (hs : s.DampersSound) : t.DampersSound :=
  hs.of_gear (State.works_gear h) (State.works_zone h)
theorem State.LineFit.of_works (h : t.works = s.works) (hs : s.LineFit) : t.LineFit :=
  hs.of_line (State.works_line h) (State.works_deviceFitted h)
theorem State.Upkeep.of_works (h : t.works = s.works) : s.Upkeep t :=
  ⟨.of_works h, fun hs => ⟨hs.1.of_works h, hs.2.of_works h⟩, .of_eq (by rw [State.works_line h])⟩

/-! ### A command served -/

theorem State.LineFit.sound (h : s.LineFit) (hi : s.line.inFlight = none → s.line.queue = [] ∧ s.line.pollList = []) : s.LineSound :=
  ⟨h.polls, h.position, h.once, h.queued, h.row, h.links, h.flight, hi⟩

/-- Work that leaves the line needs no choice of an exchange. -/
theorem State.Upkeep.serviced (h : s.Upkeep t) (hl : t.line = s.line) : s.Serviced t := by
  refine ⟨h.sequenced, fun hs hd => ?_, fun n x _ hx _ => h.flight x hx⟩
  obtain ⟨hfit, hdampers⟩ := h.outfit ⟨hs.fit, hd⟩
  exact ⟨hfit.sound (by rw [hl]; exact hs.idle), hdampers⟩
theorem State.Serviced.refl (s : State) : s.Serviced s := (State.Upkeep.refl s).serviced rfl
theorem State.Serviced.of_works (h : t.works = s.works) : s.Serviced t := (State.Upkeep.of_works h).serviced (State.works_line h)
theorem State.Serviced.after (h : s.Serviced t) (k : u.works = t.works) : s.Serviced u := by
  refine ⟨fun hs => (h.sequenced hs).of_works k, fun hs hd => ?_, ?_⟩
  · obtain ⟨hl, hp⟩ := h.plant hs hd
    exact (State.Serviced.of_works k).plant hl hp
  · simp only [State.works_fan k, State.works_line k]; exact h.offers
theorem State.Serviced.before (h : t.Serviced u) (k : t.works = s.works) : s.Serviced u := by
  refine ⟨fun hs => h.sequenced (hs.of_works k), fun hs hd => ?_, ?_⟩
  · obtain ⟨hl, hp⟩ := (State.Serviced.of_works k).plant hs hd
    exact h.plant hl hp
  · rw [← State.works_line k]; exact h.offers

/-- R80, R148: the end of a step makes the line whole and sends no OFFER to a fan in ENROL_HOLD. -/
theorem State.Upkeep.finish (h : s.Upkeep t) : s.Serviced t.finish := by
  refine ⟨fun hs => (State.finish_moves (w := true) t).sequenced (h.sequenced hs), fun hs hd => ?_, fun n x hn hx ho => ?_⟩
  · obtain ⟨hfit, hdampers⟩ := h.outfit ⟨hs.fit, hd⟩
    exact ⟨hfit.finish, (State.finish_moves t).dampersSound (State.finish_path t) hdampers⟩
  · have hflight := t.settle_inFlight
    rcases hq : t.line.inFlight with _ | y
    · obtain ⟨_, hheld⟩ := State.chooseExchange_sends (hflight.trans hq) hx ho
      have hst : (t.settle.fan n).state = .enrolHold := hn
      simp [State.holdsBack, hst] at hheld
    · have he : t.settle.chooseExchange.line.inFlight = some y := by
        simp only [State.chooseExchange, State.modLine, FieldLine.choose, hflight, hq]
      obtain rfl : y = x := Option.some.inj (he.symm.trans hx)
      exact h.flight y hq

theorem State.pass_upkeep (s : State) (b : Bool) : s.Upkeep (s.pass b) :=
  .of_moves (w := false) (s.pass_moves b) ((s.pass_moves b).dampersSound fun _ => s.pass_path b) (s.pass_inFlight b)

end

end Sys2Proof.Machine

/-! ## The work of the blocks beside the line (R22 to R66, R80, R83, R88, R94, R108, R114, R115) -/

namespace Sys2Proof.Machine

section
variable (s : State) {t u : State} {n : FanId} {w : Bool} {p : Port}

/-! ### What changes nothing of the plant -/

theorem State.triggerIf_works (b : Bool) : (s.triggerIf b).works = s.works := by cases b <;> rfl
theorem State.raiseAll_works (x : Notice) : (s.raiseAll x).works = s.works := rfl
theorem State.raiseAlarm_works (k : AlarmKey) (d : Option FanDetail) : (s.raiseAlarm k d).works = s.works := by
  unfold State.raiseAlarm; split <;> rfl
theorem State.configChanged_works (p : Port) : (s.configChanged p).works = s.works := by cases p <;> rfl
theorem State.modPlan_works (f : PlanControl → PlanControl) : (s.modPlan f).works = s.works := rfl
theorem State.frameTaken_works (p : Port) : (s.frameTaken p).works = s.works := by
  unfold State.frameTaken; simp only; split <;> rfl
theorem State.notePlan_works (k : PlanId) : (s.notePlan k).works = s.works := by
  unfold State.notePlan; split <;> rfl
theorem State.setLevel_works (l : Level) : (s.setLevel l).works = s.works := by
  unfold State.setLevel
  simp only
  refine (State.triggerIf_works _ _).trans ?_
  split
  · split <;> rfl
  · split <;> rfl
theorem State.joinFire_works (z : ZoneId) : (s.joinFire z).works = s.works := State.raiseAlarm_works _ _ _
theorem State.secondAlarm_works (z : ZoneId) : (s.secondAlarm z).works = s.works := s.joinFire_works z
theorem State.emptyFires_works : s.emptyFires.works = s.works :=
  foldl_keeps (P := fun q => q.works = s.works) (fun q z h => by split <;> exact h) _ s rfl
theorem State.toAutomatic_works : s.toAutomatic.works = s.works := by
  unfold State.toAutomatic
  split
  · exact (State.notePlan_works _ _).trans (State.setLevel_works _ _)
  · exact (State.notePlan_works _ _).trans (State.setLevel_works _ _)
theorem State.clearOverrides_works : s.clearOverrides.works = s.works := State.triggerIf_works _ _
theorem State.returnIfManual_works : s.returnIfManual.works = s.works := by
  unfold State.returnIfManual
  split
  · exact s.toAutomatic_works
  · rfl

theorem State.normalWritten_works (b : Nat) : (s.normalWritten b).works = s.works :=
  (State.triggerIf_works _ _).trans (State.configChanged_works _ _)
theorem State.standbyWritten_works (b : Nat) : (s.standbyWritten b).works = s.works :=
  (State.triggerIf_works _ _).trans (State.configChanged_works _ _)
theorem State.mapWritten_works (m : Vector (Option PlanId) 16) : (s.mapWritten m).works = s.works := State.configChanged_works _ _
theorem State.kindSet_works (k : PlanId) (x : PlanKind) : (s.kindSet k x).works = s.works := State.configChanged_works _ _
theorem State.supplySet_works (v : Supply) : (s.supplySet v).works = s.works := State.triggerIf_works _ _
theorem State.takeControl_works : s.takeControl.works = s.works := by
  unfold State.takeControl; split <;> rfl
theorem State.blockSet_works (n : FanId) (b : Bool) : (s.blockSet n b).works = s.works := by
  unfold State.blockSet; split <;> rfl

/-! ### The path and the roles -/

theorem State.reprove_upkeep : s.Upkeep s.reprove :=
  .of_moves (w := false) s.reprove_moves ((State.reprove_moves s).dampersSound fun _ => s.reprove_path)
    s.reprove_fanWork.queueOnly.inFlight

/-- R109: a recomputation of the roles forms every indication again. -/
theorem State.recomputeRoles_indicated : s.recomputeRoles.Indicated := by
  have hp := s.rolesTaken.handSmoke_samePath s.resolver.smoke
  rw [State.recomputeRoles_eq]
  intro z
  simpa only [State.role, State.extractOf, State.makeUpOf, hp.indications, hp.extract, hp.makeUp, resolver_of_lasting hp.lasting]
    using s.rolesTaken_indicated z
theorem State.recomputeRoles_upkeep : s.Upkeep s.recomputeRoles := by
  refine .of_moves s.recomputeRoles_moves (fun h => ?_) s.recomputeRoles_fanWork.queueOnly.inFlight
  obtain ⟨htimed, hpath, _⟩ := State.dampersSound_iff.1 h
  obtain ⟨he, _, hp⟩ := s.recomputeRoles_beside
  exact State.dampersSound_iff.2 ⟨s.recomputeRoles_moves.timed htimed, hpath.congr hp he s.recomputeRoles_moves.zoneFitted,
    s.recomputeRoles_indicated⟩
theorem State.handPlan_upkeep (k : PlanId) : s.Upkeep (s.handPlan k) := by
  unfold State.handPlan
  split
  · exact .refl s
  · exact s.recomputeRoles_upkeep

variable {s} in
/-- Work beside the plant, with the roles worked out again after it. -/
theorem State.Upkeep.roles (h : t.works = s.works) : s.Upkeep t.recomputeRoles := (State.Upkeep.of_works h).trans t.recomputeRoles_upkeep
variable {s} in
theorem State.Upkeep.plan (h : t.works = s.works) (k : PlanId) : s.Upkeep (t.handPlan k) :=
  (State.Upkeep.of_works h).trans (t.handPlan_upkeep k)

theorem State.planWritten_upkeep (p : Port) (k : PlanId) (b : PlanBank) : s.Upkeep (s.planWritten p k b) := by
  have h : ((s.commitBank k b).configChanged p).works = s.works := State.configChanged_works _ _
  unfold State.planWritten
  simp only
  split
  · exact .roles h
  · exact .of_works h
theorem State.baseSelected_upkeep (k : PlanId) : s.Upkeep (s.baseSelected k) := by
  have h : ((s.commitBase k).configChanged .building).works = s.works := State.configChanged_works _ _
  unfold State.baseSelected
  simp only
  split
  · exact .plan ((State.notePlan_works _ _).trans ((State.modPlan_works _ _).trans h)) _
  · exact .of_works h
theorem State.closureSet_upkeep (z : ZoneId) (c : Bool) : s.Upkeep (s.closureSet z c) := by
  have h : ((s.commitClosure z c).configChanged .building).works = s.works := State.configChanged_works _ _
  unfold State.closureSet
  simp only
  split
  · exact .of_works h
  · exact .roles h
theorem State.doReturn_upkeep : s.Upkeep s.doReturn :=
  .plan ((State.notePlan_works _ _).trans ((State.setLevel_works _ _).trans (State.modPlan_works s _))) _
theorem State.fireAlarmed_upkeep (z : ZoneId) : s.Upkeep (s.fireAlarmed z) := by
  unfold State.fireAlarmed
  split
  · exact .refl s
  · split
    · exact .plan ((State.notePlan_works _ _).trans ((State.setLevel_works _ _).trans
        ((State.modPlan_works _ _).trans (s.joinFire_works z)))) _
    · exact .of_works (s.secondAlarm_works z)
theorem State.purgeOrReturn_upkeep : s.Upkeep s.purgeOrReturn := by
  unfold State.purgeOrReturn
  split
  · exact .of_works (s.modPlan_works _)
  · exact s.doReturn_upkeep
theorem State.fireReset_upkeep : s.Upkeep s.fireReset := by
  have h : s.Upkeep s.emptyFires := .of_works s.emptyFires_works
  unfold State.fireReset
  split
  · exact .refl s
  · split
    · exact .refl s
    · exact h.trans (State.purgeOrReturn_upkeep _)
    · exact h
theorem State.selectPlan_upkeep (k : PlanId) : s.Upkeep (s.selectPlan k) :=
  .plan ((State.notePlan_works _ _).trans ((State.setLevel_works _ _).trans (State.modPlan_works s _))) _
theorem State.giveControl_upkeep : s.Upkeep s.giveControl := by
  have h : s.clearOverrides.returnIfManual.works = s.works := (State.returnIfManual_works _).trans s.clearOverrides_works
  exact .roles h
theorem State.overrideSet_upkeep (z : ZoneId) (r : Option Role) : s.Upkeep (s.overrideSet z r) := by
  unfold State.overrideSet
  split
  · exact .refl s
  · exact .roles (s := s) rfl

/-! ### The zone evaluator -/

theorem State.fallExpired_upkeep (z : ZoneId) : s.Upkeep (s.fallExpired z) :=
  .of_evaluator (s.fallExpired_moves z) ((s.modZone_inEvaluator z _).trans (State.triggerIf_inEvaluator _ _))
theorem State.linkGone_upkeep (p : Port) : s.Upkeep (s.linkGone p) := by
  have h : (((s.modPort p fun q => { q with link := .lost, silence := none }).raiseAlarm (.linkLost p) none).raiseAll
      .linkLost).works = s.works := (State.raiseAll_works _ _).trans (State.raiseAlarm_works _ _ _)
  refine (State.Upkeep.of_works h).trans ?_
  cases p with
  | building => exact .of_evaluator (State.endBoosts_moves _) (State.endBoosts_inEvaluator _)
  | alarm => exact .refl _
  | override => exact .refl _

/-! ### The requests for one fan -/

variable (n)

theorem State.tripFan_upkeep (d : FanDetail) (h : (s.fan n).Sound → (s.fan n).Able) : s.Upkeep (s.tripFan n d) :=
  .of_onlyFan (w := true) (s.tripFan_moves n d h) (s.tripFan_onlyFan n d) (s.tripFan_fanWork n d)
theorem State.enterReady_upkeep (h : (s.fan n).Sound → (s.fan n).Able) : s.Upkeep (s.enterReady n) :=
  .of_onlyFan (w := true) (s.enterReady_moves n h) (s.enterReady_onlyFan n) (s.enterReady_fanWork n)
theorem State.enterEnrolHold_upkeep (h : (s.fan n).Sound → (s.fan n).Able) : s.Upkeep (s.enterEnrolHold n) :=
  .of_onlyFan (w := true) (P := (· = n)) (s.enterEnrolHold_moves n h) (s.enterEnrolHold_onlyFan n) (s.enterEnrolHold_fanWork n)
theorem State.stopFan_upkeep (h : (s.fan n).Sound → (s.fan n).Able) : s.Upkeep (s.stopFan n) :=
  .of_onlyFan (w := true) (s.stopFan_moves n h) (s.stopFan_onlyFan n) (s.stopFan_fanWork n)
theorem State.enterEnrolling_upkeep (h : (s.fan n).Sound → (s.fan n).config.fitted = true) : s.Upkeep (s.enterEnrolling n) :=
  .of_onlyFan (w := true) (s.enterEnrolling_moves n h) (s.enterEnrolling_onlyFan n) (s.enterEnrolling_fanWork n)
theorem State.loseFan_upkeep : s.Upkeep (s.loseFan n) :=
  .of_onlyFan (w := true) (s.loseFan_moves n) (s.loseFan_onlyFan n) (s.loseFan_fanWork n)
theorem State.driveReply_upkeep (run speed fault : Byte) (k : Option Order) (a : Option Ability) :
    s.Upkeep (s.driveReply n run speed fault k a) :=
  .of_onlyFan (w := true) (s.driveReply_moves n run speed fault k a) (s.driveReply_onlyFan n run speed fault k a)
    (s.driveReply_fanWork n run speed fault k a)
theorem State.graceExpired_upkeep : s.Upkeep s.graceExpired :=
  .of_samePath (w := true) s.graceExpired_moves s.graceExpired_samePath s.graceExpired_fanWork

/-- A change of the fan's record that the laws do not read. -/
theorem State.modFan_upkeep (f : Fan → Fan) (h : ∀ q : Fan, (f q).config = q.config ∧ (f q).state = q.state ∧
    (f q).timer = q.timer ∧ (f q).ability = q.ability ∧ (f q).mode = q.mode ∧ (f q).cls = q.cls ∧ (f q).minSpeed = q.minSpeed
      := by intro q; exact ⟨rfl, rfl, rfl, rfl, rfl, rfl, rfl⟩) : s.Upkeep (s.modFan n f) :=
  .of_onlyFan (w := true) (P := (· = n)) (s.modFan_moves n f h) (s.modFan_onlyFan n f fun q => (h q).1) (s.modFan_fanWork n f)

/-- R88: a TRIPPED fan has been enrolled. -/
theorem State.fanReset_upkeep (h : (s.fan n).state = .tripped) : s.Upkeep (s.fanReset n) := by
  have hable : ∀ q : State, (q.fan n).state = .tripped → (q.fan n).Sound → (q.fan n).Able := fun q hq hs => hs.able (by rw [hq]; rfl)
  unfold State.fanReset
  simp only
  split
  · refine ((State.Upkeep.of_works (s := s) (t := s.clearAlarm _) rfl).trans (State.modFan_upkeep _ n _)).trans
      (State.enterEnrolHold_upkeep _ n (hable _ ?_))
    rw [State.modFan_fan_self]; exact h
  · exact (State.Upkeep.of_works (s := s) (t := s.clearAlarm _) rfl).trans (State.enterReady_upkeep _ n (hable _ h))

/-- One fan's record changes and stays sound, with its fitted field. -/
theorem State.Upkeep.of_fanRecord (hg : { t.gear with fans := s.fans } = s.gear) (hl : t.line = s.line) (hz : t.zones = s.zones)
    (hh : t.heads = s.heads) (ho : ∀ m, m ≠ n → t.fan m = s.fan m)
    (hf : (t.fan n).config.fitted = (s.fan n).config.fitted) (hs : (s.fan n).Sound → (t.fan n).Sound) : s.Upkeep t := by
  have hfit : ∀ m, (t.fan m).config.fitted = (s.fan m).config.fitted := fun m => by
    by_cases hm : m = n
    · subst hm; exact hf
    · rw [ho m hm]
  have hduty : t.duty = s.duty := congrArg Gear.duty hg
  have hrun : t.alloc.record.runSet = s.alloc.record.runSet := congrArg Gear.runSet hg
  have he : t.extract = s.extract := congrArg Gear.extract hg
  have hm : t.makeUp = s.makeUp := congrArg Gear.makeUp hg
  have hp : t.pathProven = s.pathProven := congrArg Gear.pathProven hg
  have hi : t.indications = s.indications := congrArg Gear.indications hg
  have hr : t.resolver.roles = s.resolver.roles := congrArg Gear.roles hg
  have hzone : ∀ z, t.zone z = s.zone z := fun z => by simp only [State.zone, hz]
  refine ⟨fun h => ⟨⟨hduty ▸ h.1.once, fun m => by rw [hduty, hfit]; exact h.1.fitted m, hrun ▸ h.1.runSet⟩, fun m => ?_⟩,
    fun h => ⟨h.1.of_line hl fun d => ?_, h.2.congr he hm hp hi hr fun z => by rw [hzone]⟩, .of_eq (by rw [hl])⟩
  · by_cases hm : m = n
    · subst hm; exact hs (h.2 m)
    · rw [ho m hm]; exact h.2 m
  · cases d with
    | drive m => exact hfit m
    | head k => simp only [State.deviceFitted, State.head, hh]
    | extract z => simp only [State.deviceFitted, hzone]
    | makeUp z => simp only [State.deviceFitted, hzone]

/-- R94: the service of a fan is not read by the laws. -/
theorem State.serviceSet_upkeep (v : Service) : s.Upkeep (s.serviceSet n v) := by
  refine .trans (t := s.modFan n fun f => { f with config := { (s.fan n).config with service := v } }) ?_
    (.of_works ((State.triggerIf_works _ _).trans (State.configChanged_works _ _)))
  refine .of_fanRecord s (n := n) rfl rfl rfl rfl (fun m hm => s.modFan_fan_other _ hm) ?_ fun h => ?_
  · rw [State.modFan_fan_self]
  · rw [State.modFan_fan_self]; exact ⟨h.absent, h.timer, h.resolved⟩

/-! ### The counts and the second (R2, R15) -/

/-- Every fan and damper keeps its state, and a running timer runs on; the rest of the plant stays. -/
theorem State.Upkeep.of_records (hf : ∀ n, (t.fan n).state = (s.fan n).state ∧ (t.fan n).config = (s.fan n).config ∧
      (t.fan n).timer.isSome = (s.fan n).timer.isSome ∧ (t.fan n).ability = (s.fan n).ability ∧ (t.fan n).mode = (s.fan n).mode ∧
      (t.fan n).cls = (s.fan n).cls ∧ (t.fan n).minSpeed = (s.fan n).minSpeed)
    (he : ∀ z, (t.extractOf z).state = (s.extractOf z).state ∧ (t.extractOf z).command = (s.extractOf z).command ∧
      (t.extractOf z).feedback = (s.extractOf z).feedback ∧ (t.extractOf z).timer.isSome = (s.extractOf z).timer.isSome)
    (hm : ∀ z, (t.makeUpOf z).state = (s.makeUpOf z).state ∧ (t.makeUpOf z).command = (s.makeUpOf z).command ∧
      (t.makeUpOf z).timer.isSome = (s.makeUpOf z).timer.isSome)
    (hg : { t.gear with fans := s.fans, extract := s.extract, makeUp := s.makeUp } = s.gear) (hline : t.line = s.line)
    (hzones : ∀ z, (t.zone z).config.fitted = (s.zone z).config.fitted)
    (hheads : ∀ h, (t.head h).config.fitted = (s.head h).config.fitted) : s.Upkeep t := by
  have hduty : t.duty = s.duty := congrArg Gear.duty hg
  have hrun : t.alloc.record.runSet = s.alloc.record.runSet := congrArg Gear.runSet hg
  have hproven : t.pathProven = s.pathProven := congrArg Gear.pathProven hg
  have hshown : t.indications = s.indications := congrArg Gear.indications hg
  have hroles : t.resolver.roles = s.resolver.roles := congrArg Gear.roles hg
  refine ⟨fun h => ⟨⟨hduty ▸ h.1.once, fun n => ?_, hrun ▸ h.1.runSet⟩, fun n => ?_⟩, fun h => ⟨h.1.of_line hline fun d => ?_, ?_⟩,
    .of_eq (by rw [hline])⟩
  · obtain ⟨_, hc, _⟩ := hf n
    rw [hduty, hc]; exact h.1.fitted n
  · obtain ⟨hst, hc, ht, ha, hmode, hcls, hmin⟩ := hf n
    refine ⟨?_, ?_, ?_⟩
    · rw [hst, hc]; exact (h.2 n).absent
    · rw [hst, ht]; exact (h.2 n).timer
    · rw [hst, ha, hmode, hcls, hmin]; exact (h.2 n).resolved
  · cases d with
    | head k => exact hheads k
    | drive n => exact congrArg FanConfig.fitted (hf n).2.1
    | extract z => exact hzones z
    | makeUp z => exact hzones z
  · obtain ⟨hextract, hmakeUp, hpath, hind⟩ := h.2
    refine ⟨fun z => ?_, fun z => ?_, ?_, fun z => ?_⟩
    · obtain ⟨hst, _, _, ht⟩ := he z
      rw [hst, ht, hzones]; exact hextract z
    · obtain ⟨hst, _, ht⟩ := hm z
      rw [hst, ht, hzones]; exact hmakeUp z
    · have hz : ∀ z, t.ProvesPath z ↔ s.ProvesPath z := fun z => by
        obtain ⟨hst, hc, hfb, _⟩ := he z
        simp only [State.ProvesPath, hst, hc, hfb, hzones]
      unfold State.PathSound at hpath ⊢
      simpa only [hproven, hz] using hpath
    · obtain ⟨hst, _⟩ := he z
      obtain ⟨hmst, hmc, _⟩ := hm z
      have h := hind z
      simpa only [hshown, hroles, hst, hmst, hmc] using h

theorem State.countsCleared_upkeep : s.Upkeep s.countsCleared := by
  have hf : ∀ n, s.countsCleared.fan n = { s.fan n with starts := 0, trips := 0 } := fun n => by
    simp [State.countsCleared, State.fan]
  refine .of_records s (fun n => by rw [hf]; exact ⟨rfl, rfl, rfl, rfl, rfl, rfl, rfl⟩) (fun _ => ⟨rfl, rfl, rfl, rfl⟩)
    (fun _ => ⟨rfl, rfl, rfl⟩) rfl rfl (fun z => ?_) fun h => ?_
  · simp [State.countsCleared, State.zone]
  · simp [State.countsCleared, State.head]

theorem State.second_upkeep : s.Upkeep s.second := by
  have hf : ∀ n, s.second.fan n = { s.fan n with timer := lessOne (s.fan n).timer } := fun n => by simp [State.second, State.fan]
  have he : ∀ z, s.second.extractOf z = { s.extractOf z with timer := lessOne (s.extractOf z).timer } := fun z => by
    simp [State.second, State.extractOf]
  have hm : ∀ z, s.second.makeUpOf z = { s.makeUpOf z with timer := lessOne (s.makeUpOf z).timer } := fun z => by
    simp [State.second, State.makeUpOf]
  refine .of_records s (fun n => by rw [hf]; exact ⟨rfl, rfl, lessOne_isSome' _, rfl, rfl, rfl, rfl⟩)
    (fun z => by rw [he]; exact ⟨rfl, rfl, rfl, lessOne_isSome' _⟩) (fun z => by rw [hm]; exact ⟨rfl, rfl, lessOne_isSome' _⟩) rfl rfl (fun z => ?_)
    fun _ => rfl
  simp [State.second, State.zone, Zone.second]

end

end Sys2Proof.Machine

/-! ## The line of a device that becomes or ceases to be fitted (R146, R147, R153) -/

namespace Sys2Proof.Machine

section
variable {s t u v w x : State} {n m : FanId} {z : ZoneId} {h : HeadId} {D : Device → Prop}

/-- R146, R153: the laws of the line stand once the poll list is rebuilt, where the devices of D alone have ceased to be fitted, with
their commands dropped and an exchange in flight with one of them disowned. -/
theorem State.LineFit.refitted (h : s.LineFit) (hfit : ∀ d, ¬D d → s.deviceFitted d = true → u.deviceFitted d = true)
    (hlinks : ∀ d, u.link d = s.link d ∨ u.link d = {}) (hsub : u.line.queue.Sublist s.line.queue)
    (hqueue : ∀ o ∈ u.line.queue, ¬D o.device) (hrow : u.line.row = s.line.row)
    (hflight : ∀ x, u.line.inFlight = some x → x.disowned = false → s.line.inFlight = some x ∧ ¬D x.device) : u.rebuildPolls.LineFit := by
  refine ⟨rfl, fun hp => firstAbove_mem hp _, h.once.sublist hsub, fun o ho => ?_, hrow ▸ h.row, fun d => ?_, fun x hx hd => ?_⟩
  · obtain ⟨hfitted, hlost⟩ := h.queued o (hsub.subset ho)
    refine ⟨hfit _ (hqueue o ho) hfitted, ?_⟩
    rcases hlinks o.device with hl | hl
    · exact (congrArg Link.lost hl).trans hlost
    · exact congrArg Link.lost hl
  · have hl : u.rebuildPolls.link d = u.link d := rfl
    rw [hl]
    rcases hlinks d with hl | hl
    · rw [hl]; exact h.links d
    · rw [hl]; decide
  · obtain ⟨hs, hn⟩ := hflight x hx hd
    exact hfit _ hn (h.flight x hs hd)

theorem State.LineFit.enqueue (h : s.LineFit) (o : Order) : (s.enqueue o).LineFit := (State.enqueue_moves (w := true) s o).lineFit h

theorem FieldLine.setLink_links (l : FieldLine) (d e : Device) :
    (l.setLink d {}).links[e.place.val] = l.links[e.place.val] ∨ (l.setLink d {}).links[e.place.val] = {} := by
  by_cases he : e = d
  · subst he; exact .inr (l.setLink_self e {})
  · exact .inl (l.setLink_other {} he)

/-- R153: an exchange that is disowned is not with its device's owner any more. -/
theorem disown_owned {d : Device} {x : Exchange} {y : Option Exchange} (hx : disown d y = some x) (hd : x.disowned = false) :
    y = some x ∧ x.device ≠ d := by
  cases y with
  | none => cases hx
  | some y =>
    by_cases he : y.device = d
    · rw [disown, if_pos he] at hx
      obtain rfl : _ = x := Option.some.inj hx
      cases hd
    · rw [disown, if_neg he] at hx
      obtain rfl : y = x := Option.some.inj hx
      exact ⟨rfl, he⟩
theorem mem_dropFor {d : Device} {q : List Order} {o : Order} (h : o ∈ dropFor d q) : o.device ≠ d := by
  simpa using (List.mem_filter.1 h).2

/-- R80, R153: a disowned exchange is the one that was in flight. -/
theorem State.SameFlight.disowned {c : Exchange → Prop} [DecidablePred c]
    (h : t.line.inFlight = s.line.inFlight.map fun x => if c x then { x with disowned := true } else x) : s.SameFlight t := fun x hx => by
  rw [h] at hx
  obtain ⟨y, hy, rfl⟩ := Option.map_eq_some_iff.1 hx
  refine ⟨y, hy, ?_⟩
  split <;> exact ⟨rfl, rfl⟩

theorem FieldLine.setLink_setLink (l : FieldLine) (d : Device) : (l.setLink d {}).setLink d {} = l.setLink d {} := by
  simp [FieldLine.setLink, upd]

variable {d : Device}

/-- R153: the line after one device has become fitted. -/
theorem State.LineFit.fits (h : w.LineFit) (hl : u.line.setLink d {} = w.line.setLink d {})
    (hfit : ∀ e, w.deviceFitted e = true → u.deviceFitted e = true) : (u.fitDevice d).rebuildPolls.LineFit := by
  have hline : (u.fitDevice d).line = w.line.setLink d {} := hl
  refine h.refitted (D := fun _ => False) (fun e _ => hfit e) (fun e => ?_) ?_ (fun _ _ => id) ?_ fun x hx _ => ⟨?_, id⟩
  · have hk := w.line.setLink_links d e
    rw [← hline] at hk
    exact hk
  · rw [hline]; exact List.Sublist.refl _
  · rw [hline]; rfl
  · rw [hline] at hx; exact hx
/-- R153: the line after one device has ceased to be fitted. -/
theorem State.LineFit.unfits (h : w.LineFit) (hl : u.line.setLink d {} = w.line.setLink d {})
    (hfit : ∀ e, e ≠ d → w.deviceFitted e = true → u.deviceFitted e = true) : (u.unfitDevice d).rebuildPolls.LineFit := by
  have hline : (u.unfitDevice d).line =
      { w.line.setLink d {} with queue := dropFor d w.line.queue, inFlight := disown d w.line.inFlight } := by
    have hq := congrArg FieldLine.queue hl
    have hi := congrArg FieldLine.inFlight hl
    rw [← hl, show w.line.queue = u.line.queue from hq.symm, show w.line.inFlight = u.line.inFlight from hi.symm]
    rfl
  refine h.refitted (D := (· = d)) hfit (fun e => ?_) ?_ (fun o ho => ?_) ?_ fun x hx hd => ?_
  · have hk := w.line.setLink_links d e
    have he := congrArg FieldLine.links hline
    rw [show (w.line.setLink d {}).links = (u.unfitDevice d).line.links from he.symm] at hk
    exact hk
  · rw [hline]; exact List.filter_sublist
  · rw [hline] at ho; exact mem_dropFor ho
  · rw [hline]; rfl
  · rw [hline] at hx; exact disown_owned hx hd
/-- R152: a link that is clear is sound. -/
theorem State.LineFit.clearLink (h : s.LineFit) (d : Device) : (s.modLine fun l => l.setLink d {}).LineFit := by
  have hlinks : ∀ e, (s.modLine fun l => l.setLink d {}).link e = s.link e ∨ (s.modLine fun l => l.setLink d {}).link e = {} :=
    s.line.setLink_links d
  refine ⟨h.polls, h.position, h.once, fun o ho => ?_, h.row, fun e => ?_, h.flight⟩
  · obtain ⟨hfitted, hlost⟩ := h.queued o ho
    refine ⟨hfitted, ?_⟩
    rcases hlinks o.device with hl | hl
    · rw [hl]; exact hlost
    · rw [hl]
  · rcases hlinks e with hl | hl
    · rw [hl]; exact h.links e
    · rw [hl]; decide

/-! ### WRITE HEAD (R10) -/

variable (w) (h)

/-- R10: the part with a head's record stored and the head reset, before its fitting is judged. -/
def State.headCleared (c : HeadConfig) : State := (w.headStored h c).resetHead h

theorem State.headCleared_line (c : HeadConfig) : (w.headCleared h c).line = w.line.setLink (.head h) {} := by
  have hl := w.headStored_line h c
  rw [← hl]; rfl
theorem State.headCleared_deviceFitted (c : HeadConfig) (d : Device) :
    (w.headCleared h c).deviceFitted d = if d = .head h then c.fitted else w.deviceFitted d := by
  have hr : (w.headCleared h c).lasting.heads = (w.headRefitted h c).lasting.heads :=
    congrArg Lasting.heads (State.refitHead_lasting h (w.headCleared h c) _ _).symm
  have hh : (w.headCleared h c).heads = upd w.heads h fun q => q.rewritten c :=
    hr.trans (congrArg Lasting.heads (w.headRefitted_lasting h c))
  cases d with
  | head k =>
    have hk : (w.headCleared h c).head k = _ := (congrArg (fun v : Vector Head 48 => v[k.val]) hh).trans (upd_get w.heads h k _)
    simp only [State.deviceFitted, hk, Device.head.injEq]
    split <;> rfl
  | drive n => rfl
  | extract z => rfl
  | makeUp z => rfl
theorem State.refitHead_gear (s : State) (old new : Bool) :
    (s.refitHead h old new).gear = s.gear ∧ (s.refitHead h old new).zones = s.zones := by
  unfold State.refitHead
  split
  · exact ⟨rfl, rfl⟩
  · split <;> exact ⟨rfl, rfl⟩

theorem State.headRefitted_eq (c : HeadConfig) :
    w.headRefitted h c = (w.headCleared h c).refitHead h (w.head h).config.fitted c.fitted := rfl
theorem State.headRefitted_lineFit (c : HeadConfig) (hw : w.LineFit) : (w.headRefitted h c).LineFit := by
  have hline : (w.headCleared h c).line.setLink (.head h) {} = w.line.setLink (.head h) {} := by
    rw [State.headCleared_line, FieldLine.setLink_setLink]
  have hdev := w.headCleared_deviceFitted h c
  rw [State.headRefitted_eq]
  unfold State.refitHead
  split
  · rename_i he
    refine (hw.clearLink (.head h)).of_line (w.headCleared_line h c) fun d => (hdev d).trans ?_
    split
    · rename_i hd; subst hd; exact he.symm
    · rfl
  · split
    · rename_i hc
      refine hw.fits hline fun e hf => ?_
      rw [hdev]
      split
      · exact hc
      · exact hf
    · refine hw.unfits hline fun e he hf => ?_
      rw [hdev, if_neg he]; exact hf

theorem State.headWritten_upkeep (c : HeadConfig) : w.Upkeep (w.headWritten h c) := by
  have hflight := State.SameFlight.disowned (w.headWritten_inFlight h c)
  have hline := w.headRefitted_lineFit h c
  rw [State.headWritten_eq] at hflight ⊢
  split
  · rename_i hc
    refine .of_works ?_
    have hheads : ∀ k, ((w.headStored h c).head k).config.fitted = (w.head k).config.fitted := fun k => by
      have hk : (w.headStored h c).head k = if k = h then { w.head h with config := c } else w.head k := upd_get w.heads h k _
      rw [hk, hc]
      split
      · rename_i hh; rw [hh]
      · rfl
    have hl := w.headStored_line h c
    show Works.mk w.gear (w.headStored h c).line (fun z => (w.zone z).config.fitted) _ = _
    rw [hl, funext hheads]
    rfl
  · rename_i hc
    rw [if_neg hc] at hflight
    obtain ⟨hg, hz⟩ := State.refitHead_gear h (w.headCleared h c) (w.head h).config.fitted c.fitted
    have hu := State.Upkeep.of_evaluator (State.refreshZones_moves (w.headRefitted h c) (w.head h).config.zone c.zone)
      (State.refreshZones_inEvaluator _ _ _)
    have hgear : (w.headRefitted h c).gear = w.gear := hg
    have hzone : ∀ z, (w.headRefitted h c).zone z = w.zone z := fun z => w.headRefitted_zone h c z
    exact ⟨fun hs => hu.sequenced (hs.of_gear hgear),
      fun hs => hu.outfit ⟨hline hs.1, hs.2.of_gear hgear fun z => by rw [hzone]⟩, hflight⟩

end

end Sys2Proof.Machine

/-! ## A fan that becomes or ceases to be fitted, and WRITE FAN (R75, R76, R92, R153) -/

namespace Sys2Proof.Machine

section
variable (s : State) {t u w : State} (n : FanId) {m : FanId} {c : FanConfig} {P : FanId → Prop}

/-! ### The stored record and the resolved fields (R75) -/

/-- R75: a fan's record with new stored fields, its resolved fields worked out again where a rating has changed. -/
def Fan.rated (f : Fan) (c : FanConfig) : Fan :=
  if f.config.minSpeed ≠ c.minSpeed ∨ f.config.cls ≠ c.cls then Fan.reresolve { f with config := c } else { f with config := c }

/-- R75: the part with a fan's record stored and its resolved fields worked out, before its fitting is judged. -/
def State.fanRated (c : FanConfig) : State := (s.fanStored n c).ratingsChanged n (s.fan n).config c

theorem State.fanWritten_eq (c : FanConfig) : s.fanWritten n c =
    ((s.fanRated n c).refitFan n (s.fan n).config.fitted c.fitted).trigger := rfl

theorem Fan.reresolve_config (f : Fan) : f.reresolve.config = f.config := by unfold Fan.reresolve; split <;> rfl
theorem Fan.rated_config (f : Fan) (c : FanConfig) : (f.rated c).config = c := by
  unfold Fan.rated
  split
  · exact Fan.reresolve_config _
  · rfl
/-- R75: of a fan's record the resolved class and minimum speed alone are worked out again. -/
theorem Fan.rated_eq (f : Fan) (c : FanConfig) : f.rated c =
    { f with config := c, cls := (f.rated c).cls, minSpeed := (f.rated c).minSpeed } := by
  unfold Fan.rated
  split
  · unfold Fan.reresolve; split <;> rfl
  · rfl
theorem Fan.Sound.rated {f : Fan} (h : f.Sound) (hc : c.fitted = f.config.fitted) : (f.rated c).Sound := by
  have hres : f.state.enrolled = true → (f.rated c).cls.isSome = true ∧ (f.rated c).minSpeed.isSome = true := fun he => by
    obtain ⟨_, _, hcls, hmin⟩ := h.resolved he
    unfold Fan.rated
    split
    · unfold Fan.reresolve
      split
      · exact ⟨rfl, rfl⟩
      · exact ⟨hcls, hmin⟩
    · exact ⟨hcls, hmin⟩
  rw [Fan.rated_eq]
  refine ⟨by rw [hc]; exact h.absent, h.timer, fun he => ?_⟩
  obtain ⟨ha, hm, _⟩ := h.resolved he
  exact ⟨ha, hm, hres he⟩

theorem State.fanStored_fan (s : State) (n m : FanId) (c : FanConfig) :
    (s.fanStored n c).fan m = if m = n then { s.fan n with config := c } else s.fan m := upd_get s.fans n m _
theorem State.fanRated_fan (c : FanConfig) : (s.fanRated n c).fan n = (s.fan n).rated c := by
  have h : (s.fanStored n c).fan n = { s.fan n with config := c } := by rw [State.fanStored_fan, if_pos rfl]
  unfold State.fanRated State.ratingsChanged Fan.rated
  split
  · rw [State.modFan_fan_self, h]
  · exact h
theorem State.fanRated_fan_other (c : FanConfig) (hm : m ≠ n) : (s.fanRated n c).fan m = s.fan m := by
  have h : (s.fanStored n c).fan m = s.fan m := by rw [State.fanStored_fan, if_neg hm]
  unfold State.fanRated State.ratingsChanged
  split
  · rw [State.modFan_fan_other _ _ hm, h]
  · exact h

/-- R75: what a stored record of a fan leaves. -/
theorem State.fanRated_beside (c : FanConfig) : (s.fanRated n c).plant = s.plant ∧ (s.fanRated n c).line = s.line ∧
    (s.fanRated n c).alloc = s.alloc ∧ (s.fanRated n c).resolver = s.resolver ∧ (s.fanRated n c).zones = s.zones ∧
    (s.fanRated n c).heads = s.heads := by
  unfold State.fanRated State.ratingsChanged
  split <;> exact ⟨rfl, rfl, rfl, rfl, rfl, rfl⟩
theorem State.fanRated_gear (c : FanConfig) : { (s.fanRated n c).gear with fans := s.fans } = s.gear := by
  obtain ⟨hp, _, ha, hr, _, _⟩ := s.fanRated_beside n c
  have hduty := congrArg Plant.duty hp
  have he := congrArg Plant.extract hp
  have hm := congrArg Plant.makeUp hp
  have hproven := congrArg Plant.pathProven hp
  have hi := congrArg Plant.indications hp
  simp only [State.plant] at hduty he hm hproven hi
  simp only [State.gear, hduty, he, hm, hproven, hi, ha, hr]
theorem State.fanRated_deviceFitted (c : FanConfig) (d : Device) :
    (s.fanRated n c).deviceFitted d = if d = .drive n then c.fitted else s.deviceFitted d := by
  obtain ⟨_, _, _, _, hz, hh⟩ := s.fanRated_beside n c
  cases d with
  | drive m =>
    by_cases hm : m = n
    · subst hm; simp [State.deviceFitted, State.fanRated_fan, Fan.rated_config]
    · simp [State.deviceFitted, s.fanRated_fan_other n c hm, hm]
  | head k => simp [State.deviceFitted, State.head, hh]
  | extract z => simp [State.deviceFitted, State.zone, hz]
  | makeUp z => simp [State.deviceFitted, State.zone, hz]

/-! ### A fan that becomes fitted (R76, R78) -/

/-- R153: the drive's link is clear and the poll list is rebuilt. -/
def State.driveFitted : State := (s.fitDevice (.drive n)).rebuildPolls


/-- R76: the duty list of a fan that becomes fitted, and its record. -/
theorem State.fitFan_fan : (s.fitFan n).fan n = (s.fan n).enrols := (s.driveFitted n).enterEnrolling_fan n
theorem State.fitFan_onlyFan : (s.driveFitted n).OnlyFan ((s.driveFitted n).enterEnrolling n) n := State.enterEnrolling_onlyFan _ n
theorem State.fitFan_fan_other (hm : m ≠ n) : (s.fitFan n).fan m = s.fan m := (s.fitFan_onlyFan n).others m hm
theorem State.fitFan_duty : (s.fitFan n).duty = s.duty ++ [n] :=
  congrArg (fun l : List FanId => l ++ [n]) (s.fitFan_onlyFan n).duty

/-! ### A fan that ceases to be fitted (R76) -/

/-- R76: the record of a fan that has entered ABSENT. -/
def Fan.leaves (f : Fan) : Fan :=
  { f with state := .absent, timer := none, startPending := false, reenrolPending := false, plainAnswers := 0, ability := none,
           mode := none, cls := none, minSpeed := none, report := none }

/-- R76: the fan has left the duty list for ABSENT, and its entry is cleared; its drive is unfitted apart. -/
def State.fanLeft : State :=
  let s1 := ((s.modFan n fun f =>
    { f with startPending := false, reenrolPending := false, plainAnswers := 0, ability := none, mode := none, cls := none,
             minSpeed := none, report := none }).enterState n .absent none).clearAlarm (.fanFault n)
  { s1 with duty := s1.duty.filter (· != n) }

theorem State.unfitFan_eq : s.unfitFan n = (((s.fanLeft n).unfitDevice (.drive n)).rebuildPolls).trigger := rfl

theorem State.fanLeft_work : ∃ t, s.OnlyFan t n ∧ s.FanWork t (· = n) ∧ t.fan n = (s.fan n).leaves ∧ s.Clears t (.fanFault n) ∧
    s.fanLeft n = { t with duty := t.duty.filter (· != n) } := by
  refine ⟨_, ((s.modFan_onlyFan n _).trans (State.enterState_onlyFan _ n .absent none)).trans (State.clearAlarm_onlyFan _ n _),
    ((s.modFan_fanWork n _).trans (State.enterState_fanWork _ n .absent none)).trans (State.clearAlarm_fanWork _ n), ?_,
    .of_clear ((s.modFan_quiet n _).trans (State.enterState_quiet _ n .absent none)) ?_, rfl⟩
  · rw [State.clearAlarm_fan, State.enterState_fan, State.modFan_fan_self]; rfl
  · exact congrArg Lasting.partTime ((s.modFan_onlyFan n _).trans (State.enterState_onlyFan _ n .absent none)).lasting

theorem State.fanLeft_fan : (s.fanLeft n).fan n = (s.fan n).leaves := by
  obtain ⟨t, _, _, hf, _, he⟩ := s.fanLeft_work n
  rw [he]; exact hf
theorem State.fanLeft_fan_other (hm : m ≠ n) : (s.fanLeft n).fan m = s.fan m := by
  obtain ⟨t, ho, _, _, _, he⟩ := s.fanLeft_work n
  rw [he]; exact ho.others m hm
theorem State.fanLeft_duty : (s.fanLeft n).duty = s.duty.filter (· != n) := by
  obtain ⟨t, ho, _, _, _, he⟩ := s.fanLeft_work n
  rw [he, ← ho.duty]

/-! ### WRITE FAN keeps the laws (R76, R92) -/


/-- R92: a fan that becomes fitted joins the duty list. -/
theorem State.fitFan_dutySound (h : s.DutySound) (hf : (s.fan n).config.fitted = false) (hc : c.fitted = true) :
    ((s.fanRated n c).fitFan n).DutySound := by
  have hg := s.fanRated_gear n c
  have hd : (s.fanRated n c).duty = s.duty := congrArg Gear.duty hg
  have hr : (s.fanRated n c).alloc.record.runSet = s.alloc.record.runSet := congrArg Gear.runSet hg
  have hr' : ((s.fanRated n c).fitFan n).alloc.record = (s.fanRated n c).alloc.record := ((s.fanRated n c).fitFan_onlyFan n).record
  have hn : n ∉ s.duty := fun k => by rw [h.fitted, hf] at k; cases k
  refine ⟨?_, fun m => ?_, ?_⟩
  · rw [State.fitFan_duty, hd]
    exact List.nodup_append.2 ⟨h.once, List.nodup_singleton n, fun a ha b hb => by rintro rfl; exact hn (by simpa using List.mem_singleton.1 hb ▸ ha)⟩
  · rw [State.fitFan_duty, hd]
    by_cases hm : m = n
    · subst hm
      have hfan : ((s.fanRated m c).fitFan m).fan m = ((s.fan m).rated c).enrols := by rw [State.fitFan_fan, State.fanRated_fan]
      rw [hfan]
      simp [Fan.enrols, Fan.rated_config, hc]
    · rw [State.fitFan_fan_other _ n hm, State.fanRated_fan_other _ n c hm, ← h.fitted]
      simp [hm]
  · rw [hr', hr]; exact h.runSet
theorem Fan.enrols_sound {f : Fan} (h : f.config.fitted = true) : f.enrols.Sound :=
  ⟨⟨fun e => (nomatch e), fun e => by rw [show f.config.fitted = false from e] at h; cases h⟩, rfl, fun e => (nomatch e)⟩
theorem Fan.leaves_sound {f : Fan} (h : f.config.fitted = false) : f.leaves.Sound :=
  ⟨⟨fun _ => h, fun _ => rfl⟩, rfl, fun e => (nomatch e)⟩

theorem State.fitFan_upkeep (hf : (s.fan n).config.fitted = false) (hc : c.fitted = true) :
    s.Upkeep ((s.fanRated n c).fitFan n) := by
  generalize hx : s.fanRated n c = x
  have hline : x.line = s.line := hx ▸ (s.fanRated_beside n c).2.1
  have hdev := s.fanRated_deviceFitted n c
  have hfan : (x.fan n).config.fitted = true := by rw [← hx, State.fanRated_fan, Fan.rated_config, hc]
  have hmoves : State.Moves true (x.driveFitted n) ((x.driveFitted n).enterEnrolling n) :=
    State.enterEnrolling_moves _ n fun _ => hfan
  have hflight : (x.fitFan n).line.inFlight = s.line.inFlight := by
    have hw := ((x.driveFitted n).enterEnrolling_fanWork n).queueOnly.inFlight
    have hd : (x.driveFitted n).line.inFlight = x.line.inFlight := rfl
    rw [hd, hline] at hw
    exact hw
  refine ⟨fun h => ⟨hx ▸ s.fitFan_dutySound n h.1 hf hc, fun m => ?_⟩, fun h => ⟨?_, ?_⟩, .of_eq hflight⟩
  · by_cases hm : m = n
    · subst hm
      rw [State.fitFan_fan]; exact Fan.enrols_sound hfan
    · rw [State.fitFan_fan_other _ n hm, ← hx, State.fanRated_fan_other _ n c hm]; exact h.2 m
  · have hfits : (x.driveFitted n).LineFit := h.1.fits (by rw [hline]) fun e he => by
      rw [← hx, hdev]
      split
      · exact hc
      · exact he
    exact (hmoves.lineFit hfits).of_line rfl fun _ => rfl
  · have ho := (x.driveFitted n).enterEnrolling_onlyFan n
    obtain ⟨hp, _, _, hr, hz, _⟩ := s.fanRated_beside n c
    rw [hx] at hp hr hz
    have hplant : ((x.driveFitted n).enterEnrolling n).plant = s.plant := ho.plant.trans hp
    have he := congrArg Plant.extract hplant
    have hm := congrArg Plant.makeUp hplant
    have hproven := congrArg Plant.pathProven hplant
    have hi := congrArg Plant.indications hplant
    have hres : (x.fitFan n).resolver = x.resolver := ho.resolver
    have hzones : ∀ z, (x.fitFan n).zone z = x.zone z := ho.zone
    exact h.2.congr he hm hproven hi (by rw [hres, hr]) fun z => by rw [hzones]; simp only [State.zone, hz]

/-- R76, R153: what a fan that ceases to be fitted leaves of the plant. -/
theorem State.unfitFan_plant : (s.unfitFan n).plant = { s.plant with duty := s.duty.filter (· != n) } := by
  obtain ⟨t, ho, _, _, _, he⟩ := s.fanLeft_work n
  have hd : t.duty = s.duty := ho.duty
  have hp : (s.unfitFan n).plant = (s.fanLeft n).plant := rfl
  rw [hp, he, ← hd, ← ho.plant]
  rfl
theorem State.unfitFan_fan (m : FanId) : (s.unfitFan n).fan m = if m = n then (s.fan n).leaves else s.fan m := by
  have h : (s.unfitFan n).fan m = (s.fanLeft n).fan m := rfl
  rw [h]
  split
  · rename_i hm; subst hm; exact s.fanLeft_fan m
  · rename_i hm; exact s.fanLeft_fan_other n hm
theorem State.unfitFan_duty : (s.unfitFan n).duty = s.duty.filter (· != n) := s.fanLeft_duty n

/-- R153: the line of a drive that ceases to be fitted, before its poll list is rebuilt. -/
theorem State.fanLeft_beside : (s.fanLeft n).line = s.line ∧ (s.fanLeft n).lasting = s.lasting := by
  obtain ⟨t, ho, _, _, _, he⟩ := s.fanLeft_work n
  refine ⟨?_, ?_⟩
  · exact State.triggerIf_line _ _
  · rw [he]
    exact ho.lasting
theorem State.unfitFan_inFlight : (s.unfitFan n).line.inFlight = s.line.inFlight.map fun x =>
    if x.device = .drive n then { x with disowned := true } else x := by
  have h : (s.unfitFan n).line.inFlight = disown (.drive n) (s.fanLeft n).line.inFlight := rfl
  rw [h, (s.fanLeft_beside n).1, disown_eq]
theorem State.unfitFan_queue : (s.unfitFan n).line.queue = dropFor (.drive n) s.line.queue := by
  have h : (s.unfitFan n).line.queue = dropFor (.drive n) (s.fanLeft n).line.queue := rfl
  rw [h, (s.fanLeft_beside n).1]

theorem State.unfitFan_upkeep (hc : c.fitted = false) : s.Upkeep ((s.fanRated n c).unfitFan n) := by
  obtain ⟨hp, hline, ha, hr, hz, _⟩ := s.fanRated_beside n c
  have hfan := s.fanRated_fan n c
  have hothers := fun m => s.fanRated_fan_other (m := m) n c
  have hdev := s.fanRated_deviceFitted n c
  generalize s.fanRated n c = x at *
  have hplant := x.unfitFan_plant n
  have hlast : (x.unfitFan n).lasting = x.lasting := (x.fanLeft_beside n).2
  have hduty : (x.unfitFan n).duty = s.duty.filter (· != n) := by
    have hd := congrArg Plant.duty hp
    rw [State.unfitFan_duty, show x.duty = s.duty from hd]
  have hrec : (x.unfitFan n).alloc.record = s.alloc.record := by
    have h1 := congrArg Plant.record hplant
    have h2 := congrArg Plant.record hp
    exact h1.trans h2
  refine ⟨fun h => ⟨⟨?_, fun m => ?_, ?_⟩, fun m => ?_⟩, fun h => ⟨?_, ?_⟩, .disowned ((x.unfitFan_inFlight n).trans (by rw [hline]))⟩
  · rw [hduty]; exact h.1.once.filter _
  · rw [hduty, State.unfitFan_fan]
    by_cases hm : m = n
    · subst hm
      rw [if_pos rfl, hfan]
      simp [Fan.leaves, Fan.rated_config, hc]
    · rw [if_neg hm, hothers m hm, ← h.1.fitted]
      simp [hm]
  · rw [hrec]; exact h.1.runSet
  · rw [State.unfitFan_fan]
    split
    · rw [hfan]; exact Fan.leaves_sound (by rw [Fan.rated_config, hc])
    · rename_i hm; rw [hothers m hm]; exact h.2 m
  · have hfits : ((x.fanLeft n).unfitDevice (.drive n)).rebuildPolls.LineFit := by
      refine h.1.unfits (by rw [(x.fanLeft_beside n).1, hline]) fun e he hf => ?_
      rw [← hf, ← (hdev e).trans (if_neg he)]
      exact deviceFitted_of_lasting (x.fanLeft_beside n).2 e
    exact hfits.of_works (State.triggerIf_works _ true)
  · rw [hp] at hplant
    have he := congrArg Plant.extract hplant
    have hm := congrArg Plant.makeUp hplant
    have hproven := congrArg Plant.pathProven hplant
    have hi := congrArg Plant.indications hplant
    exact h.2.congr he hm hproven hi (by rw [resolver_of_lasting hlast, hr]) fun z => by
      simp only [State.zone, zones_of_lasting hlast, hz]

theorem State.fanRated_upkeep (hc : c.fitted = (s.fan n).config.fitted) : s.Upkeep (s.fanRated n c) := by
  obtain ⟨_, hline, _, _, hz, hh⟩ := s.fanRated_beside n c
  refine .of_fanRecord s (n := n) (s.fanRated_gear n c) hline hz hh (fun m hm => s.fanRated_fan_other n c hm) ?_ fun h => ?_
  · rw [State.fanRated_fan, Fan.rated_config, hc]
  · rw [State.fanRated_fan]; exact h.rated hc

/-- R75, R76: an accepted WRITE FAN, less its passes. -/
theorem State.fanWritten_upkeep (c : FanConfig) : s.Upkeep (s.fanWritten n c) := by
  rw [State.fanWritten_eq]
  refine State.Upkeep.trans ?_ (.of_works (State.triggerIf_works _ true))
  unfold State.refitFan
  split
  · rename_i he; exact s.fanRated_upkeep n he.symm
  · rename_i he
    split
    · rename_i hc
      exact s.fitFan_upkeep n (by simpa [hc] using he) hc
    · rename_i hc
      exact s.unfitFan_upkeep n (by simpa using hc)

end

end Sys2Proof.Machine

/-! ## WRITE ZONE keeps the line and the dampers (R8, R107, R153) -/

namespace Sys2Proof.Machine

section
variable {s t u v w x : State} {z y : ZoneId} {c : ZoneConfig}

theorem State.LineFit.startExtract (h : s.LineFit) (z : ZoneId) : (s.startExtract z).LineFit := by
  have h0 : ((s.modExtract z fun _ => {}).modExtract z fun d => { d with
      state := .moving, timer := (s.modExtract z fun _ => {}).travelTime z }).LineFit := h.of_line rfl fun _ => rfl
  exact h0.enqueue _
theorem State.LineFit.startMakeUp (h : s.LineFit) (z : ZoneId) : (s.startMakeUp z).LineFit := by
  have h0 : ((s.modMakeUp z fun _ => {}).modMakeUp z fun m => { m with
      state := m.command.travelling, timer := some Config.makeUpTravel }).LineFit := h.of_line rfl fun _ => rfl
  exact h0.enqueue _

/-- R7, R107: both dampers' timers are as their states and the fitted field say. -/
theorem State.RecordStored.timed (h : w.RecordStored x z c) (hw : w.Timed) (he : ∀ y, y ≠ z → v.extractOf y = x.extractOf y)
    (hm : ∀ y, y ≠ z → v.makeUpOf y = x.makeUpOf y) (hz : ∀ y, v.zone y = x.zone y)
    (hself : (v.extractOf z).Timed c.fitted ∧ (v.makeUpOf z).Timed c.fitted) : v.Timed := by
  have hx := congrArg Plant.extract h.plant
  have hxm := congrArg Plant.makeUp h.plant
  have hxe : ∀ y, x.extractOf y = w.extractOf y := fun y => congrArg (fun e : Vector ExtractDamper 16 => e[y.val]) hx
  have hxu : ∀ y, x.makeUpOf y = w.makeUpOf y := fun y => congrArg (fun e : Vector MakeUpDamper 16 => e[y.val]) hxm
  refine ⟨fun y => ?_, fun y => ?_⟩
  · by_cases hy : y = z
    · subst hy; rw [hz, h.config]; exact hself.1
    · rw [hz, h.others y hy, he y hy, hxe]; exact hw.1 y
  · by_cases hy : y = z
    · subst hy; rw [hz, h.config]; exact hself.2
    · rw [hz, h.others y hy, hm y hy, hxu]; exact hw.2 y

theorem State.RecordStored.deviceFitted (h : w.RecordStored x z c) (d : Device) :
    x.deviceFitted d = if d = .extract z ∨ d = .makeUp z then c.fitted else w.deviceFitted d := by
  have hh : x.heads = w.heads := congrArg Lasting.heads h.lasting
  have hz : ∀ y, (x.zone y).config.fitted = if y = z then c.fitted else (w.zone y).config.fitted := fun y => by
    split
    · rename_i hy; subst hy; rw [h.config]
    · rename_i hy; rw [h.others y hy]
  cases d with
  | head k => simp [State.deviceFitted, State.head, hh]
  | drive n => simp [State.deviceFitted, State.fan, h.fans]
  | extract y => simpa [State.deviceFitted] using hz y
  | makeUp y => simpa [State.deviceFitted] using hz y

theorem State.InEvaluator.indications (h : s.InEvaluator u) : u.indications = s.indications := by
  have hi := congrArg Plant.indications h.plant
  exact hi

/-- R58, R108: once the path and the roles are judged the dampers are sound, if their timers are. -/
theorem State.rejudged_dampersSound (h : v.Timed) : (v.rejudged z).DampersSound := by
  refine State.dampersSound_iff.2 ⟨(v.rejudged_moves z).timed h, v.rejudged_pathSound z, ?_⟩
  have he := v.rejudged_inEvaluator z
  obtain ⟨hx, hm, _⟩ := he.dampers
  intro y
  simpa only [State.role, State.extractOf, State.makeUpOf, he.resolver, hx, hm, he.indications] using
    v.reprove.recomputeRoles_indicated y

theorem State.ZoneRefit.upkeep (h : w.ZoneRefit x v z c) (hline : w.LineFit → v.LineFit)
    (hself : (v.extractOf z).Timed c.fitted ∧ (v.makeUpOf z).Timed c.fitted) (hf : w.SameFlight v) : w.Upkeep (v.rejudged z) := by
  have hduty := (congrArg Plant.duty h.refit.plant).trans (congrArg Plant.duty h.stored.plant)
  have hfans : v.fans = w.fans := h.refit.fans.trans h.stored.fans
  have halloc : v.alloc = w.alloc := h.refit.alloc.trans h.stored.alloc
  have hzones : ∀ y, v.zone y = x.zone y := fun y => by simp only [State.zone, zones_of_lasting h.refit.lasting]
  have hfan : ∀ n, v.fan n = w.fan n := fun n => by simp only [State.fan, hfans]
  have hd : v.duty = w.duty := hduty
  refine ⟨fun hs => (v.rejudged_moves z).sequenced ⟨⟨?_, fun n => ?_, ?_⟩, fun n => ?_⟩, fun hs => ⟨(v.rejudged_moves z).lineFit (hline hs.1),
    State.rejudged_dampersSound (h.stored.timed (State.dampersSound_iff.1 hs.2).1 h.refit.extractOf h.refit.makeUpOf hzones hself)⟩,
    hf.trans (.of_eq (v.rejudged_fanWork z).queueOnly.inFlight)⟩
  · rw [hd]; exact hs.1.once
  · rw [hd, hfan]; exact hs.1.fitted n
  · rw [halloc]; exact hs.1.runSet
  · rw [hfan]; exact hs.2 n

/-- R107, R153: the line of a zone that becomes fitted. -/
theorem State.RecordStored.fits_lineFit (h : w.RecordStored x z c) (hc : c.fitted = true) (hw : w.LineFit) : (x.fitDampers z).LineFit := by
  have hdampers : (x.dampersFitted z).LineFit := by
    refine hw.refitted (u := (x.fitDevice (.extract z)).fitDevice (.makeUp z)) (D := fun _ => False) (fun d _ hd => ?_) (fun d => ?_)
      ?_ (fun _ _ => id) ?_ fun e he _ => ⟨?_, id⟩
    · have hx := h.deviceFitted d
      show x.deviceFitted d = true
      rw [hx]
      split
      · exact hc
      · exact hd
    · have hl : x.link d = w.link d := by simp only [State.link, h.line]
      rw [← hl]
      rcases (x.line.setLink (.extract z) {}).setLink_links (.makeUp z) d with k | k
      · rcases x.line.setLink_links (.extract z) d with k' | k'
        · exact .inl (k.trans k')
        · exact .inr (k.trans k')
      · exact .inr k
    · rw [← h.line]; exact List.Sublist.refl _
    · rw [← h.line]; rfl
    · rw [← h.line]; exact he
  rw [State.fitDampers_eq]
  exact (hdampers.startExtract z).startMakeUp z

/-- R107, R153: the line of a zone that ceases to be fitted. -/
theorem State.RecordStored.unfits_lineFit (h : w.RecordStored x z c) (hw : w.LineFit) : (x.unfitDampers z).LineFit := by
  have hr := x.unfitDampers_refit z
  have hpolls := hr.polls
  rw [← hpolls]
  have hl : ∀ d, x.link d = w.link d := fun d => by simp only [State.link, h.line]
  refine hw.refitted (D := fun d => d = .extract z ∨ d = .makeUp z) (fun d hd hf => ?_) (fun d => ?_) ?_ (fun o ho => ?_) ?_
    fun e he hd => ?_
  · rw [deviceFitted_of_lasting hr.lasting, h.deviceFitted, if_neg hd]; exact hf
  · by_cases hd : d = .extract z ∨ d = .makeUp z
    · rcases hd with rfl | rfl
      · exact .inr hr.extractLink
      · exact .inr hr.makeUpLink
    · exact .inl ((hr.links d hd).trans (hl d))
  · rw [State.unfitDampers_queue, h.line]; exact List.filter_sublist
  · rw [State.unfitDampers_queue] at ho
    simpa using (List.mem_filter.1 ho).2
  · rw [← h.line]; rfl
  · have hi : disown (.makeUp z) (disown (.extract z) w.line.inFlight) = some e := by rw [← h.line]; exact he
    obtain ⟨h1, hm⟩ := disown_owned hi hd
    obtain ⟨h2, hx⟩ := disown_owned h1 hd
    exact ⟨h2, fun k => k.elim hx hm⟩

/-- R7, R107: an accepted WRITE ZONE, less its passes. -/
theorem State.zoneWritten_upkeep (w : State) (z : ZoneId) (c : ZoneConfig) : w.Upkeep (w.zoneWritten z c) := by
  by_cases h : (w.zone z).config.fitted = c.fitted
  · rw [State.zoneWritten_same h]
    have hs := w.zoneStored_stored z c
    refine .trans (t := w.zoneStored z c) (.of_works ?_) (.of_evaluator (State.refreshed_moves _ z) (State.refreshed_inEvaluator _ z))
    have hz : ∀ y, ((w.zoneStored z c).zone y).config.fitted = (w.zone y).config.fitted := fun y => by
      rw [State.zoneStored_zone]
      split
      · rename_i hy; subst hy; exact h.symm
      · rfl
    have hg : (w.zoneStored z c).gear = w.gear := rfl
    have hh : ∀ k, (w.zoneStored z c).head k = w.head k := fun _ => rfl
    simp only [State.works, hg, hs.line, hz, hh]
  · cases hc : c.fitted with
    | true =>
      have h0 : (w.zone z).config.fitted = false := by simpa [hc] using h
      have hs := w.zoneStored_stored z c
      rw [State.zoneWritten_fits h0 hc]
      refine (hs.fits hc).upkeep (hs.fits_lineFit hc) ?_ (.of_eq ?_)
      · obtain ⟨he, hm⟩ := (w.zoneStored z c).fitDampers_dampers z
        rw [he, hm, hc]; exact ⟨rfl, rfl⟩
      · rw [State.fitDampers_inFlight, hs.line]
    | false =>
      have h1 : (w.zone z).config.fitted = true := by simpa [hc] using h
      have hs := (w.zoneStored_stored z c).unfitZone
      rw [State.zoneWritten_unfits h1 hc]
      refine hs.unfits.upkeep hs.unfits_lineFit ?_ (.disowned (c := fun x => x.device = .extract z ∨ x.device = .makeUp z) ?_)
      · obtain ⟨he, hm⟩ := ((w.zoneStored z c).unfitZone z).unfitDampers_dampers z
        rw [he, hm, hc]; exact ⟨rfl, rfl⟩
      · rw [State.unfitDampers_inFlight, hs.line]

end

end Sys2Proof.Machine

/-! ## Replies, misses and losses keep the plant (R77, R98 to R106, R149 to R153) -/

namespace Sys2Proof.Machine

section
variable (s : State) {t u v : State} {z : ZoneId} {n : FanId} {d : Device} {x : Exchange}

/-! ### The queue alone (R147) -/

variable {s} in
theorem State.QueueOnly.modExtract (h : (s.modExtract z f).QueueOnly u) : s.QueueOnly u := h
variable {s} in
theorem State.QueueOnly.modMakeUp (h : (s.modMakeUp z f).QueueOnly u) : s.QueueOnly u := h
theorem State.enqueue_queueOnly (o : Order) : s.QueueOnly (s.enqueue o) := (s.enqueue_starting o).queueOnly
theorem State.damperFault_queueOnly (k : AlarmKey) : s.QueueOnly (s.damperFault k) := .of_line (State.raiseAlarm_line _ _ _)

theorem State.driveExtract_queueOnly (z : ZoneId) : s.QueueOnly (s.driveExtract z) := (State.enqueue_queueOnly _ _).modExtract
theorem State.faultExtract_queueOnly (z : ZoneId) : s.QueueOnly (s.faultExtract z) := (State.damperFault_queueOnly _ _).modExtract
theorem State.settleExtract_queueOnly (z : ZoneId) : s.QueueOnly (s.settleExtract z) := .of_line rfl
theorem State.judgeExtract_queueOnly (z : ZoneId) : s.QueueOnly (s.judgeExtract z) := by
  unfold State.judgeExtract
  simp only
  split
  · exact s.driveExtract_queueOnly z
  · split
    · exact s.faultExtract_queueOnly z
    · split
      · exact s.settleExtract_queueOnly z
      · exact .of_line rfl
  · split
    · exact s.faultExtract_queueOnly z
    · split
      · exact .of_line rfl
      · exact s.driveExtract_queueOnly z
  · split
    · exact .of_line rfl
    · split
      · exact s.settleExtract_queueOnly z
      · exact .of_line rfl
theorem State.driveMakeUp_queueOnly (z : ZoneId) : s.QueueOnly (s.driveMakeUp z) := (State.enqueue_queueOnly _ _).modMakeUp
theorem State.faultMakeUp_queueOnly (z : ZoneId) : s.QueueOnly (s.faultMakeUp z) := (State.damperFault_queueOnly _ _).modMakeUp
theorem State.judgeMakeUp_queueOnly (z : ZoneId) : s.QueueOnly (s.judgeMakeUp z) := by
  unfold State.judgeMakeUp
  simp only
  split
  · exact s.driveMakeUp_queueOnly z
  · split
    · split
      · exact .of_line rfl
      · exact s.faultMakeUp_queueOnly z
    · split
      · exact .of_line rfl
      · unfold State.straysMakeUp
        split
        · exact s.driveMakeUp_queueOnly z
        · exact s.driveMakeUp_queueOnly z
        · exact .of_line rfl
        · exact .of_line rfl
        · exact .of_line rfl
        · exact .of_line rfl

/-! ### The dampers' replies, losses and expiries -/

variable {s} in
theorem State.Sequenced.of_fans (h : s.Sequenced) (hf : u.fans = s.fans) (hd : u.duty = s.duty) (ha : u.alloc = s.alloc) : u.Sequenced := by
  have hfan : ∀ n, u.fan n = s.fan n := fun n => by simp only [State.fan, hf]
  refine ⟨⟨hd ▸ h.1.once, fun n => by rw [hd, hfan]; exact h.1.fitted n, by rw [ha]; exact h.1.runSet⟩, fun n => by rw [hfan]; exact h.2 n⟩
variable {s} in
theorem State.OnlyExtract.sequenced (h : s.OnlyExtract u z) (hs : s.Sequenced) : u.Sequenced := by
  have hd := congrArg Plant.duty h.plant
  exact hs.of_fans h.fans hd h.alloc
variable {s} in
theorem State.OnlyMakeUp.sequenced (h : s.OnlyMakeUp u z) (hs : s.Sequenced) : u.Sequenced := by
  have hd := congrArg Plant.duty h.plant
  exact hs.of_fans h.fans hd h.alloc

/-- A block's work with one device, given that the device is fitted. -/
structure State.Handles (s t : State) (d : Device) : Prop where
  sequenced : s.Sequenced → t.Sequenced
  outfit : s.deviceFitted d = true → s.Outfit → t.Outfit
  flight : s.SameFlight t

variable {s} in
theorem State.Upkeep.handles (h : s.Upkeep t) (d : Device) : s.Handles t d := ⟨h.sequenced, fun _ => h.outfit, h.flight⟩

theorem State.extractReplied_handles (z : ZoneId) (position flag : Byte) :
    s.Handles (s.extractReplied z position flag) (.extract z) := by
  refine ⟨fun h => (State.reprove_upkeep _).sequenced ((s.judgedExtract_onlyExtract z position flag).sequenced h), fun hf h => ?_,
    .of_eq ((State.QueueOnly.modExtract (State.judgeExtract_queueOnly _ z)).trans (State.reprove_fanWork _).queueOnly).inFlight⟩
  have hm : State.Moves false s (s.extractReplied z position flag) := s.extractReplied_moves z position flag hf
  exact ⟨hm.lineFit h.1, hm.dampersSound (fun _ => State.reprove_path _) h.2⟩
theorem State.OnlyMakeUp.pathSound {s : State} (h : s.OnlyMakeUp u z) (hs : s.PathSound) : u.PathSound := by
  have he := congrArg Plant.extract h.plant
  have hp := congrArg Plant.pathProven h.plant
  exact hs.congr hp he fun y => by simp only [State.zone, zones_of_lasting h.lasting]
theorem State.makeUpReplied_handles (z : ZoneId) (o c flag : Byte) : s.Handles (s.makeUpReplied z o c flag) (.makeUp z) := by
  have ho := s.makeUpReplied_onlyMakeUp z o c flag
  refine ⟨ho.sequenced, fun hf h => ?_, .of_eq (State.QueueOnly.modMakeUp (State.judgeMakeUp_queueOnly _ z)).inFlight⟩
  have hm : State.Moves false s (s.makeUpReplied z o c flag) := s.makeUpReplied_moves z o c flag hf
  exact ⟨hm.lineFit h.1, hm.dampersSound ho.pathSound h.2⟩

theorem State.faultExtract_upkeep (z : ZoneId) : s.Upkeep (s.faultExtract z).reprove := by
  have hm : State.Moves false s (s.faultExtract z).reprove := (s.faultExtract_moves z).trans (State.reprove_moves _)
  exact .of_moves hm (hm.dampersSound fun _ => State.reprove_path _)
    ((s.faultExtract_queueOnly z).trans (State.reprove_fanWork _).queueOnly).inFlight
theorem State.loseMakeUp_onlyMakeUp (z : ZoneId) : s.OnlyMakeUp (s.loseMakeUp z) z := by
  unfold State.loseMakeUp
  split
  · exact .refl s z
  · exact (s.modMakeUp_onlyMakeUp z _).trans (State.damperFault_onlyMakeUp _ z _)
theorem State.faultMakeUp_upkeep (z : ZoneId) : s.Upkeep (s.faultMakeUp z) := by
  have hm : State.Moves false s (s.faultMakeUp z) := s.faultMakeUp_moves z
  exact .of_moves hm (hm.dampersSound (s.faultMakeUp_onlyMakeUp z).pathSound) (s.faultMakeUp_queueOnly z).inFlight
theorem State.loseExtract_upkeep (z : ZoneId) : s.Upkeep (s.loseExtract z) := by
  have hm : State.Moves false s (s.loseExtract z) := s.loseExtract_moves z
  unfold State.loseExtract at hm ⊢
  split
  · exact .refl s
  · rename_i hst
    rw [if_neg hst] at hm
    exact .of_moves hm (hm.dampersSound fun _ => State.reprove_path _)
      ((State.damperFault_queueOnly _ _).modExtract.trans (State.reprove_fanWork _).queueOnly).inFlight
theorem State.loseMakeUp_upkeep (z : ZoneId) : s.Upkeep (s.loseMakeUp z) := by
  have hm : State.Moves false s (s.loseMakeUp z) := s.loseMakeUp_moves z
  have ho : s.OnlyMakeUp (s.loseMakeUp z) z := s.loseMakeUp_onlyMakeUp z
  refine .of_moves hm (hm.dampersSound ho.pathSound) ?_
  unfold State.loseMakeUp
  split
  · rfl
  · exact (State.damperFault_queueOnly _ _).modMakeUp.inFlight
theorem State.ownerLoses_upkeep (d : Device) : s.Upkeep (s.ownerLoses d) := by
  cases d with
  | head h => exact .of_evaluator (s.loseHead_moves h) (s.loseHead_inEvaluator h)
  | drive n => exact s.loseFan_upkeep n
  | extract z => exact s.loseExtract_upkeep z
  | makeUp z => exact s.loseMakeUp_upkeep z

/-! ### The end of an exchange (R149, R150) -/

/-- R149: an exchange that has ended leaves nothing in flight. -/
theorem State.endExchange_upkeep : s.Upkeep s.endExchange :=
  ⟨.of_gear rfl, fun h => ⟨⟨h.1.polls, h.1.position, h.1.once, h.1.queued, h.1.row, h.1.links, fun _ hx => (nomatch hx)⟩,
    State.DampersSound.of_gear (s := s) rfl (fun _ => rfl) h.2⟩, fun _ hx => (nomatch hx)⟩
/-- R149, R152: the link of a device that answers is clear. -/
theorem State.deviceAnswered_upkeep (d : Device) : s.Upkeep (s.deviceAnswered d) :=
  ⟨.of_gear rfl, fun h => ⟨h.1.clearLink d, State.DampersSound.of_gear (s := s) rfl (fun _ => rfl) h.2⟩, .of_eq rfl⟩

theorem State.afterMiss_links (d e : Device) (link : Link) (q : List Order) :
    (s.afterMiss d link q).link e = if e = d then link else s.link e := by
  split
  · rename_i he; subst he; exact s.afterMiss_link e link q
  · rename_i he; exact upd_get_other _ _ fun p => he (Device.place_inj p)
theorem State.afterMiss_gear (d : Device) (link : Link) (q : List Order) : (s.afterMiss d link q).gear = s.gear := rfl

variable {s} in
/-- R150, R151: the line after a miss, where the link is sound and the queue leaves out a device that is lost. -/
theorem State.LineFit.afterMiss (h : s.LineFit) {d : Device} {link : Link} {q : List Order} (hq : q.Sublist s.line.queue)
    (hl : link.misses ≤ Config.missLimit ∧ (link.lost = true ↔ link.misses = Config.missLimit))
    (hd : ∀ o ∈ q, o.device = d → link.lost = false) : (s.afterMiss d link q).LineFit := by
  have hfit := s.afterMiss_deviceFitted d (link := link) (queue := q)
  refine ⟨h.polls.trans (fittedDevices_congr hfit).symm, h.position, h.once.sublist hq, fun o ho => ?_, h.row, fun e => ?_,
    fun _ hx => (nomatch hx)⟩
  · obtain ⟨hfitted, hlost⟩ := h.queued o (hq.subset ho)
    rw [hfit, State.afterMiss_links]
    refine ⟨hfitted, ?_⟩
    split
    · rename_i he; exact hd o ho he
    · exact hlost
  · rw [State.afterMiss_links]
    split
    · exact hl
    · exact h.links e

/-- R150, R151: a miss that is counted and judged. -/
theorem State.missed_upkeep (x : Exchange) : s.Upkeep (s.missed x) := by
  unfold State.missed
  split
  · exact s.endExchange_upkeep
  · rw [State.missCounted_eq]
    unfold State.judgeMiss
    rw [State.afterMiss_link]
    have hgear : ∀ (link : Link) (q : List Order), (s.LineFit → (s.afterMiss x.device link q).LineFit) →
        s.Upkeep (s.afterMiss x.device link q) := fun link q hfit =>
      ⟨.of_gear (s.afterMiss_gear x.device link q), fun h => ⟨hfit h.1, h.2.of_gear (s.afterMiss_gear x.device link q) fun _ => rfl⟩,
        fun _ hx => (nomatch hx)⟩
    split
    · rw [State.markLost_afterMiss]
      refine (hgear _ _ fun h => h.afterMiss List.filter_sublist (by decide) fun o ho hd => ?_).trans (State.ownerLoses_upkeep _ _)
      exact absurd hd (by simpa using (List.mem_filter.1 ho).2)
    · rename_i hlost
      refine (hgear (s.link x.device).counted _ fun h => h.afterMiss (List.Sublist.refl _) ?_ fun o ho hd => ?_).trans ?_
      · obtain ⟨hm, hiff⟩ := h.links x.device
        have hnow := (s.link x.device).counted_lostNow.not.1 hlost
        have hm' : (s.link x.device).misses ≤ 3 := hm
        have hiff' : (s.link x.device).lost = true ↔ (s.link x.device).misses = 3 := hiff
        have hcase : (s.link x.device).misses < 2 ∨ (s.link x.device).misses = 3 := by
          by_cases hk : (s.link x.device).lost = true
          · exact .inr (hiff'.1 hk)
          · have : ¬2 ≤ (s.link x.device).misses := fun h2 => hnow ⟨h2, by simpa using hk⟩
            exact .inl (by omega)
        simp only [Link.counted, Config.missLimit]
        rw [hiff']
        split <;> omega
      · rw [← hd]; exact (h.queued o ho).2
      · unfold State.requeue
        split
        · exact .refl _
        · split
          · exact .refl _
          · exact .of_moves (w := false) (State.enqueue_moves _ _)
              ((State.enqueue_moves _ _).dampersSound fun hp => hp.congr (State.enqueue_pathProven _ _) (State.enqueue_extract _ _)
                fun z => by rw [State.enqueue_zone])
              (State.enqueue_queueOnly _ _).inFlight

end

end Sys2Proof.Machine

/-! ## The resets leave a sound plant (R72, R74, R92, R97, R102, R146, R154, R177, R178) -/

namespace Sys2Proof.Machine

section
variable {s t u c : State}

/-- Sound from any state, with nothing of the sequencer, the line or the dampers owed to it. -/
structure State.Fresh (t : State) : Prop where
  sequenced : t.Sequenced
  line : t.LineSound
  dampers : t.DampersSound
  fans : ∀ n, (t.fan n).state ≠ .enrolHold

theorem State.Fresh.serviced (h : t.Fresh) (s : State) : s.Serviced t :=
  ⟨fun _ => h.sequenced, fun _ _ => ⟨h.line, h.dampers⟩, fun n _ hn => absurd hn (h.fans n)⟩
theorem State.Fresh.withPending (h : t.Fresh) (l : List Instr) : State.Fresh { t with pending := l } := by
  obtain ⟨hseq, hline, hdampers, hfans⟩ := h
  obtain ⟨hl, hp⟩ := (State.Serviced.of_works (s := t) (t := { t with pending := l }) rfl).plant hline hdampers
  exact ⟨State.Sequenced.of_works (s := t) rfl hseq, hl, hp, hfans⟩

theorem State.factoryReset_fresh (s : State) : s.factoryReset.Fresh := by
  rw [State.factoryReset_eq]
  exact State.Fresh.withPending ⟨⟨State.reset_dutySound, State.reset_fansSound⟩, State.reset_lineSound, State.reset_dampersSound,
    fun n => by rw [State.reset_fan]; decide⟩ _

theorem State.NewFans.sound (h : s.NewFans) : s.FansSound := fun n => by
  rw [h n]
  cases hf : (s.fan n).config.fitted <;>
    exact ⟨by simp [hf], by simp [FanState.timed], by simp [FanState.enrolled]⟩
theorem State.NewFans.not_enrolHold (h : s.NewFans) (n : FanId) : (s.fan n).state ≠ .enrolHold := by
  have hn := congrArg Fan.state (h n)
  simp only at hn
  rw [hn]
  split <;> decide

theorem State.Loaded.begun_dutySound (h : c.Loaded) : c.begun.DutySound := by
  have hr := congrArg AllocRecord.runSet h.record
  refine ⟨?_, fun n => ?_, ?_⟩
  · rw [h.begun_duty_eq]; exact (List.nodup_finRange 8).filter _
  · rw [h.begun_duty_eq]; simp
  · rw [show c.begun.alloc.record.runSet = [] from hr]; exact List.nodup_nil

/-- R146, R154: the line before the dampers and the drives are started. -/
theorem State.Loaded.worked_lineFit (h : c.Loaded) : c.worked.LineFit := by
  have hl := h.line_worked
  refine ⟨?_, fun hp => ?_, ?_, ?_, ?_, fun d => ?_, ?_⟩
  · rw [hl]
  · rw [hl] at hp ⊢
    obtain ⟨d, l, hd⟩ := List.exists_cons_of_ne_nil hp
    simp only at hd
    exact ⟨d, by simp only; rw [hd]; rfl, by simp only; rw [hd]; exact List.mem_cons_self⟩
  · rw [hl]; exact List.Pairwise.nil
  · rw [hl]; exact fun _ ho => (nomatch ho)
  · rw [hl]; exact Nat.zero_le _
  · rw [h.link_worked]; decide
  · rw [hl]; exact fun _ hx => (nomatch hx)
/-- R147, R178: the commands of the start are queued for fitted devices. -/
theorem State.Loaded.begun_lineFit (h : c.Loaded) : c.begun.LineFit := by
  rw [h.begun_eq]
  have hdampers : c.worked.startExtracts.startMakeUps.LineFit :=
    foldl_keeps (P := State.LineFit) (fun q z k => by
      split
      · exact k.startMakeUp z
      · exact k) _ _ (foldl_keeps (P := State.LineFit) (fun q z k => by
        split
        · exact k.startExtract z
        · exact k) _ _ h.worked_lineFit)
  exact foldl_keeps (P := State.LineFit) (fun q n k => by
    split
    · rename_i hf; exact (State.enterEnrolling_moves (w := true) q n fun _ => hf).lineFit k
    · exact k) _ _ hdampers

/-- R97, R102, R109: the dampers of the start travel, and prove no path. -/
theorem State.Loaded.begun_dampersSound (h : c.Loaded) : c.begun.DampersSound := by
  refine State.dampersSound_iff.2 ⟨⟨fun z => ?_, fun z => ?_⟩, ?_, h.begun_indicated⟩
  · rw [(h.dampers z).1]
    cases hf : (c.begun.zone z).config.fitted <;> simp [ExtractDamper.Timed]
  · rw [(h.dampers z).2.1]
    cases hf : (c.begun.zone z).config.fitted <;> simp [MakeUpDamper.Timed]
  · rw [State.PathSound, h.begun_pathProven]
    refine iff_of_false (by decide) ?_
    rintro ⟨z, _, _, hst, _⟩
    rw [(h.dampers z).1] at hst
    cases hst

/-- R177, R178: what a reset leaves is sound. -/
theorem State.restart_fresh (s : State) (cut : StoreCut) : (s.restart cut).Fresh := by
  rw [State.restart_eq]
  generalize ({ s with store := s.store.after cut } : State) = q
  have hL : q.volatileReset.loadGroups.correctBase.Loaded := q.corrected_loaded
  have hW := hL.woken
  unfold State.primed
  generalize q.volatileReset.loadGroups.correctBase = c at *
  have hu : c.begun.Upkeep c.begun.trigger := .of_works (State.triggerIf_works _ true)
  obtain ⟨hfit, hdampers⟩ := hu.outfit ⟨hL.begun_lineFit, hL.begun_dampersSound⟩
  have hfans : ∀ n, (c.begun.trigger.finish.fan n).state ≠ .enrolHold := fun n => by
    rw [hW.fan, State.trigger_fan]
    exact hL.begun_newFans.not_enrolHold n
  have hseq := hu.sequenced ⟨hL.begun_dutySound, hL.begun_newFans.sound⟩
  generalize c.begun.trigger = b at *
  exact State.Fresh.withPending ⟨(State.finish_moves (w := true) b).sequenced hseq, hfit.finish,
    (State.finish_moves b).dampersSound b.finish_path hdampers, hfans⟩ _

end

end Sys2Proof.Machine

/-! ## What each command owes the plant (R74 to R109, R146 to R153) -/

namespace Sys2Proof.Machine

section
variable {s t u w : State} {p : Port} {n : FanId} {z : ZoneId} {index : Byte} {data : List Word}

/-! ### Requests -/

/-- R156 to R158: the taking of the frame and the response are beside the plant. -/
theorem State.Serviced.serve {row : CatalogueRow} {body : State → Answer} (h : ∀ u : State, u.Serviced (body u).state) :
    s.Serviced (serve row p index data body s) := by
  have hframe := s.frameTaken_works p
  have hrefused : s.Serviced (s.frameTaken p) := .of_works hframe
  unfold Machine.serve
  split
  · unfold generalChecks
    refine State.Serviced.after (t := (if row.ports.contains p = false then refuse (s.frameTaken p) .refusedPort
      else if data.length ≠ row.words then refuse (s.frameTaken p) .refusedValue else body (s.frameTaken p)).state) ?_ rfl
    split
    · exact hrefused
    · split
      · exact hrefused
      · exact (h _).before hframe
  · exact .of_works rfl

theorem State.Serviced.guarded (u : State) : u.Serviced (refuseGuarded u).state := .of_works rfl
theorem State.Serviced.unlessGuarded {body : Answer} (h : u.Serviced body.state) : u.Serviced (unlessGuarded u body).state := by
  unfold Machine.unlessGuarded
  split
  · exact .guarded u
  · exact h

theorem ackAlarmBody_serviced (u : State) : u.Serviced (ackAlarmBody p data u).state := by
  unfold ackAlarmBody
  split
  · exact .refl u
  · split
    · exact .refl u
    · split
      · exact .refl u
      · exact .of_works rfl

theorem writeZoneBody_serviced (u : State) : u.Serviced (writeZoneBody index data u).state := by
  unfold writeZoneBody
  split
  · exact .refl u
  · split
    · exact .guarded u
    · split
      · exact .refl u
      · split
        · exact (u.zoneWritten_upkeep _ _).finish
        · exact .refl u

theorem writeHeadBody_serviced (u : State) : u.Serviced (writeHeadBody index data u).state := by
  unfold writeHeadBody
  split
  · exact .refl u
  · refine .unlessGuarded ?_
    split
    · exact .refl u
    · exact (u.headWritten_upkeep _ _).finish

theorem writeFanBody_serviced (u : State) : u.Serviced (writeFanBody index data u).state := by
  unfold writeFanBody
  split
  · exact .refl u
  · refine .unlessGuarded ?_
    split
    · exact .refl u
    · split
      · exact .refl u
      · exact (u.fanWritten_upkeep _ _).finish

theorem writePlanBody_serviced (u : State) : u.Serviced (writePlanBody p index data u).state := by
  unfold writePlanBody writePlanValues
  split
  · exact .refl u
  · split
    · exact .refl u
    · split
      · split
        · exact .guarded u
        · exact .refl u
      · split
        · exact .refl u
        · split
          · exact (u.planWritten_upkeep _ _ _).finish
          · exact .refl u

theorem selectBasePlanBody_serviced (u : State) : u.Serviced (selectBasePlanBody index u).state := by
  unfold selectBasePlanBody
  split
  · exact .refl u
  · split
    · exact .refl u
    · exact (u.baseSelected_upkeep _).finish

theorem setZoneClosureBody_serviced (u : State) : u.Serviced (setZoneClosureBody index data u).state := by
  unfold setZoneClosureBody
  split
  · exact .refl u
  · refine .unlessGuarded ?_
    split
    · exact .refl u
    · exact (u.closureSet_upkeep _ _).finish

theorem setBoostBody_serviced (u : State) : u.Serviced (setBoostBody index data u).state := by
  unfold setBoostBody
  split
  · exact (State.Upkeep.of_evaluator (u.boostAll_moves _) (u.boostAll_inEvaluator _)).finish
  · split
    · exact .refl u
    · split
      · exact .refl u
      · split
        · exact .guarded u
        · exact (State.Upkeep.of_evaluator (u.setBoost_moves _ _) (u.setBoost_inEvaluator _ _)).finish

theorem setFanServiceBody_serviced (u : State) : u.Serviced (setFanServiceBody index data u).state := by
  unfold setFanServiceBody
  split
  · exact .refl u
  · refine .unlessGuarded ?_
    split
    · exact .refl u
    · exact (u.serviceSet_upkeep _ _).finish

/-- R80: a fan of the group, or resting, has been enrolled; start pending and the re-enrolment do not change that. -/
theorem State.modFan_able (u : State) (n : FanId) {f : Fan → Fan} (hf : ∀ q, (f q).state = q.state)
    (h : (u.fan n).state.enrolled = true) : ((u.modFan n f).fan n).Sound → ((u.modFan n f).fan n).Able := fun hs => by
  refine hs.able ?_
  rw [State.modFan_fan_self, hf]; exact h

theorem reenrolByState_serviced (u : State) (n : FanId) : u.Serviced (reenrolByState n u).state := by
  have hhold : (u.fan n).state.enrolled = true →
      u.Serviced ((u.modFan n fun f => { f with startPending := false }).enterEnrolHold n).finish := fun h =>
    ((u.modFan_upkeep n fun f => { f with startPending := false }).trans
      (State.enterEnrolHold_upkeep _ n (u.modFan_able n (fun _ => rfl) h))).finish
  have hstop : (u.fan n).state.enrolled = true →
      u.Serviced ((u.modFan n fun f => { f with startPending := false, reenrolPending := true }).stopFan n).finish := fun h =>
    ((u.modFan_upkeep n fun f => { f with startPending := false, reenrolPending := true }).trans
      (State.stopFan_upkeep _ n (u.modFan_able n (fun _ => rfl) h))).finish
  unfold reenrolByState
  split
  case h_1 hst => exact hhold (by rw [hst]; rfl)
  case h_2 hst => exact hhold (by rw [hst]; rfl)
  case h_3 hst => exact hstop (by rw [hst]; rfl)
  case h_4 hst => exact hstop (by rw [hst]; rfl)
  all_goals exact .refl u

theorem reenrolFanBody_serviced (u : State) : u.Serviced (reenrolFanBody index u).state := by
  unfold reenrolFanBody
  split
  · exact .refl u
  · exact .unlessGuarded (reenrolByState_serviced u _)

theorem resetFanBody_serviced (u : State) : u.Serviced (resetFanBody p index u).state := by
  unfold resetFanBody
  split
  · exact .refl u
  · split
    · exact .guarded u
    · split
      · exact .refl u
      · split
        · exact .refl u
        · rename_i ht
          split
          · exact .refl u
          · exact (u.fanReset_upkeep _ (by simpa using ht)).finish

theorem clearCountsBody_serviced (u : State) : u.Serviced (clearCountsBody u).state :=
  .unlessGuarded (u.countsCleared_upkeep.serviced rfl)

theorem factoryClearBody_serviced (u : State) : u.Serviced (factoryClearBody u).state := by
  unfold factoryClearBody
  split
  · exact .refl u
  · exact u.factoryReset_fresh.serviced u

theorem fireAlarmBody_serviced (u : State) : u.Serviced (fireAlarmBody index u).state := by
  unfold fireAlarmBody
  split
  · exact .refl u
  · split
    · exact (u.fireAlarmed_upkeep _).finish
    · exact .refl u

theorem supplyStateBody_serviced (u : State) : u.Serviced (supplyStateBody data u).state := by
  unfold supplyStateBody
  split
  · exact .refl u
  · exact (State.Upkeep.of_works (u.supplySet_works _)).finish

theorem writePlanMapBody_serviced (u : State) : u.Serviced (writePlanMapBody data u).state := by
  unfold writePlanMapBody
  split
  · exact .refl u
  · split
    · exact .refl u
    · split
      · exact .of_works (u.mapWritten_works _)
      · exact .refl u

theorem setPlanKindBody_serviced (u : State) : u.Serviced (setPlanKindBody index data u).state := by
  unfold setPlanKindBody setPlanKindValue
  split
  · exact .refl u
  · split
    · exact .refl u
    · split
      · exact .refl u
      · split
        · exact .refl u
        · split
          · exact .refl u
          · exact .of_works (u.kindSet_works _ _)

theorem giveControlBody_serviced (u : State) : u.Serviced (giveControlBody u).state := by
  unfold giveControlBody
  split
  · exact u.giveControl_upkeep.finish
  · exact .refl u

theorem setZoneOverrideBody_serviced (u : State) : u.Serviced (setZoneOverrideBody index data u).state := by
  unfold setZoneOverrideBody
  split
  · exact .refl u
  · split
    · split
      · exact .refl u
      · exact (u.overrideSet_upkeep _ _).finish
    · exact .refl u

theorem setFanBlockBody_serviced (u : State) : u.Serviced (setFanBlockBody index data u).state := by
  unfold setFanBlockBody
  split
  · exact .refl u
  · split
    · split
      · exact .refl u
      · exact (State.Upkeep.of_works (u.blockSet_works _ _)).finish
    · exact .refl u

theorem selectPlanBody_serviced (u : State) : u.Serviced (selectPlanBody index u).state := by
  unfold selectPlanBody
  split
  · exact .refl u
  · split
    · exact (u.selectPlan_upkeep _).finish
    · exact .refl u

theorem returnToAutomaticBody_serviced (u : State) : u.Serviced (returnToAutomaticBody u).state := by
  unfold returnToAutomaticBody
  split
  · split
    · exact (State.Upkeep.plan u.toAutomatic_works _).finish
    · exact .refl u
  · exact .refl u

/-! ### The field line and the timers -/

/-- R149, R153: a reply is handed to an owner of a fitted device, or the exchange ends. -/
theorem State.Serviced.takeReply {α : Type} {address : Byte} {kind : Device → Option α} {owner : α → Option Order → State → State}
    (h : ∀ d a k (u : State), kind d = some a → u.Handles (owner a k u) d) : s.Serviced (s.takeReply address kind owner) := by
  unfold State.takeReply
  split
  · rename_i x a hx
    unfold State.answers at hx
    split at hx
    · cases hx
    · rename_i y hy
      split at hx
      · obtain ⟨b, hk, hb⟩ := Option.map_eq_some_iff.1 hx
        cases hb
        unfold State.exchangeAnswered
        split
        · exact s.endExchange_upkeep.finish
        · rename_i hd
          have hend := s.endExchange_upkeep.trans (State.deviceAnswered_upkeep _ x.device)
          have hown := h x.device a x.order (s.endExchange.deviceAnswered x.device) hk
          exact State.Upkeep.finish ⟨hown.sequenced ∘ hend.sequenced, fun hs =>
            hown.outfit (hs.1.flight x hy (by simpa using hd)) (hend.outfit hs), hend.flight.trans hown.flight⟩
      · cases hx
  · exact .refl s

theorem State.tripped_serviced {n : FanId} {st : FanState} (d : FanDetail) (ht : (s.fan n).timing st = true) (he : st.enrolled = true) :
    s.Serviced (s.tripFan n d).finish := by
  have hst := (Fan.timing_iff.1 ht).1
  exact (s.tripFan_upkeep n d fun hs => hs.able (hst ▸ he)).finish

theorem State.Serviced.of_next (e : (Host.Outcome.next w : Result) = .next t) (h : s.Serviced w) : s.Serviced t := by
  cases e; exact h
theorem State.Serviced.unlessNot {b : Bool} (h : b = true → s.Serviced t) : s.Serviced (if b then t else s) := by
  cases b with
  | false => exact .refl s
  | true => exact h rfl

theorem unknownRequest_serviced {code object : Byte} (e : execUnknownRequest p code object index data s = .next t) : s.Serviced t := by
  unfold execUnknownRequest at e
  split at e
  · cases e
  · split at e
    · exact .of_next e ((State.Serviced.of_works (s.frameTaken_works p)).after rfl)
    · exact .of_next e (.of_works rfl)

theorem read_serviced (p : Port) (object index : Byte) (data : List Word) :
    s.Serviced (if s.takesFrame p data then respond p rowRead.code index (readChecks object index p data (s.frameTaken p))
      else s.discardFrame p) := by
  split
  · have hread : (readChecks object index p data (s.frameTaken p)).state = s.frameTaken p := by
      unfold readChecks generalChecks readBody
      split
      · rfl
      · split
        · rfl
        · split
          · rfl
          · split <;> rfl
    refine (State.Serviced.of_works (s.frameTaken_works p)).after ?_
    unfold respond
    rw [hread]
    rfl
  · exact .of_works rfl

theorem replyTimeout_serviced (e : execReplyTimeout s = .next t) : s.Serviced t := by
  unfold execReplyTimeout at e
  split at e
  · exact .of_next e (s.missed_upkeep _).finish
  · exact .of_next e (.refl s)

/-- R74 to R81, R97 to R109, R146 to R153: one arm for each command. -/
theorem exec_serviced : ∀ c : Instr, exec c s = .next t → s.Serviced t
  | .ping _ _ _, e => .of_next e (.serve fun _ => .of_works rfl)
  | .read p object index data, e => .of_next e (read_serviced p object index data)
  | .readNotices _ _ _, e => .of_next e (.serve fun _ => .of_works rfl)
  | .ackNotices _ _ _, e => .of_next e (.serve fun _ => .of_works rfl)
  | .setNoticeMask _ _ _, e => .of_next e (.serve fun _ => .of_works rfl)
  | .endService _ _ _, e => .of_next e (.serve fun _ => .of_works rfl)
  | .readAlarmList _ _ _, e => .of_next e (.serve fun _ => .of_works rfl)
  | .ackAlarm _ _ _, e => .of_next e (.serve ackAlarmBody_serviced)
  | .writeZone _ _ _, e => .of_next e (.serve writeZoneBody_serviced)
  | .writeHead _ _ _, e => .of_next e (.serve writeHeadBody_serviced)
  | .writeFan _ _ _, e => .of_next e (.serve writeFanBody_serviced)
  | .writeNormalBudget _ _ _, e => .of_next e (.serve fun u => .unlessGuarded (State.Upkeep.of_works (u.normalWritten_works _)).finish)
  | .writePlan _ _ _, e => .of_next e (.serve writePlanBody_serviced)
  | .selectBasePlan _ _ _, e => .of_next e (.serve selectBasePlanBody_serviced)
  | .setZoneClosure _ _ _, e => .of_next e (.serve setZoneClosureBody_serviced)
  | .setBoost _ _ _, e => .of_next e (.serve setBoostBody_serviced)
  | .setFanService _ _ _, e => .of_next e (.serve setFanServiceBody_serviced)
  | .reenrolFan _ _ _, e => .of_next e (.serve reenrolFanBody_serviced)
  | .resetFan _ _ _, e => .of_next e (.serve resetFanBody_serviced)
  | .clearCounts _ _ _, e => .of_next e (.serve clearCountsBody_serviced)
  | .factoryClear _ _ _, e => .of_next e (.serve factoryClearBody_serviced)
  | .fireAlarm _ _ _, e => .of_next e (.serve fireAlarmBody_serviced)
  | .fireReset _ _ _, e => .of_next e (.serve fun u => u.fireReset_upkeep.finish)
  | .supplyState _ _ _, e => .of_next e (.serve supplyStateBody_serviced)
  | .writePlanMap _ _ _, e => .of_next e (.serve writePlanMapBody_serviced)
  | .writeStandbyBudget _ _ _, e => .of_next e (.serve fun u => (State.Upkeep.of_works (u.standbyWritten_works _)).finish)
  | .setPlanKind _ _ _, e => .of_next e (.serve setPlanKindBody_serviced)
  | .takeControl _ _ _, e => .of_next e (.serve fun u => .of_works u.takeControl_works)
  | .giveControl _ _ _, e => .of_next e (.serve giveControlBody_serviced)
  | .setZoneOverride _ _ _, e => .of_next e (.serve setZoneOverrideBody_serviced)
  | .setFanBlock _ _ _, e => .of_next e (.serve setFanBlockBody_serviced)
  | .selectPlan _ _ _, e => .of_next e (.serve selectPlanBody_serviced)
  | .returnToAutomatic _ _ _, e => .of_next e (.serve returnToAutomaticBody_serviced)
  | .unknownRequest _ _ _ _ _, e => unknownRequest_serviced e
  | .requestFrameDiscarded _ _, e => .of_next e (.of_works rfl)
  | .lineQuiet _, e => .of_next e (.of_works rfl)
  | .headReply _ status co no2, e => .of_next e (.takeReply fun d h _ u _ =>
      (State.Upkeep.of_evaluator (u.headReplied_moves h status co no2) (u.headReplied_inEvaluator h status co no2)).handles d)
  | .statusReply _ _ _ _, e => .of_next e (.takeReply fun d n _ u _ => (u.driveReply_upkeep n _ _ _ _ _).handles d)
  | .abilityReply _ _ _ _ _ _ _, e => .of_next e (.takeReply fun d n _ u _ => (u.driveReply_upkeep n _ _ _ _ _).handles d)
  | .extractReply _ _ _, e => .of_next e (.takeReply fun d z _ u k => by
      cases d with
      | extract y => cases k; exact u.extractReplied_handles z _ _
      | head | drive | makeUp => cases k)
  | .makeUpReply _ _ _ _, e => .of_next e (.takeReply fun d z _ u k => by
      cases d with
      | makeUp y => cases k; exact u.makeUpReplied_handles z _ _ _
      | head | drive | extract => cases k)
  | .fieldFrameDiscarded _, e => .of_next e (.refl s)
  | .replyTimeout, e => replyTimeout_serviced e
  | .fallTimerExpiry z, e => .of_next e (.unlessNot fun _ => (s.fallExpired_upkeep z).finish)
  | .boostExpiry z, e => .of_next e (.unlessNot fun _ =>
      (State.Upkeep.of_evaluator (s.setBoost_moves z none) (s.setBoost_inEvaluator z none)).finish)
  | .purgeTimerExpiry, e => .of_next e (.unlessNot fun _ => s.doReturn_upkeep.finish)
  | .startLimitExpiry _, e => .of_next e (.unlessNot fun h => State.tripped_serviced .startFail h rfl)
  | .stopLimitExpiry _, e => .of_next e (.unlessNot fun h => State.tripped_serviced .stopFail h rfl)
  | .restartHoldExpiry n, e => .of_next e (.unlessNot fun h =>
      (s.enterReady_upkeep n fun q => q.able ((Fan.timing_iff.1 h).1 ▸ rfl)).finish)
  | .enrolHoldExpiry n, e => .of_next e (.unlessNot fun h =>
      (s.enterEnrolling_upkeep n fun q => q.fitted (by rw [(Fan.timing_iff.1 h).1]; decide)).finish)
  | .graceTimerExpiry, e => .of_next e (.unlessNot fun _ => s.graceExpired_upkeep.finish)
  | .extractTravelTimerExpiry z, e => .of_next e (.unlessNot fun _ => (s.faultExtract_upkeep z).finish)
  | .makeUpTravelTimerExpiry z, e => .of_next e (.unlessNot fun _ => (s.faultMakeUp_upkeep z).finish)
  | .stageDownTimerExpiry, e => .of_next e (.unlessNot fun _ => (s.pass_upkeep true).finish)
  | .startUpWindowEnd, e => .of_next e (.unlessNot fun _ => (State.Upkeep.of_works (s := s) (t := s.closeWindow) rfl).finish)
  | .silenceTimerExpiry p, e => .of_next e (.unlessNot fun _ => (s.linkGone_upkeep p).finish)
  | .holdOffExpiry _, e => .of_next e (.unlessNot fun _ => .of_works rfl)
  | .powerOn cut, e => .of_next e ((s.restart_fresh cut).serviced s)
  | .resetLine cut, e => .of_next e ((s.restart_fresh cut).serviced s)
  | .partTimeTick, e => .of_next e (s.second_upkeep.serviced rfl)

theorem step_serviced (e : step s = .next t) : s.Serviced t := by
  match hq : s.pending with
  | [] =>
    rw [step_of_pending_nil hq] at e
    exact .of_next e (.refl s)
  | c :: rest =>
    rw [step_of_pending_cons hq] at e
    exact (exec_serviced c e).before rfl

/-- Settles O57: each command's work keeps the records and the duty list sound (`State.Upkeep`), and so do the passes after it. -/
theorem fanSequencerStaysSound : Obligations.FanSequencerStaysSound := by
  unfold Obligations.FanSequencerStaysSound
  intro s t hduty hfans e
  exact (step_serviced e).sequenced ⟨hduty, hfans⟩

/-- Settles O58: each command's work keeps the line but for its idle law, and the dampers; the end of the step chooses the next
exchange, which makes the line whole and holds an OFFER back. -/
theorem lineAndDampersStaySound : Obligations.LineAndDampersStaySound := by
  unfold Obligations.LineAndDampersStaySound
  intro s t hline hdampers e
  have h := step_serviced e
  obtain ⟨hl, hd⟩ := h.plant hline hdampers
  exact ⟨hl, hd, h.offers⟩

end

end Sys2Proof.Machine

/-! ## A fan that trips, stops or enters READY, with its entry, its trigger and its command (R83, R85, R87, R89, R91) -/

namespace Sys2Proof.Machine

section
variable (s : State) {t u v x : State} (n : FanId) {q : Fan} {detail : FanDetail} {k : AlarmKey}

/-! ### Triggers and commands -/

/-- R91: a move that counts is a trigger. -/
theorem State.enterState_due {st : FanState} {timer : Option Nat} (h : eligibilityMove s.resolver.smoke (s.fan n).state st = true) :
    (s.enterState n st timer).alloc.due = true := by
  simp [State.enterState, State.triggerIf_eq, h]
theorem State.enterState_due_iff (st : FanState) (timer : Option Nat) : (s.enterState n st timer).alloc.due = true ↔
    s.alloc.due = true ∨ eligibilityMove s.resolver.smoke (s.fan n).state st = true := by
  simp [State.enterState, State.triggerIf_eq]

/-- R147: the STOP of a drive that takes commands is queued. -/
theorem State.queueStop_mem (hc : (s.fan n).config.fitted = true) (hl : (s.link (.drive n)).lost = false) :
    .stop n ∈ (s.queueStop n).line.queue := by
  refine State.enqueue_mem _ _ ?_ hl
  show ((s.modFan n _).fan n).config.fitted = true
  rw [State.modFan_fan_self]; exact hc
/-- R147: the OFFER of a drive that takes commands is queued. -/
theorem State.enterEnrolling_mem (hc : (s.fan n).config.fitted = true) (hl : (s.link (.drive n)).lost = false) :
    .offer n ∈ (s.enterEnrolling n).line.queue := by
  have hw : s.FanWork ((s.modFan n fun f =>
      { f with ability := none, mode := none, cls := none, minSpeed := none, plainAnswers := 0 }).enterState n .enrolling none) (· = n) :=
    (s.modFan_fanWork n _).trans (State.enterState_fanWork _ n _ _)
  refine State.enqueue_mem _ _ ?_ ((congrArg Link.lost (hw.link _)).trans hl)
  show (State.fan _ n).config.fitted = true
  rw [State.enterState_fan, State.modFan_fan_self]; exact hc
/-- R147: the command of a fan stays queued while its state is entered. -/
theorem State.enterState_queue (st : FanState) (timer : Option Nat) : (s.enterState n st timer).line.queue = s.line.queue := by
  rw [State.enterState, State.triggerIf_line]; rfl
theorem State.stopFan_mem (hc : (s.fan n).config.fitted = true) (hl : (s.link (.drive n)).lost = false) :
    .stop n ∈ (s.stopFan n).line.queue := by
  rw [State.stopFan, State.enterState_queue]
  exact s.queueStop_mem n hc hl

/-! ### READY (R83, R89, R91) -/


/-- R83, R89, R91: a fan that has not been of the group, or with a trigger that waits, enters READY. -/
theorem State.enterReady_readiedFrom (h : (s.fan n).state.inGroup = false ∨ s.alloc.due = true) :
    s.Readied (s.enterReady n) n (s.fan n) := by
  refine ⟨s.enterReady_fan n, fun hs => ?_, ?_, fun hc hl hp hpr => ?_⟩
  · rw [(s.enterReady_clears n).1]; exact hs.clear_hasActive _ _
  · have hd : (s.enterState n .ready none).alloc.due = true := by
      rw [State.enterState_due_iff]
      exact h.symm.imp_right fun h => by simp [eligibilityMove, h, show FanState.ready.inGroup = true from rfl]
    exact ((State.clearAlarm_fanWork _ n).trans (State.startIfAllowed_fanWork _ n)).due hd
  · generalize hx : (s.enterState n .ready none).clearAlarm (.fanFault n) = x
    have hxf : x.fan n = { s.fan n with state := .ready, timer := none } := by
      rw [← hx, State.clearAlarm_fan, State.enterState_fan]
    have ho : s.OnlyFan x n := hx ▸ (s.enterState_onlyFan n .ready none).trans (State.clearAlarm_onlyFan _ n _)
    have he : s.enterReady n = x.startFan n := by
      unfold State.enterReady State.startIfAllowed
      rw [hx, if_pos]
      rw [ho.pathProven, hpr, hxf]; simpa using hp
    rw [he, (x.startFan_fanWork n).link] at hl
    have hm := x.startFan_run n (by rw [hxf]; exact hc) hl
    rw [hxf, ho.record] at hm
    rw [he]
    exact hm

/-- R83: the record of a fan that has entered READY does not depend on the state it left. -/
theorem Fan.readied_of_state (f : Fan) (st : FanState) (timer : Option Nat) (p : Bool) (r : AllocRecord) :
    ({ f with state := st, timer := timer } : Fan).readied p r = f.readied p r := by
  unfold Fan.readied
  split <;> rfl

variable {s n}

/-- What is read of a state that a READY fan or a trip is judged from. -/
structure State.Background (s x : State) : Prop where
  quiet : s.Quiet x
  pathProven : x.pathProven = s.pathProven
  record : x.alloc.record = s.alloc.record
  lasting : x.lasting = s.lasting

theorem State.Background.partTime (h : s.Background x) : x.partTime = s.partTime := congrArg Lasting.partTime h.lasting
theorem State.Readied.from (h : x.Readied u n q) (b : s.Background x) : s.Readied u n q := by
  obtain ⟨hfan, hentry, hdue, hrun⟩ := h
  rw [b.pathProven, b.record] at hfan hrun
  rw [b.quiet.1] at hentry
  exact ⟨hfan, hentry, hdue, hrun⟩
theorem State.Clears.from (h : x.Clears u k) (q : s.Quiet x) (ht : x.partTime = s.partTime) : s.Clears u k := by
  obtain ⟨ha, hp⟩ := h
  refine ⟨?_, hp.trans q.2⟩
  rw [ha, State.clearAlarm_alarms, State.clearAlarm_alarms, q.1, ht]
theorem State.Tripped.from (h : x.Tripped u n q detail) (b : s.Background x) : s.Tripped u n q detail := by
  obtain ⟨hfan, hdue, hnotice, hstop, hentry, halarms⟩ := h
  rw [resolver_of_lasting b.lasting] at hdue
  rw [b.quiet.1] at hentry
  exact ⟨hfan, hdue, hnotice, hstop, hentry, halarms.from b.quiet b.partTime⟩

/-- R83: nor does the rest of a fan's entering READY. -/
theorem State.Readied.of_state {st : FanState} {timer : Option Nat} (h : s.Readied u n { q with state := st, timer := timer }) :
    s.Readied u n q := by
  obtain ⟨hfan, hentry, hdue, hrun⟩ := h
  rw [Fan.readied_of_state] at hfan
  exact ⟨hfan, hentry, hdue, hrun⟩

/-! ### TRIPPED (R87, R91) -/

variable (s n)

/-- R91: a trip that counts is a trigger. -/
theorem tripped_eligibility (smoke : Bool) (st : FanState) : eligibilityMove smoke st .tripped = true ↔
    st ∈ [.ready, .starting, .running] ∨ (st = .restartHold ∧ smoke = true) := by
  cases st <;> cases smoke <;> decide

/-- R87, R91: a fan trips. -/
theorem State.tripFan_tripped (detail : FanDetail) : s.Tripped (s.tripFan n detail) n (s.fan n) detail := by
  have hF := s.tripFan_faults n detail
  refine ⟨s.tripFan_fan n detail, fun h => ?_, hF.noticedByAll, fun hc hl => ?_, fun hr => ?_, hF⟩
  · have hd : ((s.modFan n fun f => { f with startPending := false, trips := bump Config.lastCount f.trips }).enterState n .tripped
        none).alloc.due = true := by
      refine State.enterState_due _ n ?_
      rw [State.modFan_fan_self]
      exact (tripped_eligibility _ _).2 h
    exact (((State.queueStop_fanWork _ n).trans (State.raiseAlarm_fanWork _ n _)).trans
      (State.raiseAll_fanWork (P := (· = n)) _ .deviceFault)).due hd
  · rw [(s.tripFan_fanWork n detail).link] at hl
    generalize hx : (s.modFan n fun f => { f with startPending := false, trips := bump Config.lastCount f.trips }).enterState n .tripped
      none = x
    have hw : s.FanWork x (· = n) := hx ▸ (s.modFan_fanWork n _).trans (State.enterState_fanWork _ n _ _)
    have hxf : (x.fan n).config = (s.fan n).config := by rw [← hx, State.enterState_fan, State.modFan_fan_self]
    have hq : (s.tripFan n detail).line = (x.queueStop n).line := by
      rw [State.tripFan, hx, State.raiseAll_line, State.raiseAlarm_line]
    rw [hq]
    exact x.queueStop_mem n (by rw [hxf]; exact hc) ((congrArg Link.lost (hw.link _)).trans hl)
  · rw [hF.1, State.raiseAlarm_alarms]
    exact AlarmList.raise_listed hr _ _

end

end Sys2Proof.Machine

/-! ## The fans in turn: each is worked on from the state the fans before it have left (R82, R83, R90) -/

namespace Sys2Proof.Machine

section
variable {s t u : State} {n : FanId}

/-- From s to u the sequencer has worked on other fans than n. -/
structure State.BesideFan (s u : State) (n : FanId) : Prop where
  work : s.FanWork u (· ≠ n)
  fan : u.fan n = s.fan n
  plant : u.plant = s.plant
  lasting : u.lasting = s.lasting

theorem State.BesideFan.refl (s : State) (n : FanId) : s.BesideFan s n := ⟨.refl s _, rfl, rfl, rfl⟩
theorem State.BesideFan.trans (h : s.BesideFan t n) (k : t.BesideFan u n) : s.BesideFan u n :=
  ⟨h.work.trans k.work, k.fan.trans h.fan, k.plant.trans h.plant, k.lasting.trans h.lasting⟩
theorem State.BesideFan.pathProven (h : s.BesideFan u n) : u.pathProven = s.pathProven := congrArg Plant.pathProven h.plant
theorem State.BesideFan.record (h : s.BesideFan u n) : u.alloc.record = s.alloc.record := congrArg Plant.record h.plant
theorem State.BesideFan.link (h : s.BesideFan u n) (d : Device) : u.link d = s.link d := h.work.link d
/-- A command of the fan stays queued. -/
theorem State.BesideFan.mem (h : s.BesideFan u n) {o : Order} (ho : o.device = .drive n) : o ∈ u.line.queue ↔ o ∈ s.line.queue :=
  h.work.orders o fun m hm e => hm (by rw [ho] at e; cases e; rfl)
theorem State.BesideFan.hasActive (h : s.BesideFan u n) : u.alarms.hasActive (.fanFault n) = s.alarms.hasActive (.fanFault n) :=
  h.work.active _ fun m hm e => hm (by cases e; rfl)

variable {f : State → FanId → State}

/-- A fold works on an element once, between works on the others. -/
theorem foldl_at {α : Type} {f : State → α → State} {R : State → State → Prop} {a : α} (hr : ∀ s, R s s)
    (ht : ∀ s t u, R s t → R t u → R s u) (ho : ∀ s b, b ≠ a → R s (f s b)) {l : List α} (hl : l.Nodup) (ha : a ∈ l) (s : State) :
    ∃ x, R s x ∧ R (f x a) (l.foldl f s) := by
  have others : ∀ (l : List α), a ∉ l → ∀ s, R s (l.foldl f s) := fun l hn s => by
    induction l generalizing s with
    | nil => exact hr s
    | cons b l ih =>
      obtain ⟨hb, hl⟩ := not_or.1 (mt List.mem_cons.2 hn)
      exact ht _ _ _ (ho s b (Ne.symm hb)) (ih hl _)
  obtain ⟨before, after, rfl⟩ := List.append_of_mem ha
  obtain ⟨-, hafter, hdisjoint⟩ := List.nodup_append.1 hl
  refine ⟨before.foldl f s, others before (fun h => hdisjoint a h a List.mem_cons_self rfl) s, ?_⟩
  rw [List.foldl_append, List.foldl_cons]
  exact others after (List.nodup_cons.1 hafter).1 _

/-- Of an operation on each fan in turn. -/
theorem State.eachFan_at (ho : ∀ (s : State) (m : FanId), s.OnlyFan (f s m) m) (hw : ∀ (s : State) (m : FanId), s.FanWork (f s m) (· = m))
    (s : State) (n : FanId) : ∃ x, s.BesideFan x n ∧ (f x n).BesideFan (s.eachFan f) n :=
  foldl_at (R := fun s u => s.BesideFan u n) (fun s => .refl s n) (fun _ _ _ h k => h.trans k)
    (fun s b hb => ⟨(hw s b).mono fun _ hm e => hb (hm.symm.trans e), (ho s b).others n (Ne.symm hb), (ho s b).plant, (ho s b).lasting⟩)
    (List.nodup_finRange 8) (List.mem_finRange n) s

theorem State.eachFan_keeps {P : State → Prop} (h : ∀ (s : State) (m : FanId), P s → P (f s m)) (hs : P s) : P (s.eachFan f) :=
  foldl_keeps h _ s hs
theorem State.eachFan_plant (ho : ∀ (s : State) (m : FanId), s.OnlyFan (f s m) m) (s : State) : (s.eachFan f).plant = s.plant :=
  State.eachFan_keeps (P := fun q => q.plant = s.plant) (fun q m h => (ho q m).plant.trans h) rfl
theorem State.eachFan_quiet (hq : ∀ (s : State) (m : FanId), s.Quiet (f s m)) (s : State) : s.Quiet (s.eachFan f) :=
  State.eachFan_keeps (P := fun q => s.Quiet q) (fun q m h => h.trans (hq q m)) (.refl s)

end

end Sys2Proof.Machine

/-! ## The expiries of a fan's timers and of the grace timer (R80, R84 to R86, R90) -/

namespace Sys2Proof.Machine

section
variable (s : State) (n : FanId)

/-- The expiry of a fan's timer is taken while its state is the timer's. -/
theorem Fan.timing_of {f : Fan} {st : FanState} (ht : f.timer.isSome = true) (h : f.state = st) : f.timing st = true :=
  Fan.timing_iff.2 ⟨h, ht⟩

theorem State.graceStop_alloc : (s.graceStop n).alloc = s.alloc := by
  unfold State.graceStop
  split
  · rw [State.modFan_alloc, State.queueStop, State.enqueue_alloc]; rfl
  · rfl
/-- R90: the STOP of a turning fan is queued. -/
theorem State.graceStop_mem (ht : (s.fan n).state.turning = true) (hc : (s.fan n).config.fitted = true)
    (hl : (s.link (.drive n)).lost = false) : .stop n ∈ (s.graceStop n).line.queue := by
  unfold State.graceStop
  rw [if_pos ht]
  exact s.queueStop_mem n hc hl

theorem State.graceExpired_plant : s.graceExpired.plant = { s.plant with grace := none } :=
  State.eachFan_plant State.graceStop_onlyFan { s with grace := none }
theorem State.graceExpired_alloc : s.graceExpired.alloc = s.alloc :=
  foldl_keeps (P := fun q => q.alloc = s.alloc) (fun q m h => (q.graceStop_alloc m).trans h) _ { s with grace := none } rfl
theorem State.graceExpired_quiet : s.Quiet s.graceExpired := by
  have hq : s.Quiet { s with grace := none } := ⟨rfl, rfl⟩
  exact hq.trans (State.eachFan_quiet State.graceStop_quiet _)
/-- R90: at the expiry each turning fan is stopped with start pending, and the others stay. -/
theorem State.graceExpired_fan : s.graceExpired.fan n =
    if (s.fan n).state.turning then { (s.fan n).stopped with startPending := true } else s.fan n := by
  obtain ⟨x, hx, hu⟩ := State.eachFan_at State.graceStop_onlyFan State.graceStop_fanWork { s with grace := none } n
  have hxf : x.fan n = s.fan n := hx.fan
  rw [State.graceExpired, hu.fan, State.graceStop_fan, hxf]
/-- R90: and its STOP is queued. -/
theorem State.graceExpired_mem (ht : (s.fan n).state.turning = true) (hc : (s.fan n).config.fitted = true)
    (hl : (s.link (.drive n)).lost = false) : .stop n ∈ s.graceExpired.line.queue := by
  obtain ⟨x, hx, hu⟩ := State.eachFan_at State.graceStop_onlyFan State.graceStop_fanWork { s with grace := none } n
  have hxf : x.fan n = s.fan n := hx.fan
  rw [State.graceExpired, hu.mem rfl]
  refine x.graceStop_mem n ?_ ?_ ?_
  · rw [hxf]; exact ht
  · rw [hxf]; exact hc
  · exact (congrArg Link.lost (hx.link _)).trans hl

end

/-- Settles O46: each expiry is taken by what the sequencer does at it, whose record, entry and command are known; at the expiry
of the grace timer each fan is worked on once. -/
theorem fanAndGraceTimersActAtTheirExpiry : Obligations.FanAndGraceTimersActAtTheirExpiry := by
  refine ⟨fun n s ht => ⟨fun h => ?_, fun h => ?_, fun h => ?_, fun h => ?_⟩, fun s hg => ?_⟩
  · exact ⟨s.tripFan n .startFail, congrArg Host.Outcome.next (if_pos (Fan.timing_of ht h)), s.tripFan_onlyFan n _,
      (s.tripFan_fanWork n _).link _, s.tripFan_tripped n _⟩
  · exact ⟨s.tripFan n .stopFail, congrArg Host.Outcome.next (if_pos (Fan.timing_of ht h)), s.tripFan_onlyFan n _,
      (s.tripFan_fanWork n _).link _, s.tripFan_tripped n _⟩
  · exact ⟨s.enterReady n, congrArg Host.Outcome.next (if_pos (Fan.timing_of ht h)), s.enterReady_onlyFan n,
      (s.enterReady_fanWork n).link _, s.enterReady_readied n h, s.enterReady_clears n⟩
  · exact ⟨s.enterEnrolling n, congrArg Host.Outcome.next (if_pos (Fan.timing_of ht h)), s.enterEnrolling_onlyFan n,
      s.enterEnrolling_fan n, s.enterEnrolling_quiet n, s.enterEnrolling_mem n⟩
  · refine ⟨s.graceExpired, congrArg Host.Outcome.next (if_pos hg), s.graceExpired_lasting, s.graceExpired_plant,
      s.graceExpired_alloc, s.graceExpired_quiet, s.graceExpired_fanWork.link, fun n => ⟨?_, fun h => ?_⟩⟩
    · rw [s.graceExpired_fan n]
      simp only [FanState.turning_iff]
    · exact s.graceExpired_mem n ((FanState.turning_iff _).2 h)

end Sys2Proof.Machine

/-! ## What a drive's reply does to its fan (R77 to R89, R149) -/

namespace Sys2Proof.Machine

section
variable (s : State) {u : State} {n : FanId} {r : DriveReport} {order : Option Order} {ability : Option Ability}

/-! ### The exchange that a reply ends -/

/-- R149: the reply of the device in flight is handed to its owner. -/
theorem State.takeReply_owned {α : Type} {s : State} {address : Byte} {kind : Device → Option α} {owner : α → Option Order → State → State}
    {d : Device} {a : α} (hx : s.line.inFlight = some ⟨d, order, false⟩) (ha : d.address = address.toNat) (hk : kind d = some a) :
    s.takeReply address kind owner = (owner a order (s.replyTaken d)).finish := by
  have hans : s.answers address kind = some (⟨d, order, false⟩, a) := by
    unfold State.answers
    rw [hx]
    simp only [ha, if_true, hk, Option.map_some]
  unfold State.takeReply
  rw [hans]
  rfl

/-- R77: the part with the exchange of a drive answered and the report taken. -/
def State.reported (s : State) (n : FanId) (r : DriveReport) : State :=
  (s.replyTaken (.drive n)).modFan n fun f => { f with report := some r }

variable (n r)

theorem State.reported_fan : (s.reported n r).fan n = { s.fan n with report := some r } := State.modFan_fan_self _ _ _
theorem State.reported_onlyFan : s.OnlyFan (s.reported n r) n := by
  have ha : s.OnlyFan (s.replyTaken (.drive n)) n := ⟨rfl, rfl, fun _ _ => rfl, fun _ hd => FieldLine.setLink_other _ _ hd⟩
  exact ha.trans (State.modFan_onlyFan _ n _)
theorem State.reported_background : s.Background (s.reported n r) := ⟨⟨rfl, rfl⟩, rfl, rfl, (s.reported_onlyFan n r).lasting⟩
theorem State.reported_link : (s.reported n r).link (.drive n) = {} := s.replyTaken_link (.drive n)
theorem State.reported_queue : (s.reported n r).line.queue = s.line.queue := rfl

variable {n r}

/-- What a drive's reply changes with the exchange it ends: nothing beside its fan, and the drive is no longer lost. -/
theorem State.reportTaken_frame (order : Option Order) (ability : Option Ability)
    (hu : u = (s.reported n r).reportTaken n r order ability) :
    s.OnlyFan u n ∧ u.line.inFlight = none ∧ u.link (.drive n) = {} := by
  subst hu
  have hw := (s.reported n r).reportTaken_fanWork n r order ability
  exact ⟨(s.reported_onlyFan n r).trans (State.reportTaken_onlyFan _ n r order ability), hw.queueOnly.inFlight,
    (hw.link _).trans (s.reported_link n r)⟩

theorem State.modFan_congr {f g : Fan → Fan} (h : f (s.fan n) = g (s.fan n)) : s.modFan n f = s.modFan n g := by
  unfold State.modFan upd
  rw [show f s.fans[n.val] = g s.fans[n.val] from h]
/-- R77: a drive's reply is the report taken, and then what its fan does with it. -/
theorem State.driveReply_eq (run speed fault : Byte) (order : Option Order) (ability : Option Ability) :
    (s.replyTaken (.drive n)).driveReply n run speed fault order ability =
      (s.reported n ((s.fan n).reported run speed fault)).reportTaken n ((s.fan n).reported run speed fault) order ability := by
  have hr : ((s.replyTaken (.drive n)).fan n).reportFrom run speed fault = (s.fan n).reported run speed fault :=
    (s.fan n).reportFrom_eq run speed fault
  unfold State.driveReply State.reported
  rw [hr, State.modFan_congr (g := fun f => { f with report := some ((s.fan n).reported run speed fault) })]
  exact congrArg (fun x => { s.fan n with report := some x }) hr

/-- R77: STATUS_REPLY of the drive in flight. -/
theorem exec_statusReply {s : State} {address : Byte} (run speed fault : Byte) (hx : s.line.inFlight = some ⟨.drive n, order, false⟩)
    (ha : address.toNat = 65 + n.val) : exec (.statusReply address run speed fault) s =
      .next (State.finish ((s.reported n ((s.fan n).reported run speed fault)).reportTaken n ((s.fan n).reported run speed fault)
        order none)) := by
  rw [← State.driveReply_eq]
  exact congrArg Host.Outcome.next (State.takeReply_owned (kind := Device.drive?) hx ha.symm rfl)
/-- R77: ABILITY_REPLY of the drive in flight. -/
theorem exec_abilityReply {s : State} {address : Byte} (run speed fault mode minSpeed cls : Byte)
    (hx : s.line.inFlight = some ⟨.drive n, order, false⟩)
    (ha : address.toNat = 65 + n.val) : exec (.abilityReply address run speed fault mode minSpeed cls) s =
      .next (State.finish ((s.reported n ((s.fan n).reported run speed fault)).reportTaken n ((s.fan n).reported run speed fault)
        order (some (abilityFrom mode minSpeed cls)))) := by
  rw [← State.driveReply_eq]
  exact congrArg Host.Outcome.next (State.takeReply_owned (kind := Device.drive?) hx ha.symm rfl)

/-! ### The report by the state of the fan (R84 to R89) -/

variable {s}

/-- A report that leaves the fan where it is. -/
theorem State.reportTaken_absent (h : (s.fan n).state = .absent ∨ (s.fan n).state = .tripped) : s.reportTaken n r order ability = s := by
  unfold State.reportTaken
  rcases h with h | h
  · rw [h]
  · rw [h]
theorem State.reportTaken_lost (h : (s.fan n).state = .lost) : s.reportTaken n r order ability = s.enterEnrolling n := by
  unfold State.reportTaken; rw [h]
/-- R84 to R86: a fault code trips the fan. -/
theorem State.reportTaken_fault (h : (s.fan n).state ∈ [.ready, .restartHold, .starting, .running, .stopping]) (hr : r.fault ≠ 0) :
    s.reportTaken n r order ability = s.tripFan n (.fault r.fault) := by
  unfold State.reportTaken State.unlessFault
  simp only [List.mem_cons, List.not_mem_nil, or_false] at h
  rcases h with h | h | h | h | h
  all_goals rw [h]; exact if_pos hr
theorem State.reportTaken_heldFault (h : (s.fan n).state = .enrolHold) (hr : r.fault ≠ 0) : s.reportTaken n r order ability = s := by
  unfold State.reportTaken; rw [h]; exact if_pos hr
/-- R86: a drive that turns at rest is commanded off. -/
theorem State.reportTaken_atRest (h : (s.fan n).state ∈ [.enrolHold, .ready, .restartHold]) (hr : r.fault = 0) :
    s.reportTaken n r order ability = s.commandOff n r := by
  unfold State.reportTaken State.unlessFault
  simp only [List.mem_cons, List.not_mem_nil, or_false] at h
  rcases h with h | h | h
  all_goals rw [h]; exact if_neg (not_not_intro hr)
theorem State.reportTaken_starting (h : (s.fan n).state = .starting) (hr : r.fault = 0) :
    s.reportTaken n r order ability = if r.run = .atSpeed then s.enterState n .running none else s := by
  unfold State.reportTaken State.unlessFault; rw [h]; exact if_neg (not_not_intro hr)
theorem State.reportTaken_running (h : (s.fan n).state = .running) (hr : r.fault = 0) :
    s.reportTaken n r order ability = if r.run = .stopped then s.tripFan n .unexpectedStop else s := by
  unfold State.reportTaken State.unlessFault; rw [h]; exact if_neg (not_not_intro hr)
theorem State.reportTaken_stopping (h : (s.fan n).state = .stopping) (hr : r.fault = 0) :
    s.reportTaken n r order ability = if r.run = .stopped then s.fanStopped n else s := by
  unfold State.reportTaken State.unlessFault; rw [h]; exact if_neg (not_not_intro hr)

/-! ### A fan that has stopped (R80, R85, R86) -/

theorem State.fanStopped_reenrols (h : (s.fan n).reenrolPending = true) :
    s.fanStopped n = (s.modFan n fun f => { f with reenrolPending := false }).enterEnrolHold n := if_pos h
theorem State.fanStopped_rests (h : (s.fan n).reenrolPending = false)
    (hc : ¬((s.fan n).config.restartHold = 0 ∨ (s.resolver.smoke = true ∧
      ((s.fan n).startPending = true ∨ n ∈ s.alloc.record.runSet)))) :
    s.fanStopped n = s.enterState n .restartHold (some (s.fan n).config.restartHold) := by
  obtain ⟨hhold, hsmoke⟩ := not_or.1 hc
  unfold State.fanStopped State.restFan
  rw [if_neg (by rw [h]; decide), if_pos (Nat.pos_of_ne_zero hhold)]
  exact if_neg (by simpa using hsmoke)
/-- R85, R86: a fan without a restart hold, and one that smoke service calls for, is READY at once. -/
theorem State.fanStopped_readied (hst : (s.fan n).state.inGroup = false) (h : (s.fan n).reenrolPending = false)
    (hc : (s.fan n).config.restartHold = 0 ∨ (s.resolver.smoke = true ∧
      ((s.fan n).startPending = true ∨ n ∈ s.alloc.record.runSet))) :
    s.Readied (s.fanStopped n) n (s.fan n) ∧ s.Clears (s.fanStopped n) (.fanFault n) := by
  unfold State.fanStopped
  rw [if_neg (by rw [h]; decide)]
  by_cases hhold : 0 < (s.fan n).config.restartHold
  · rw [if_pos hhold]
    generalize hx : s.enterState n .restartHold (some (s.fan n).config.restartHold) = x
    have hrest : s.restFan n = x.enterReady n := by
      unfold State.restFan
      rw [hx]
      exact if_pos (by simpa using hc.resolve_left (Nat.ne_of_gt hhold))
    have hxf : x.fan n = { s.fan n with state := .restartHold, timer := some (s.fan n).config.restartHold } := by
      rw [← hx, State.enterState_fan]
    have ho : s.OnlyFan x n := hx ▸ s.enterState_onlyFan n _ _
    have hb : s.Background x := ⟨hx ▸ s.enterState_quiet n _ _, ho.pathProven, ho.record, ho.lasting⟩
    have hready := x.enterReady_readied n (by rw [hxf])
    rw [hrest]
    rw [hxf] at hready
    exact ⟨(hready.from hb).of_state, (x.enterReady_clears n).from hb.quiet hb.partTime⟩
  · rw [if_neg hhold]
    exact ⟨s.enterReady_readiedFrom n (.inl hst), s.enterReady_clears n⟩

/-! ### A drive that turns at rest (R86) -/

theorem State.commandOff_turning (h : r.run = .accelerating ∨ r.run = .atSpeed) : s.commandOff n r = s.queueStop n := if_pos h
theorem State.commandOff_still (h : ¬(r.run = .accelerating ∨ r.run = .atSpeed)) : s.commandOff n r = s := if_neg h

end

/-- Settles O38: the report stands in the fan's record, and each state of the fan does with it what the equations of
`reportTaken` say. -/
theorem driveReplyMovesTheFan : Obligations.DriveReplyMovesTheFan := by
  intro address run speed fault mode minSpeed cls n order s c hx ha hne hc r f
  obtain ⟨ability, he⟩ : ∃ ability, exec c s = .next (State.finish ((s.reported n r).reportTaken n r order ability)) := by
    rcases hc with rfl | rfl
    · exact ⟨_, exec_statusReply run speed fault hx ha⟩
    · exact ⟨_, exec_abilityReply run speed fault mode minSpeed cls hx ha⟩
  have hfan : (s.reported n r).fan n = f := s.reported_fan n r
  have hb := s.reported_background n r
  have hqueue := s.reported_queue n r
  have hlink : ((s.reported n r).link (.drive n)).lost = false := congrArg Link.lost (s.reported_link n r)
  obtain ⟨honly, hflight, hlost⟩ := s.reportTaken_frame order ability rfl
  refine ⟨_, he, honly, hflight, hlost, ?_⟩
  generalize s.reported n r = x at hfan hb hqueue hlink ⊢
  have hquiet : x.fan n = f ∧ s.Quiet x := ⟨hfan, hb.quiet⟩
  have hsmoke : x.resolver = s.resolver := resolver_of_lasting hb.lasting
  refine ⟨fun h => ?absent, fun h hr => ?trips, fun h hr => ?held, fun h hr => ?rest, fun h hr => ?starting, fun h hr => ?running,
    fun h hr => ?stopping, fun h => ?lost⟩
  case absent => rwa [State.reportTaken_absent (by rw [hfan]; exact h)]
  case trips =>
    rw [State.reportTaken_fault (by rw [hfan]; exact h) hr]
    have ht := x.tripFan_tripped n (.fault r.fault)
    rw [hfan] at ht
    exact ht.from hb
  case held => rwa [State.reportTaken_heldFault (by rw [hfan]; exact h) hr]
  case rest =>
    rw [State.reportTaken_atRest (by rw [hfan]; exact h) hr]
    refine ⟨hb.quiet.trans (x.commandOff_quiet n r), ?_⟩
    split
    · rename_i hrun
      rw [State.commandOff_turning hrun, State.queueStop_fan, hfan]
      exact ⟨rfl, fun hc => x.queueStop_mem n (by rw [hfan]; exact hc) hlink⟩
    · rename_i hrun
      rwa [State.commandOff_still hrun]
  case starting =>
    rw [State.reportTaken_starting (by rw [hfan]; exact h) hr]
    split
    · exact ⟨hb.quiet.trans (x.enterState_quiet n _ _), by rw [State.enterState_fan, hfan]⟩
    · exact hquiet.symm
  case running =>
    rw [State.reportTaken_running (by rw [hfan]; exact h) hr]
    split
    · have ht := x.tripFan_tripped n .unexpectedStop
      rw [hfan] at ht
      exact ht.from hb
    · exact hquiet
  case stopping =>
    rw [State.reportTaken_stopping (by rw [hfan]; exact h) hr]
    by_cases hrun : r.run = .stopped
    · rw [if_neg (not_not_intro hrun), if_pos hrun]
      by_cases hpending : f.reenrolPending = true
      · rw [if_pos hpending, State.fanStopped_reenrols (by rw [hfan]; exact hpending)]
        refine ⟨?_, hb.quiet.trans ((x.modFan_quiet n _).trans (State.enterEnrolHold_quiet _ n)), ?_⟩
        · rw [State.enterEnrolHold_fan, State.modFan_fan_self, hfan]
        · rw [State.enterEnrolHold, State.enterState_queue]; exact hqueue
      · rw [if_neg hpending]
        split
        · rename_i hcall
          have hready := State.fanStopped_readied (s := x) (n := n) (by rw [hfan, h]; rfl) (by rw [hfan]; simpa using hpending)
            (by rw [hfan, hsmoke, hb.record]; exact hcall)
          rw [hfan] at hready
          exact ⟨hready.1.from hb, hready.2.from hb.quiet hb.partTime⟩
        · rename_i hcall
          rw [State.fanStopped_rests (by rw [hfan]; simpa using hpending) (by rw [hfan, hsmoke, hb.record]; exact hcall)]
          exact ⟨by rw [State.enterState_fan, hfan], hb.quiet.trans (x.enterState_quiet n _ _)⟩
    · rwa [if_pos hrun, if_neg hrun]
  case lost =>
    rw [State.reportTaken_lost (by rw [hfan]; exact h)]
    exact ⟨by rw [State.enterEnrolling_fan, hfan], hb.quiet.trans (x.enterEnrolling_quiet n),
      fun hc => x.enterEnrolling_mem n (by rw [hfan]; exact hc) hlink⟩

end Sys2Proof.Machine

/-! ## What a drive's reply does in ENROLLING (R78, R79, R81) -/

namespace Sys2Proof.Machine

section
variable {s x u : State} {n : FanId} {r : DriveReport} {q : Fan} {order : Option Order}

/-- R81: from s to u the fan n, with the resolved record q, has moved by the report that completed its enrolment. -/
def State.Enrolled (s u : State) (n : FanId) (q : Fan) (r : DriveReport) : Prop :=
  if r.fault ≠ 0 then s.Tripped u n q (.fault r.fault)
  else if r.run = .stopped then s.Readied u n q ∧ s.Clears u (.fanFault n)
  else u.fan n = q.stopped ∧ s.Quiet u ∧ (q.config.fitted = true → .stop n ∈ u.line.queue)

theorem State.Enrolled.from (h : x.Enrolled u n q r) (b : s.Background x) : s.Enrolled u n q r := by
  unfold State.Enrolled at h ⊢
  split
  · rename_i hr
    rw [if_pos hr] at h
    exact h.from b
  · rename_i hr
    rw [if_neg hr] at h
    split
    · rename_i hs
      rw [if_pos hs] at h
      exact ⟨h.1.from b, h.2.from b.quiet b.partTime⟩
    · rename_i hs
      rw [if_neg hs] at h
      exact ⟨h.1, b.quiet.trans h.2.1, h.2.2⟩

variable (s n) in
/-- R79, R81: an enrolment that completes resolves the fan, moves it by the report and triggers a pass. -/
theorem State.completeEnrolment_enrolled (a : Ability) (r : DriveReport) (hl : (s.link (.drive n)).lost = false) :
    s.Enrolled (s.completeEnrolment n a r) n ((s.fan n).resolve a) r ∧ (s.completeEnrolment n a r).alloc.due = true := by
  generalize hx : (s.modFan n fun f => f.resolve a).trigger = x
  have hfan : x.fan n = (s.fan n).resolve a := hx ▸ State.modFan_fan_self s n _
  have hdue : x.alloc.due = true := hx ▸ rfl
  have hlink : (x.link (.drive n)).lost = false := hx ▸ hl
  have hb : s.Background x := hx ▸ ⟨⟨rfl, rfl⟩, rfl, rfl, ((s.modFan_onlyFan n _).trans (State.trigger_onlyFan _ n)).lasting⟩
  have he : s.completeEnrolment n a r =
      if r.fault ≠ 0 then x.tripFan n (.fault r.fault) else if r.run = .stopped then x.enterReady n else x.stopFan n := by
    rw [← hx]; rfl
  rw [he, ← hfan]
  unfold State.Enrolled
  split
  · exact ⟨(x.tripFan_tripped n _).from hb, (x.tripFan_fanWork n _).due hdue⟩
  · split
    · exact ⟨⟨(x.enterReady_readiedFrom n (.inr hdue)).from hb, (x.enterReady_clears n).from hb.quiet hb.partTime⟩, (x.enterReady_fanWork n).due hdue⟩
    · exact ⟨⟨x.stopFan_fan n, hb.quiet.trans (x.stopFan_quiet n), fun hc => x.stopFan_mem n hc hlink⟩,
        (x.stopFan_fanWork n).due hdue⟩

/-- R79: the table of resolved fields, of a drive and of a starter. -/
theorem Fan.resolve_ability (f : Fan) (mode minSpeed cls : Byte) : f.resolve (abilityFrom mode minSpeed cls) =
    { f with
      ability := some (.drive (if mode = 0 then .variable else .fixed) (min 100 minSpeed.toNat) (min 2 cls.toNat))
      mode := some (if mode = 0 then .variable else .fixed)
      cls := some (min f.config.cls (min 2 cls.toNat))
      minSpeed := some (if mode = 0 then max f.config.minSpeed (min 100 minSpeed.toNat) else 100) } := by
  have hm : clampTo 0 100 minSpeed.toNat = min 100 minSpeed.toNat := by simp [clampTo, Nat.min_comm]
  have hc : clampTo 0 2 cls.toNat = min 2 cls.toNat := by simp [clampTo]
  unfold abilityFrom Fan.resolve
  rw [hm, hc]
  by_cases h : mode = 0
  · simp only [h, if_true, Ability.resolvedMode, Ability.resolvedClass, Ability.resolvedMinSpeed]
  · simp only [h, if_false, Ability.resolvedMode, Ability.resolvedClass, Ability.resolvedMinSpeed]

/-- R78: the two replies taken in ENROLLING. -/
theorem State.reportTaken_ability (h : (s.fan n).state = .enrolling) (a : Ability) :
    s.reportTaken n r order (some a) = s.completeEnrolment n a r := by
  unfold State.reportTaken; rw [h]; rfl
theorem State.reportTaken_plain (h : (s.fan n).state = .enrolling) :
    s.reportTaken n r order none = if order = some (.offer n) then s.plainAnswer n r else s := by
  unfold State.reportTaken; rw [h]; rfl

variable (s n r) in
/-- R78: a plain answer below the limit is counted, and the next OFFER queued. -/
theorem State.plainAnswer_counts (h : (s.fan n).plainAnswers + 1 < 3) (hl : (s.link (.drive n)).lost = false) :
    (s.plainAnswer n r).fan n = { s.fan n with plainAnswers := (s.fan n).plainAnswers + 1 } ∧
    ((s.fan n).config.fitted = true → .offer n ∈ (s.plainAnswer n r).line.queue) ∧ s.Quiet (s.plainAnswer n r) ∧
    (s.plainAnswer n r).alloc = s.alloc := by
  have he : s.plainAnswer n r = (s.modFan n fun f => { f with plainAnswers := f.plainAnswers + 1 }).enqueue (.offer n) := by
    unfold State.plainAnswer
    exact if_pos (by rw [State.modFan_fan_self]; exact h)
  rw [he]
  refine ⟨?_, fun hc => State.enqueue_mem _ _ ?_ hl, (s.modFan_quiet n _).trans (State.enqueue_quiet _ _), ?_⟩
  · rw [State.enqueue_fan, State.modFan_fan_self]
  · show (State.fan _ n).config.fitted = true
    rw [State.modFan_fan_self]; exact hc
  · rw [State.enqueue_alloc]; rfl
variable (s n r) in
/-- R78: the last plain answer completes the enrolment of a starter. -/
theorem State.plainAnswer_completes (h : ¬(s.fan n).plainAnswers + 1 < 3) (hl : (s.link (.drive n)).lost = false) :
    s.Enrolled (s.plainAnswer n r) n { s.fan n with
      plainAnswers := (s.fan n).plainAnswers + 1, ability := some .starter, mode := some .fixed, cls := some 0, minSpeed := some 100 } r ∧
    (s.plainAnswer n r).alloc.due = true := by
  generalize hx : (s.modFan n fun f => { f with plainAnswers := f.plainAnswers + 1 }) = x
  have hfan : x.fan n = { s.fan n with plainAnswers := (s.fan n).plainAnswers + 1 } := hx ▸ State.modFan_fan_self s n _
  have hb : s.Background x := hx ▸ ⟨⟨rfl, rfl⟩, rfl, rfl, (s.modFan_onlyFan n _).lasting⟩
  have hlink : (x.link (.drive n)).lost = false := hx ▸ hl
  have he : s.plainAnswer n r = x.completeEnrolment n .starter r := by
    unfold State.plainAnswer
    rw [hx]
    exact if_neg (by rw [hfan]; exact h)
  have hc := x.completeEnrolment_enrolled n .starter r hlink
  rw [hfan] at hc
  rw [he]
  exact ⟨hc.1.from hb, hc.2⟩

end

/-- Settles O39: an ability or the third plain answer completes the enrolment; a plain answer before counts; another reply only
leaves its report. -/
theorem enrolmentResolvesTheFan : Obligations.EnrolmentResolvesTheFan := by
  intro address run speed fault n order s hx ha hst r f moves
  have hfan : (s.reported n r).fan n = f := s.reported_fan n r
  have hstate : ((s.reported n r).fan n).state = .enrolling := by rw [hfan]; exact hst
  have hb := s.reported_background n r
  have hlink : ((s.reported n r).link (.drive n)).lost = false := congrArg Link.lost (s.reported_link n r)
  have halloc : (s.reported n r).alloc = s.alloc := rfl
  refine ⟨fun mode minSpeed cls => ?ability, fun ho => ?answer, fun ho => ?other⟩
  case ability =>
    obtain ⟨honly, hflight, hlost⟩ := s.reportTaken_frame (n := n) (r := r) order (some (abilityFrom mode minSpeed cls)) rfl
    have hc := (s.reported n r).completeEnrolment_enrolled n (abilityFrom mode minSpeed cls) r hlink
    rw [← State.reportTaken_ability (order := order) hstate, hfan, Fan.resolve_ability] at hc
    exact ⟨_, exec_abilityReply run speed fault mode minSpeed cls hx ha, honly, hflight, hlost, hc.2, hc.1.from hb⟩
  case answer =>
    obtain ⟨honly, hflight, hlost⟩ := s.reportTaken_frame (n := n) (r := r) order none rfl
    refine ⟨_, exec_statusReply run speed fault hx ha, honly, hflight, hlost, ?_⟩
    rw [State.reportTaken_plain hstate, if_pos ho]
    split
    · rename_i hk
      obtain ⟨hcount, hoffer, hquiet, hsame⟩ := (s.reported n r).plainAnswer_counts n r (by rw [hfan]; exact hk) hlink
      rw [hfan] at hcount hoffer
      exact ⟨hcount, hoffer, hb.quiet.trans hquiet, hsame.trans halloc⟩
    · rename_i hk
      have hc := (s.reported n r).plainAnswer_completes n r (by rw [hfan]; exact hk) hlink
      rw [hfan] at hc
      exact ⟨hc.2, hc.1.from hb⟩
  case other =>
    obtain ⟨honly, hflight, hlost⟩ := s.reportTaken_frame (n := n) (r := r) order none rfl
    refine ⟨_, exec_statusReply run speed fault hx ha, honly, hflight, hlost, ?_⟩
    rw [State.reportTaken_plain hstate, if_neg ho]
    exact ⟨hfan, hb.quiet, halloc⟩

end Sys2Proof.Machine

/-! ## The judgement of the path (R83, R90, R108, R113) -/

namespace Sys2Proof.Machine

section
variable (s : State) {n : FanId}

/-- R83: a fan that waits for the path starts. -/
def State.gainStart (s : State) (n : FanId) : State := if (s.fan n).state = .ready then s.startIfAllowed n else s

theorem State.pathGained_eq : s.pathGained = State.eachFan { s with grace := none } State.gainStart := rfl

theorem State.gainStart_onlyFan (n : FanId) : s.OnlyFan (s.gainStart n) n := by
  unfold State.gainStart
  split
  · exact s.startIfAllowed_onlyFan n
  · exact .refl s n
theorem State.gainStart_fanWork (n : FanId) : s.FanWork (s.gainStart n) (· = n) := by
  unfold State.gainStart
  split
  · exact s.startIfAllowed_fanWork n
  · exact .refl s _
theorem State.gainStart_quiet (n : FanId) : s.Quiet (s.gainStart n) := by
  unfold State.gainStart
  split
  · exact s.startIfAllowed_quiet n
  · exact .refl s

/-- R83: a READY fan with start pending. -/
def Fan.waits (f : Fan) : Prop := f.state = .ready ∧ f.startPending = true

variable {s}

theorem State.gainStart_waits (h : (s.fan n).waits) (hp : s.pathProven = true) : s.gainStart n = s.startFan n := by
  obtain ⟨hready, hpending⟩ := h
  unfold State.gainStart State.startIfAllowed
  rw [if_pos hready, if_pos (by rw [hpending, hp]; rfl)]
theorem State.gainStart_stays (h : ¬(s.fan n).waits) : s.gainStart n = s := by
  unfold State.gainStart State.startIfAllowed
  split
  · rename_i hready
    exact if_neg fun hc => h ⟨hready, (Bool.and_eq_true _ _ ▸ hc).1⟩
  · rfl
/-- R83: the record of a fan that starts is the one with which a fan enters READY. -/
theorem State.startFan_readied (h : (s.fan n).startPending = true) : (s.startFan n).fan n = (s.fan n).readied true s.alloc.record := by
  rw [State.startFan_fan, Fan.readied, if_pos ⟨h, rfl⟩]
  rfl

variable (s)

theorem State.pathGained_plant : s.pathGained.plant = { s.plant with grace := none } :=
  State.eachFan_plant State.gainStart_onlyFan { s with grace := none }
theorem State.pathGained_quiet : s.Quiet s.pathGained := by
  have hq : s.Quiet { s with grace := none } := ⟨rfl, rfl⟩
  rw [State.pathGained_eq]
  exact hq.trans (State.eachFan_quiet State.gainStart_quiet _)
/-- R83: at a gain each waiting fan starts, with its RUN queued, and the others stay. -/
theorem State.pathGained_fan (n : FanId) (hp : s.pathProven = true) :
    ((s.fan n).waits → s.pathGained.fan n = (s.fan n).readied true s.alloc.record ∧
      ((s.fan n).config.fitted = true → (s.link (.drive n)).lost = false →
        .run n ((s.fan n).runSpeed s.alloc.record.speed) s.alloc.record.smoke ∈ s.pathGained.line.queue)) ∧
    (¬(s.fan n).waits → s.pathGained.fan n = s.fan n) := by
  obtain ⟨x, hx, hu⟩ := State.eachFan_at State.gainStart_onlyFan State.gainStart_fanWork { s with grace := none } n
  have hfan : x.fan n = s.fan n := hx.fan
  have hproven : x.pathProven = true := hx.pathProven.trans hp
  have hrecord : x.alloc.record = s.alloc.record := hx.record
  rw [State.pathGained_eq, hu.fan]
  refine ⟨fun hw => ?_, fun hw => ?_⟩
  · have he : x.gainStart n = x.startFan n := State.gainStart_waits (by rw [hfan]; exact hw) hproven
    refine ⟨?_, fun hc hl => (hu.mem rfl).2 ?_⟩
    · rw [he, State.startFan_readied (by rw [hfan]; exact hw.2), hfan, hrecord]
    · have hm := x.startFan_run n (by rw [hfan]; exact hc) ((congrArg Link.lost (hx.link _)).trans hl)
      rw [hfan, hrecord] at hm
      rw [he]
      exact hm
  · rw [State.gainStart_stays (by rw [hfan]; exact hw)]
    exact hfan

/-! ### Gain, loss or neither -/

variable {s}

theorem State.pathNow_iff : s.pathNow = true ↔ ∃ z, s.ProvesPath z := by
  have h : ({ s with pathProven := true } : State).PathSound ↔ true = s.pathNow := State.pathSound_iff
  exact eq_comm.trans (h.symm.trans ⟨fun k => k.1 rfl, fun k => ⟨fun _ => k, fun _ => rfl⟩⟩)
theorem State.reprove_sound (h : s.PathSound) : s.reprove = s := if_pos (State.pathSound_iff.1 h).symm
theorem State.reprove_gained (h : s.pathProven = false) (hz : ∃ z, s.ProvesPath z) :
    s.reprove = (State.pathGained { s with pathProven := true }).trigger := by
  have hn := State.pathNow_iff.2 hz
  unfold State.reprove
  rw [if_neg (by rw [hn, h]; decide), if_pos hn]
theorem State.reprove_lost (h : s.pathProven = true) (hz : ¬∃ z, s.ProvesPath z) :
    s.reprove = (State.pathLost { s with pathProven := false }).trigger := by
  have hn := mt State.pathNow_iff.1 hz
  unfold State.reprove
  rw [if_neg (by rw [h]; exact hn), if_neg hn]

/-- R91, R113: of the allocator the sequencer's work and a trigger change the trigger alone. -/
theorem State.FanWork.trigger_alloc {u : State} {P : FanId → Prop} (h : s.FanWork u P) : u.trigger.alloc = { s.alloc with due := true } := by
  have ha := congrArg (fun a : Allocator => { a with due := true }) h.alloc
  exact ha
/-- R90: what a loss does, by whether a fan turns and by smoke service. -/
theorem State.pathLost_still (h : ¬s.AnyTurning) : s.pathLost = s := if_neg fun k => h (s.anyTurning_iff.1 k)
theorem State.pathLost_smoke (h : s.AnyTurning) (hs : s.resolver.smoke = true) : s.pathLost = s.raiseAll .pathLost := by
  unfold State.pathLost
  rw [if_pos (s.anyTurning_iff.2 h), if_pos hs]
theorem State.pathLost_grace (h : s.AnyTurning) (hs : s.resolver.smoke = false) :
    s.pathLost = { s.raiseAll .pathLost with grace := some 10 } := by
  unfold State.pathLost
  rw [if_pos (s.anyTurning_iff.2 h), if_neg (by rw [hs]; decide)]
  rfl

end

end Sys2Proof.Machine

/-! ## The reply of an extract damper (R98, R101, R106) -/

namespace Sys2Proof.Machine

section
variable {s u x : State} {z : ZoneId}

/-! ### The table of states and replies, by what it does -/

theorem State.judgeExtract_drives (h : (s.extractOf z).state = .lost ∨
    ((s.extractOf z).state = .settled ∧ (s.extractOf z).fault = false ∧ (s.extractOf z).inBand = false)) :
    s.judgeExtract z = s.driveExtract z := by
  unfold State.judgeExtract
  rcases h with h | ⟨h, hf, hb⟩
  · simp only [h]
  · simp [h, hf, hb]
theorem State.judgeExtract_fails (h : (s.extractOf z).state = .moving ∨ (s.extractOf z).state = .settled)
    (hf : (s.extractOf z).fault = true) : s.judgeExtract z = s.faultExtract z := by
  unfold State.judgeExtract
  rcases h with h | h
  all_goals simp [h, hf]
theorem State.judgeExtract_settles (h : (s.extractOf z).state = .moving ∨ (s.extractOf z).state = .fault)
    (hf : (s.extractOf z).fault = false) (hb : (s.extractOf z).inBand = true) : s.judgeExtract z = s.settleExtract z := by
  unfold State.judgeExtract
  rcases h with h | h
  all_goals simp [h, hf, hb]
theorem State.judgeExtract_stays (h : ((s.extractOf z).state = .settled ∧ (s.extractOf z).fault = false ∧ (s.extractOf z).inBand = true) ∨
    ((s.extractOf z).state = .moving ∧ (s.extractOf z).fault = false ∧ (s.extractOf z).inBand = false) ∨
    ((s.extractOf z).state = .fault ∧ ((s.extractOf z).fault = true ∨ (s.extractOf z).inBand = false))) : s.judgeExtract z = s := by
  unfold State.judgeExtract
  rcases h with ⟨h, hf, hb⟩ | ⟨h, hf, hb⟩ | ⟨h, hf | hb⟩
  · simp [h, hf, hb]
  · simp [h, hf, hb]
  · simp [h, hf]
  · simp [h, hb]

/-- R147: the SET of a damper that takes commands is queued. -/
theorem State.driveExtract_mem (s : State) (hc : (s.zone z).config.fitted = true) (hl : (s.link (.extract z)).lost = false) :
    .set z (s.extractOf z).command ∈ (s.driveExtract z).line.queue :=
  State.enqueue_mem _ _ hc hl

/-! ### The exchange that the reply ends -/

/-- R98, R149: the part with the exchange of an extract damper answered and the reply's fields stored. -/
def State.extractReported (s : State) (z : ZoneId) (position flag : Byte) : State :=
  (s.replyTaken (.extract z)).storeExtract z position flag

variable (s z) (position flag : Byte)

theorem State.extractReported_extractOf : (s.extractReported z position flag).extractOf z =
    { s.extractOf z with feedback := some (min 100 position.toNat), fault := decide (flag ≠ 0) } := by
  have hc : clampTo 0 100 position.toNat = min 100 position.toNat := by simp [clampTo]
  have hf : (flag != 0) = decide (flag ≠ 0) := Bool.eq_iff_iff.2 (by simp)
  rw [← hc, ← hf]
  exact State.modExtract_extractOf_self _ _ _
theorem State.extractReported_onlyExtract : s.OnlyExtract (s.extractReported z position flag) z := by
  have ha : s.OnlyExtract (s.replyTaken (.extract z)) z :=
    ⟨rfl, rfl, rfl, rfl, fun _ _ => rfl, fun _ _ => rfl, fun _ hd => FieldLine.setLink_other _ _ hd⟩
  exact ha.trans (State.modExtract_onlyExtract _ z _)
theorem State.extractReported_quiet : s.Quiet (s.extractReported z position flag) := ⟨rfl, rfl⟩
theorem State.extractReported_link : (s.extractReported z position flag).link (.extract z) = {} := s.replyTaken_link _
theorem State.extractReported_inFlight : (s.extractReported z position flag).line.inFlight = none := rfl
theorem State.judgeExtract_link (d : Device) : (s.judgeExtract z).link d = s.link d := by
  have hl := congrArg FieldLine.links (s.judgeExtract_queueOnly z)
  exact congrArg (fun l : Vector Link 88 => l[d.place.val]) hl

variable {s z position flag}

/-- R98: EXTRACT_REPLY of the damper in flight. -/
theorem exec_extractReply {address : Byte} {order : Option Order} (hx : s.line.inFlight = some ⟨.extract z, order, false⟩)
    (ha : address.toNat = 97 + z.val) : exec (.extractReply address position flag) s =
      .next (((s.extractReported z position flag).judgeExtract z).reprove).finish :=
  congrArg Host.Outcome.next (State.takeReply_owned (kind := Device.extract?) hx ha.symm rfl)

end

/-- Settles O40: the judgement of the path is the three cases of `reprove`; a reply is stored, and the table drives, fails or
settles the damper, or leaves it. -/
theorem extractReplyJudgesTheDamper : Obligations.ExtractReplyJudgesTheDamper := by
  refine ⟨fun s => ⟨State.reprove_sound, fun h hz => ?gained, fun h hz => ?lost⟩, fun address position flag z order s hx ha => ?reply⟩
  case gained =>
    rw [State.reprove_gained h hz]
    generalize hv : ({ s with pathProven := true } : State) = v
    have hproven : v.pathProven = true := hv ▸ rfl
    have hrest : v.lasting = s.lasting ∧ v.plant = { s.plant with pathProven := true } ∧ v.alloc = s.alloc ∧ s.Quiet v ∧
        v.line = s.line ∧ v.fans = s.fans := by subst hv; exact ⟨rfl, rfl, rfl, ⟨rfl, rfl⟩, rfl, rfl⟩
    obtain ⟨hlasting, hplant, halloc, hquiet, hline, hfans⟩ := hrest
    have hfan : ∀ n, v.fan n = s.fan n := fun n => by simp only [State.fan, hfans]
    have hlink : ∀ d, v.link d = s.link d := fun d => by simp only [State.link, hline]
    have hwork := v.pathGained_fanWork
    have hgain := v.pathGained_fan
    replace hlasting := v.pathGained_lasting.trans hlasting
    replace hquiet := hquiet.trans v.pathGained_quiet
    have hgained := v.pathGained_plant
    generalize v.pathGained = u at hwork hgain hlasting hquiet hgained ⊢
    rw [hplant] at hgained
    refine ⟨hlasting, hgained, hwork.trigger_alloc.trans (by rw [halloc]), hquiet.1, hquiet.2,
      fun d => (hwork.link d).trans (hlink d), fun n => ?_⟩
    have hf := hgain n hproven
    rw [hfan, hlink, halloc] at hf
    refine ⟨?_, fun hw => (hf.1 hw).2⟩
    split
    · rename_i hw
      exact (hf.1 hw).1
    · rename_i hw
      exact hf.2 hw
  case lost =>
    rw [State.reprove_lost h hz]
    refine ⟨fun ht => ?_, fun ht hs => ?_, fun ht hs => ?_⟩
    · rw [State.pathLost_still (s := { s with pathProven := false }) ht]; rfl
    · rw [State.pathLost_smoke (s := { s with pathProven := false }) ht hs]; rfl
    · rw [State.pathLost_grace (s := { s with pathProven := false }) ht hs]; rfl
  case reply =>
    intro feedback d inBand travels fails settles
    have hd : (s.extractReported z position flag).extractOf z = d := s.extractReported_extractOf z position flag
    have honly := s.extractReported_onlyExtract z position flag
    have hquiet := s.extractReported_quiet z position flag
    have hlink := s.extractReported_link z position flag
    refine ⟨_, exec_extractReply hx ha, honly.trans (State.judgeExtract_onlyExtract _ z),
      (State.judgeExtract_queueOnly _ z).inFlight.trans (s.extractReported_inFlight z position flag), (State.judgeExtract_link _ z _).trans hlink, ?_⟩
    generalize s.extractReported z position flag = x at hd honly hquiet hlink ⊢
    have htime : x.partTime = s.partTime := congrArg Lasting.partTime honly.lasting
    have hzone : (x.zone z).config = (s.zone z).config := by simp [State.zone, zones_of_lasting honly.lasting]
    have hlost : (x.link (.extract z)).lost = false := congrArg Link.lost hlink
    have hfault : d.fault = decide (flag ≠ 0) := rfl
    have hband : d.inBand = decide inBand := rfl
    have hset : x.judgeExtract z = x.driveExtract z → (s.zone z).config.fitted = true → .set z d.command ∈ (x.judgeExtract z).line.queue :=
      fun he hc => by
        rw [he, ← hd]
        exact x.driveExtract_mem (by rw [hzone]; exact hc) hlost
    refine ⟨?table, fun ht hc hst => ?set, fun hst hf => ?faults, fun hst hf hb => ?clears, fun hst => ?quiet⟩
    case table =>
      rw [State.judgeExtract_extractOf, hd, hzone, hfault, hband]
      simp only [decide_eq_true_eq]
      rfl
    case set =>
      by_cases hdrives : d.state = .lost ∨ (d.state = .settled ∧ d.fault = false ∧ d.inBand = false)
      · exact hset (State.judgeExtract_drives (by rw [hd]; exact hdrives)) hc
      · have hsettled : d.state = .settled := hst.resolve_left fun k => hdrives (.inl k)
        have hkeeps : d.fault = true ∨ d.inBand = true := by
          by_contra k
          exact hdrives (.inr ⟨hsettled, by simpa using k⟩)
        have hmoving : ((x.judgeExtract z).extractOf z).state = .moving := congrArg ExtractDamper.state ht
        rw [State.judgeExtract_extractOf, hd, hsettled] at hmoving
        rcases Bool.eq_false_or_eq_true d.fault with hf | hf
        · simp [hf] at hmoving
        · simp [hf, hkeeps.resolve_left (by simp [hf]), hsettled] at hmoving
    case faults =>
      have he : x.judgeExtract z = x.faultExtract z :=
        State.judgeExtract_fails (by rw [hd]; exact hst) (by rw [hd, hfault]; exact decide_eq_true hf)
      have hF : s.Faults (x.judgeExtract z) (extractKey z) none := he ▸ (x.faultExtract_faults z).from hquiet htime
      exact ⟨hF, hF.noticedByAll, fun _ hroom => hF.hasActive (.inr hroom)⟩
    case clears =>
      have he : x.judgeExtract z = x.settleExtract z := State.judgeExtract_settles (by rw [hd]; exact hst)
        (by rw [hd, hfault]; exact decide_eq_false (not_not_intro hf)) (by rw [hd, hband]; exact decide_eq_true hb)
      have hC : s.Clears (x.judgeExtract z) (extractKey z) := he ▸ (x.settleExtract_clears z).from hquiet htime
      exact ⟨hC, fun hs => by rw [hC.1]; exact hs.clear_hasActive _ _⟩
    case quiet =>
      have hdriven : x.judgeExtract z = x.driveExtract z → s.Quiet (x.judgeExtract z) := fun he => by
        rw [he]; exact hquiet.trans (x.driveExtract_quiet z)
      have hstays : x.judgeExtract z = x → s.Quiet (x.judgeExtract z) := fun he => by rwa [he]
      rcases hst with hl | ⟨hst, hf⟩ | ⟨hst, hf, hb⟩ | ⟨hst, hf⟩
      · exact hdriven (State.judgeExtract_drives (by rw [hd]; exact .inl hl))
      · have hclear : d.fault = false := decide_eq_false (not_not_intro hf)
        rcases Bool.eq_false_or_eq_true d.inBand with hb | hb
        · exact hstays (State.judgeExtract_stays (by rw [hd]; exact .inl ⟨hst, hclear, hb⟩))
        · exact hdriven (State.judgeExtract_drives (by rw [hd]; exact .inr ⟨hst, hclear, hb⟩))
      · exact hstays (State.judgeExtract_stays (by
          rw [hd]; exact .inr (.inl ⟨hst, decide_eq_false (not_not_intro hf), hband.trans (decide_eq_false hb)⟩)))
      · exact hstays (State.judgeExtract_stays (by
          rw [hd]
          exact .inr (.inr ⟨hst, hf.imp (fun k => decide_eq_true k) fun k => hband.trans (decide_eq_false k)⟩)))

end Sys2Proof.Machine

/-! ## The commands of a record and the dampers that take them (R99, R104, R108, R131) -/

namespace Sys2Proof.Machine

section
variable (s : State) {t u : State} {y z : ZoneId}

/-! ### One command -/

/-- R99: the record of an extract damper that takes a command. -/
theorem State.commandExtract_extractOf (z : ZoneId) (c : Nat) : (s.commandExtract z c).extractOf z =
    if (s.extractOf z).command = c then s.extractOf z
    else if (s.extractOf z).state = .lost then { s.extractOf z with command := c }
    else { s.extractOf z with command := c, state := .moving, timer := some (s.zone z).config.travelLimit } := by
  unfold State.commandExtract
  split
  · rfl
  · split
    · rw [State.modExtract_extractOf_self]
    · rw [State.driveExtract_extractOf, State.modExtract_extractOf_self]; rfl
theorem State.commandExtract_makeUpOf (c : Nat) (y : ZoneId) : (s.commandExtract z c).makeUpOf y = s.makeUpOf y := by
  unfold State.commandExtract
  split
  · rfl
  · split
    · rfl
    · rw [State.driveExtract, State.enqueue_makeUpOf]; rfl
theorem State.commandExtract_extractOf_other (c : Nat) (h : y ≠ z) : (s.commandExtract z c).extractOf y = s.extractOf y := by
  unfold State.commandExtract
  split
  · rfl
  · split
    · exact (s.modExtract_onlyExtract z _).others y h
    · exact ((s.modExtract_onlyExtract z _).trans (State.driveExtract_onlyExtract _ z)).others y h
/-- R147: its SET is queued. -/
theorem State.commandExtract_mem {c : Nat} (hc : (s.extractOf z).command ≠ c) (hs : (s.extractOf z).state ≠ .lost)
    (hf : (s.zone z).config.fitted = true) (hl : (s.link (.extract z)).lost = false) : .set z c ∈ (s.commandExtract z c).line.queue := by
  unfold State.commandExtract
  rw [if_neg hc, if_neg hs]
  have hm := State.driveExtract_mem (z := z) (s.modExtract z fun d => { d with command := c }) hf hl
  rwa [State.modExtract_extractOf_self] at hm
theorem State.commandExtract_orders (c : Nat) {o : Order} (ho : o.device ≠ .extract z) :
    o ∈ (s.commandExtract z c).line.queue ↔ o ∈ s.line.queue := by
  unfold State.commandExtract
  split
  · rfl
  · split
    · rfl
    · unfold State.driveExtract State.enqueue
      split
      · exact mem_enter_other ho
      · rfl

/-- R104: the record of a make-up damper that takes a command. -/
theorem State.commandMakeUp_makeUpOf (z : ZoneId) (c : MakeUpCommand) : (s.commandMakeUp z c).makeUpOf z =
    if (s.makeUpOf z).command = c then s.makeUpOf z
    else if (s.makeUpOf z).state = .lost then { s.makeUpOf z with command := c }
    else { s.makeUpOf z with command := c, state := c.travelling, timer := some 60 } := by
  unfold State.commandMakeUp
  split
  · rfl
  · split
    · rw [State.modMakeUp_makeUpOf_self]
    · rw [State.driveMakeUp_makeUpOf, State.modMakeUp_makeUpOf_self]
theorem State.commandMakeUp_makeUpOf_other (c : MakeUpCommand) (h : y ≠ z) : (s.commandMakeUp z c).makeUpOf y = s.makeUpOf y := by
  unfold State.commandMakeUp
  split
  · rfl
  · split
    · exact (s.modMakeUp_onlyMakeUp z _).others y h
    · exact ((s.modMakeUp_onlyMakeUp z _).trans (State.driveMakeUp_onlyMakeUp _ z)).others y h
/-- R147: its OPEN or CLOSE is queued. -/
theorem State.commandMakeUp_mem {c : MakeUpCommand} (hc : (s.makeUpOf z).command ≠ c) (hs : (s.makeUpOf z).state ≠ .lost)
    (hf : (s.zone z).config.fitted = true) (hl : (s.link (.makeUp z)).lost = false) :
    makeUpOrder z c ∈ (s.commandMakeUp z c).line.queue := by
  unfold State.commandMakeUp
  rw [if_neg hc, if_neg hs]
  unfold State.driveMakeUp
  rw [State.modMakeUp_makeUpOf_self]
  cases c
  · exact State.enqueue_mem _ _ hf hl
  · exact State.enqueue_mem _ _ hf hl
theorem makeUpOrder_device (z : ZoneId) (c : MakeUpCommand) : (makeUpOrder z c).device = .makeUp z := by cases c <;> rfl
theorem State.commandMakeUp_orders (c : MakeUpCommand) {o : Order} (ho : o.device ≠ .makeUp z) :
    o ∈ (s.commandMakeUp z c).line.queue ↔ o ∈ s.line.queue := by
  unfold State.commandMakeUp
  split
  · rfl
  · split
    · rfl
    · unfold State.driveMakeUp State.enqueue
      split
      · exact mem_enter_other (by rw [makeUpOrder_device]; exact ho)
      · rfl

/-! ### Every command in turn -/

/-- From s to u dampers of other zones than z have taken commands. -/
structure State.BesideZone (s u : State) (z : ZoneId) : Prop where
  starting : s.Starting u
  extract : u.extractOf z = s.extractOf z
  makeUp : u.makeUpOf z = s.makeUpOf z
  orders : ∀ o : Order, o.device = .extract z ∨ o.device = .makeUp z → (o ∈ u.line.queue ↔ o ∈ s.line.queue)

theorem State.BesideZone.refl (z : ZoneId) : s.BesideZone s z := ⟨.refl s, rfl, rfl, fun _ _ => Iff.rfl⟩
variable {s} in
theorem State.BesideZone.trans (h : s.BesideZone t z) (k : t.BesideZone u z) : s.BesideZone u z :=
  ⟨h.starting.trans k.starting, k.extract.trans h.extract, k.makeUp.trans h.makeUp,
    fun o ho => (k.orders o ho).trans (h.orders o ho)⟩

theorem State.extractTakes_besideZone (h : y ≠ z) : s.BesideZone (s.extractTakes y) z := by
  refine ⟨s.extractTakes_starting y, ?_, ?_, fun o ho => ?_⟩
  all_goals unfold State.extractTakes; split
  · exact s.commandExtract_extractOf_other _ (Ne.symm h)
  · rfl
  · exact s.commandExtract_makeUpOf _ z
  · rfl
  · refine s.commandExtract_orders _ fun e => ?_
    rcases ho with k | k <;> rw [k] at e <;> cases e
    exact h rfl
  · rfl
theorem State.makeUpTakes_besideZone (h : y ≠ z) : s.BesideZone (s.makeUpTakes y) z := by
  refine ⟨s.makeUpTakes_starting y, ?_, ?_, fun o ho => ?_⟩
  all_goals unfold State.makeUpTakes; split
  · exact s.commandMakeUp_extractOf _ z _
  · rfl
  · exact s.commandMakeUp_makeUpOf_other _ (Ne.symm h)
  · rfl
  · refine s.commandMakeUp_orders _ fun e => ?_
    rcases ho with k | k <;> rw [k] at e <;> cases e
    exact h rfl
  · rfl

/-- R99, R104: the dampers of a zone take their commands once each, between those of other zones. -/
theorem State.dampersTake_at (z : ZoneId) : ∃ x y, s.BesideZone x z ∧ (x.extractTakes z).BesideZone y z ∧
    (y.makeUpTakes z).BesideZone s.dampersTake z := by
  obtain ⟨x, hx, he⟩ := foldl_at (R := fun s u => s.BesideZone u z) (fun s => .refl s z) (fun _ _ _ h k => h.trans k)
    (fun s b hb => s.extractTakes_besideZone hb) (List.nodup_finRange 16) (List.mem_finRange z) s
  obtain ⟨y, hy, hm⟩ := foldl_at (R := fun s u => s.BesideZone u z) (fun s => .refl s z) (fun _ _ _ h k => h.trans k)
    (fun s b hb => s.makeUpTakes_besideZone hb) (List.nodup_finRange 16) (List.mem_finRange z) (s.eachZone State.extractTakes)
  exact ⟨x, y, hx, State.BesideZone.trans he hy, hm⟩

/-- R99, R104: a zone without an entry keeps its dampers. -/
theorem State.dampersTake_none (h : s.alloc.record.zones[z.val] = none) :
    s.dampersTake.extractOf z = s.extractOf z ∧ s.dampersTake.makeUpOf z = s.makeUpOf z := by
  obtain ⟨x, y, hx, hy, hu⟩ := s.dampersTake_at z
  have he : x.extractTakes z = x := by unfold State.extractTakes; rw [hx.starting.alloc, h]
  rw [he] at hy
  have hm : y.makeUpTakes z = y := by unfold State.makeUpTakes; rw [hy.starting.alloc, hx.starting.alloc, h]
  rw [hm] at hu
  exact ⟨hu.extract.trans (hy.extract.trans hx.extract), hu.makeUp.trans (hy.makeUp.trans hx.makeUp)⟩
/-- R99, R104: and one with an entry has its dampers take its commands, whose orders are queued. -/
theorem State.dampersTake_some {e : ZoneEntry} (h : s.alloc.record.zones[z.val] = some e) :
    (s.dampersTake.extractOf z = if (s.extractOf z).command = e.extract then s.extractOf z
      else if (s.extractOf z).state = .lost then { s.extractOf z with command := e.extract }
      else { s.extractOf z with command := e.extract, state := .moving, timer := some (s.zone z).config.travelLimit }) ∧
    ((s.extractOf z).command ≠ e.extract → (s.extractOf z).state ≠ .lost → (s.zone z).config.fitted = true →
      (s.link (.extract z)).lost = false → .set z e.extract ∈ s.dampersTake.line.queue) ∧
    (s.dampersTake.makeUpOf z = if (s.makeUpOf z).command = e.makeUp then s.makeUpOf z
      else if (s.makeUpOf z).state = .lost then { s.makeUpOf z with command := e.makeUp }
      else { s.makeUpOf z with command := e.makeUp, state := e.makeUp.travelling, timer := some 60 }) ∧
    ((s.makeUpOf z).command ≠ e.makeUp → (s.makeUpOf z).state ≠ .lost → (s.zone z).config.fitted = true →
      (s.link (.makeUp z)).lost = false → makeUpOrder z e.makeUp ∈ s.dampersTake.line.queue) := by
  obtain ⟨x, y, hx, hy, hu⟩ := s.dampersTake_at z
  have he : x.extractTakes z = x.commandExtract z e.extract := by unfold State.extractTakes; rw [hx.starting.alloc, h]
  rw [he] at hy
  have hxy := (x.commandExtract_starting z e.extract).trans hy.starting
  have hm : y.makeUpTakes z = y.commandMakeUp z e.makeUp := by
    unfold State.makeUpTakes; rw [hxy.alloc, hx.starting.alloc, h]
  rw [hm] at hu
  have hmakeUp : y.makeUpOf z = s.makeUpOf z := hy.makeUp.trans ((x.commandExtract_makeUpOf _ z).trans hx.makeUp)
  refine ⟨?_, fun hc hs hf hl => ?_, ?_, fun hc hs hf hl => ?_⟩
  · rw [hu.extract, State.commandMakeUp_extractOf, hy.extract, State.commandExtract_extractOf, hx.extract, hx.starting.zone]
  · rw [hu.orders (.set z e.extract) (.inl rfl), y.commandMakeUp_orders _ (by intro k; cases k), hy.orders (.set z e.extract) (.inl rfl)]
    refine x.commandExtract_mem ?_ ?_ ?_ ?_
    · rwa [hx.extract]
    · rwa [hx.extract]
    · rwa [hx.starting.zone]
    · rwa [hx.starting.link]
  · rw [hu.makeUp, State.commandMakeUp_makeUpOf, hmakeUp]
  · rw [hu.orders _ (.inr (makeUpOrder_device z _))]
    refine y.commandMakeUp_mem ?_ ?_ ?_ ?_
    · rwa [hmakeUp]
    · rwa [hmakeUp]
    · rwa [hxy.zone, hx.starting.zone]
    · rwa [hxy.link, hx.starting.link]

/-! ### The path after the commands (R108) -/

/-- R99, R108: a damper that has taken a command proves the path only if it did before. -/
theorem State.dampersTake_provesPath (h : s.dampersTake.ProvesPath z) : s.ProvesPath z := by
  have hzone := s.dampersTake_starting.zone z
  unfold State.ProvesPath at h ⊢
  rw [hzone] at h
  cases he : s.alloc.record.zones[z.val] with
  | none => rwa [(s.dampersTake_none he).1] at h
  | some e =>
    rw [(s.dampersTake_some he).1] at h
    split at h
    · exact h
    · split at h
      · rename_i hlost
        simp [hlost] at h
      · simp at h
/-- R108: the path is never gained by a command; at a loss the sequencer is told. -/
theorem State.dampersTake_reprove (hs : s.PathSound) : s.dampersTake.reprove = s.dampersTake ∨
    (s.pathProven = true ∧ s.dampersTake.reprove = (State.pathLost { s.dampersTake with pathProven := false }).trigger) := by
  have hp := s.dampersTake_starting.pathProven
  by_cases hz : ∃ z, s.dampersTake.ProvesPath z
  · obtain ⟨z, hz⟩ := hz
    have hproven : s.pathProven = true := hs.2 ⟨z, s.dampersTake_provesPath hz⟩
    exact .inl (State.reprove_sound ⟨fun _ => ⟨z, hz⟩, fun _ => hp.trans hproven⟩)
  · rcases Bool.eq_false_or_eq_true s.pathProven with h | h
    · exact .inr ⟨h, State.reprove_lost (hp.trans h) hz⟩
    · exact .inl (State.reprove_sound ⟨fun k => (by rw [hp, h] at k; cases k), fun k => absurd k hz⟩)

end

end Sys2Proof.Machine

/-! ## The fans that take a record (R82, R83, R86, R89, R93) -/

namespace Sys2Proof.Machine

section
variable (s : State) {u : State} {n : FanId}

/-! ### The record of a fan -/

/-- R82, R83: the record of a fan that an allocation record names. -/
def Fan.calledBy (f : Fan) (path : Bool) (r : AllocRecord) : Fan :=
  match f.state with
  | .ready => if path = true then { f with startPending := true }.readied true r else { f with startPending := true }
  | .restartHold =>
    if r.smoke = true then { f with startPending := true }.readied path r else { f with startPending := true }
  | .starting | .running => { f with speedCmd := f.runSpeed r.speed, smokeSent := r.smoke }
  | _ => f
/-- R82, R85: the record of a fan that it does not name. -/
def Fan.dismissed (f : Fan) : Fan :=
  match f.state with
  | .ready | .restartHold | .stopping => { f with startPending := false }
  | .starting | .running => f.stopped
  | _ => f

variable {s}

theorem State.startIfAllowed_pending (h : (s.fan n).startPending = true) :
    s.startIfAllowed n = if s.pathProven = true then s.startFan n else s := by
  unfold State.startIfAllowed
  rw [h, Bool.true_and]
theorem State.calledFor_ready (h : (s.fan n).state = .ready) :
    s.calledFor n = (s.modFan n fun f => { f with startPending := true }).startIfAllowed n := by
  unfold State.calledFor; rw [h]
theorem State.calledFor_hold (h : (s.fan n).state = .restartHold) : s.calledFor n =
    if s.alloc.record.smoke = true then (s.modFan n fun f => { f with startPending := true }).enterReady n
    else s.modFan n fun f => { f with startPending := true } := by
  unfold State.calledFor; rw [h]
theorem State.calledFor_turning (h : (s.fan n).state = .starting ∨ (s.fan n).state = .running) : s.calledFor n =
    if (s.fan n).runSpeed s.alloc.record.speed ≠ (s.fan n).speedCmd ∨ s.alloc.record.smoke ≠ (s.fan n).smokeSent then s.queueRun n
    else s := by
  unfold State.calledFor
  rcases h with h | h
  · rw [h]
  · rw [h]

theorem State.notCalledFor_resting (h : (s.fan n).state = .ready ∨ (s.fan n).state = .restartHold ∨ (s.fan n).state = .stopping) :
    s.notCalledFor n = s.modFan n fun f => { f with startPending := false } := by
  unfold State.notCalledFor
  rcases h with h | h | h
  · rw [h]
  · rw [h]
  · rw [h]
theorem State.notCalledFor_turning (h : (s.fan n).state = .starting ∨ (s.fan n).state = .running) : s.notCalledFor n = s.stopFan n := by
  unfold State.notCalledFor
  rcases h with h | h
  · rw [h]
  · rw [h]

variable (s)

/-- R82. -/
theorem State.calledFor_fan (n : FanId) : (s.calledFor n).fan n = (s.fan n).calledBy s.pathProven s.alloc.record := by
  have hcalled : (s.modFan n fun f => { f with startPending := true }).fan n = { s.fan n with startPending := true } :=
    State.modFan_fan_self s n _
  have turning (h : (s.fan n).state = .starting ∨ (s.fan n).state = .running) : (s.calledFor n).fan n =
      { s.fan n with speedCmd := (s.fan n).runSpeed s.alloc.record.speed, smokeSent := s.alloc.record.smoke } := by
    rw [State.calledFor_turning h]
    split
    · exact s.queueRun_fan n
    · rename_i hsame
      obtain ⟨hspeed, hsmoke⟩ := not_or.1 hsame
      rw [not_not.1 hspeed, not_not.1 hsmoke]
  unfold Fan.calledBy
  split
  next h =>
    rw [State.calledFor_ready h, State.startIfAllowed_pending (by rw [hcalled])]
    split
    · rename_i hp
      rw [if_pos (show s.pathProven = true from hp), State.startFan_readied (by rw [hcalled]), hcalled]; rfl
    · rename_i hp
      rw [if_neg (show ¬s.pathProven = true from hp), hcalled]
  next h =>
    rw [State.calledFor_hold h]
    split
    · rw [State.enterReady_fan, hcalled]; rfl
    · exact hcalled
  next h => exact turning (.inl h)
  next h => exact turning (.inr h)
  next hready hhold hstarting hrunning =>
    unfold State.calledFor
    split
    · exact absurd ‹_› hready
    · exact absurd ‹_› hhold
    · exact absurd ‹_› hstarting
    · exact absurd ‹_› hrunning
    · rfl
theorem State.notCalledFor_fan (n : FanId) : (s.notCalledFor n).fan n = (s.fan n).dismissed := by
  have resting (h : (s.fan n).state = .ready ∨ (s.fan n).state = .restartHold ∨ (s.fan n).state = .stopping) :
      (s.notCalledFor n).fan n = { s.fan n with startPending := false } := by
    rw [State.notCalledFor_resting h]; exact State.modFan_fan_self s n _
  have turning (h : (s.fan n).state = .starting ∨ (s.fan n).state = .running) : (s.notCalledFor n).fan n = (s.fan n).stopped := by
    rw [State.notCalledFor_turning h]; exact s.stopFan_fan n
  unfold Fan.dismissed
  split
  next h => exact resting (.inl h)
  next h => exact resting (.inr (.inl h))
  next h => exact resting (.inr (.inr h))
  next h => exact turning (.inl h)
  next h => exact turning (.inr h)
  next hready hhold hstopping hstarting hrunning =>
    unfold State.notCalledFor
    split
    · exact absurd ‹_› hready
    · exact absurd ‹_› hhold
    · exact absurd ‹_› hstopping
    · exact absurd ‹_› hstarting
    · exact absurd ‹_› hrunning
    · rfl
theorem State.fanTakes_fan (n : FanId) : (s.fanTakes n).fan n =
    if n ∈ s.alloc.record.runSet then (s.fan n).calledBy s.pathProven s.alloc.record else (s.fan n).dismissed := by
  unfold State.fanTakes
  by_cases h : n ∈ s.alloc.record.runSet
  · rw [if_pos h, if_pos (List.contains_iff_mem.2 h)]; exact s.calledFor_fan n
  · rw [if_neg h, if_neg (mt List.contains_iff_mem.1 h)]; exact s.notCalledFor_fan n
variable {s} in
theorem State.fanTakes_named (h : n ∈ s.alloc.record.runSet) : s.fanTakes n = s.calledFor n := if_pos (List.contains_iff_mem.2 h)
variable {s} in
theorem State.fanTakes_unnamed (h : n ∉ s.alloc.record.runSet) : s.fanTakes n = s.notCalledFor n :=
  if_neg (mt List.contains_iff_mem.1 h)

/-! ### Its command (R147) -/

theorem State.queueRun_mem (hc : (s.fan n).config.fitted = true) (hl : (s.link (.drive n)).lost = false) :
    .run n ((s.fan n).runSpeed s.alloc.record.speed) s.alloc.record.smoke ∈ (s.queueRun n).line.queue := by
  refine State.enqueue_mem _ _ ?_ hl
  show (State.fan _ n).config.fitted = true
  rw [State.modFan_fan_self]; exact hc
/-- R82: a turning fan has a new RUN where the speed or the smoke flag changes. -/
theorem State.fanTakes_runs (hn : n ∈ s.alloc.record.runSet) (hst : (s.fan n).state = .starting ∨ (s.fan n).state = .running)
    (hd : (s.fan n).runSpeed s.alloc.record.speed ≠ (s.fan n).speedCmd ∨ s.alloc.record.smoke ≠ (s.fan n).smokeSent)
    (hc : (s.fan n).config.fitted = true) (hl : (s.link (.drive n)).lost = false) :
    .run n ((s.fan n).runSpeed s.alloc.record.speed) s.alloc.record.smoke ∈ (s.fanTakes n).line.queue := by
  rw [State.fanTakes_named hn, State.calledFor_turning hst, if_pos hd]
  exact s.queueRun_mem hc hl
/-- R83: a fan that starts has its RUN. -/
theorem State.fanTakes_starts (hn : n ∈ s.alloc.record.runSet)
    (hst : (s.fan n).state = .ready ∨ ((s.fan n).state = .restartHold ∧ s.alloc.record.smoke = true)) (hp : s.pathProven = true)
    (hc : (s.fan n).config.fitted = true) (hl : (s.link (.drive n)).lost = false) :
    .run n ((s.fan n).runSpeed s.alloc.record.speed) s.alloc.record.smoke ∈ (s.fanTakes n).line.queue := by
  rw [State.fanTakes_named hn]
  generalize hx : (s.modFan n fun f => { f with startPending := true }) = x
  have hfan : x.fan n = { s.fan n with startPending := true } := hx ▸ State.modFan_fan_self s n _
  have hrest : x.pathProven = s.pathProven ∧ x.alloc = s.alloc ∧ x.link (.drive n) = s.link (.drive n) := hx ▸ ⟨rfl, rfl, rfl⟩
  obtain ⟨hpath, halloc, hlink⟩ := hrest
  rcases hst with h | ⟨h, hsmoke⟩
  · rw [State.calledFor_ready h, hx, State.startIfAllowed_pending (by rw [hfan]), if_pos (hpath.trans hp)]
    have hm := x.startFan_run n (by rw [hfan]; exact hc) (by rw [hlink]; exact hl)
    rw [hfan, halloc] at hm
    exact hm
  · rw [State.calledFor_hold h, hx, if_pos hsmoke]
    have hm := (x.enterReady_readied n (by rw [hfan]; exact h)).run (by rw [hfan]; exact hc)
      (by rw [(x.enterReady_fanWork n).link, hlink]; exact hl) (by rw [hfan]) (hpath.trans hp)
    rw [hfan, halloc] at hm
    exact hm
/-- R85: a turning fan that is not named has its STOP. -/
theorem State.fanTakes_stops (hn : n ∉ s.alloc.record.runSet) (hst : (s.fan n).state = .starting ∨ (s.fan n).state = .running)
    (hc : (s.fan n).config.fitted = true) (hl : (s.link (.drive n)).lost = false) : .stop n ∈ (s.fanTakes n).line.queue := by
  rw [State.fanTakes_unnamed hn, State.notCalledFor_turning hst]
  exact s.stopFan_mem n hc hl

/-! ### Its entry (R89) -/

/-- R89: of the alarm list and the ports a fan that takes a record changes its own entry alone. -/
theorem State.fanTakes_clears (n : FanId) : s.Quiet (s.fanTakes n) ∨ s.Clears (s.fanTakes n) (.fanFault n) := by
  by_cases hn : n ∈ s.alloc.record.runSet
  · rw [State.fanTakes_named hn]
    unfold State.calledFor
    split
    · exact .inl ((s.modFan_quiet n _).trans (State.startIfAllowed_quiet _ n))
    · simp only
      split
      · exact .inr ((State.enterReady_clears _ n).from (s.modFan_quiet n _) rfl)
      · exact .inl (s.modFan_quiet n _)
    · split
      · exact .inl (s.queueRun_quiet n)
      · exact .inl (.refl s)
    · split
      · exact .inl (s.queueRun_quiet n)
      · exact .inl (.refl s)
    · exact .inl (.refl s)
  · rw [State.fanTakes_unnamed hn]
    unfold State.notCalledFor
    split
    · exact .inl (s.modFan_quiet n _)
    · exact .inl (s.modFan_quiet n _)
    · exact .inl (s.modFan_quiet n _)
    · exact .inl (s.stopFan_quiet n)
    · exact .inl (s.stopFan_quiet n)
    · exact .inl (.refl s)
theorem State.fanTakes_ports (n : FanId) : (s.fanTakes n).ports = s.ports := (s.fanTakes_clears n).elim And.right And.right
/-- R89: a restart hold that smoke service cancels. -/
theorem State.fanTakes_hasActive (hn : n ∈ s.alloc.record.runSet) (hst : (s.fan n).state = .restartHold)
    (hsmoke : s.alloc.record.smoke = true) (hs : s.alarms.Sound) : (s.fanTakes n).alarms.hasActive (.fanFault n) = false := by
  rw [State.fanTakes_named hn, State.calledFor_hold hst, if_pos hsmoke, (State.enterReady_clears _ n).1]
  exact AlarmList.Sound.clear_hasActive hs _ _

/-! ### Every fan and the duty list (R93) -/

theorem State.turnDuty_same (old : AllocRecord) : (s.turnDuty old).fans = s.fans ∧ (s.turnDuty old).line = s.line ∧
    (s.turnDuty old).alarms = s.alarms ∧ (s.turnDuty old).ports = s.ports ∧ (s.turnDuty old).grace = s.grace ∧
    (s.turnDuty old).pathProven = s.pathProven := by
  unfold State.turnDuty
  split
  · exact ⟨rfl, rfl, rfl, rfl, rfl, rfl⟩
  · exact ⟨rfl, rfl, rfl, rfl, rfl, rfl⟩
theorem turnOver_eq (l : List FanId) : turnOver l = l.drop 1 ++ l.take 1 := by cases l <;> rfl
theorem State.turnDuty_duty (old : AllocRecord) : (s.turnDuty old).duty =
    if s.alloc.record.runSet = [] ∧ old.runSet ≠ [] ∧ s.alloc.record.smoke = false then s.duty.drop 1 ++ s.duty.take 1 else s.duty := by
  rw [← turnOver_eq]
  unfold State.turnDuty
  by_cases h : s.alloc.record.runSet = [] ∧ old.runSet ≠ [] ∧ s.alloc.record.smoke = false
  · rw [if_pos h, if_pos (by simpa [and_assoc] using h)]
  · rw [if_neg h, if_neg (by simpa [and_assoc] using h)]

theorem State.takeRunSet_keepsRest (old : AllocRecord) {ks : List AlarmKey} {ns : List Notice} (hk : ∀ n, .fanFault n ∈ ks) :
    s.KeepsRest (s.takeRunSet old) ks ns := by
  obtain ⟨-, -, halarms, hports, -, -⟩ := (s.eachFan State.fanTakes).turnDuty_same old
  have hq : (s.eachFan State.fanTakes).Quiet ((s.eachFan State.fanTakes).turnDuty old) := ⟨halarms, hports⟩
  have hfans : s.KeepsRest (s.eachFan State.fanTakes) ks ns :=
    State.eachFan_keeps (P := fun q => s.KeepsRest q ks ns)
      (fun q n h => h.trans ((q.fanTakes_clears n).elim (fun h => h.keepsRest ks ns) fun h => h.keepsRest (hk n)))
      ((State.Quiet.refl s).keepsRest ks ns)
  rw [State.takeRunSet]
  exact hfans.trans (hq.keepsRest ks ns)
theorem State.takeRunSet_ports (old : AllocRecord) : (s.takeRunSet old).ports = s.ports := by
  obtain ⟨-, -, -, hports, -, -⟩ := (s.eachFan State.fanTakes).turnDuty_same old
  have hfans : (s.eachFan State.fanTakes).ports = s.ports :=
    State.eachFan_keeps (P := fun q => q.ports = s.ports) (fun q n h => (q.fanTakes_ports n).trans h) rfl
  rw [State.takeRunSet, hports, hfans]
variable {s} in
theorem record_of_plant (h : u.plant = s.plant) : u.alloc.record = s.alloc.record := congrArg Plant.record h
theorem State.takeRunSet_grace (old : AllocRecord) : (s.takeRunSet old).grace = s.grace := by
  obtain ⟨-, -, -, -, hgrace, -⟩ := (s.eachFan State.fanTakes).turnDuty_same old
  have hfans : (s.eachFan State.fanTakes).grace = s.grace := grace_of_plant (State.eachFan_plant State.fanTakes_onlyFan s)
  rw [State.takeRunSet, hgrace, hfans]
theorem State.takeRunSet_duty (old : AllocRecord) : (s.takeRunSet old).duty =
    if s.alloc.record.runSet = [] ∧ old.runSet ≠ [] ∧ s.alloc.record.smoke = false then s.duty.drop 1 ++ s.duty.take 1 else s.duty := by
  have hp := State.eachFan_plant State.fanTakes_onlyFan s
  have hr : (s.eachFan State.fanTakes).alloc.record = s.alloc.record := record_of_plant hp
  have hd : (s.eachFan State.fanTakes).duty = s.duty := duty_of_plant hp
  rw [State.takeRunSet, State.turnDuty_duty, hr, hd]
/-- R82: each fan takes the record once, between the other fans. -/
theorem State.takeRunSet_at (old : AllocRecord) (n : FanId) : ∃ x, s.BesideFan x n ∧
    (s.takeRunSet old).fan n = (x.fanTakes n).fan n ∧
    (∀ o : Order, o.device = .drive n → (o ∈ (s.takeRunSet old).line.queue ↔ o ∈ (x.fanTakes n).line.queue)) ∧
    (s.takeRunSet old).alarms.hasActive (.fanFault n) = (x.fanTakes n).alarms.hasActive (.fanFault n) := by
  obtain ⟨x, hx, hu⟩ := State.eachFan_at State.fanTakes_onlyFan State.fanTakes_fanWork s n
  obtain ⟨hfans, hline, halarms, -, -, -⟩ := (s.eachFan State.fanTakes).turnDuty_same old
  refine ⟨x, hx, ?_, fun o ho => ?_, ?_⟩
  · exact (congrArg (fun f : Vector Fan 8 => f[n.val]) hfans).trans hu.fan
  · rw [State.takeRunSet, hline]
    exact hu.mem ho
  · rw [State.takeRunSet, halarms]
    exact hu.hasActive

end

end Sys2Proof.Machine

/-! ## The handover of a pass (R82, R90, R99, R104, R108, R131) -/

namespace Sys2Proof.Machine

section
variable (s : State) {n : FanId}

/-! ### The record put in place -/

/-- R130, R131: the new record changes the allocator, and FLOW_SHORT the ports. -/
theorem State.recorded_same (b : Bool) : (s.recorded b).fans = s.fans ∧ (s.recorded b).duty = s.duty ∧
    (s.recorded b).extract = s.extract ∧ (s.recorded b).makeUp = s.makeUp ∧ (s.recorded b).pathProven = s.pathProven ∧
    (s.recorded b).alarms = s.alarms ∧ (s.recorded b).zones = s.zones ∧ (s.recorded b).resolver = s.resolver := by
  unfold State.recorded State.putRecord
  simp only
  split
  · exact ⟨rfl, rfl, rfl, rfl, rfl, rfl, rfl, rfl⟩
  · exact ⟨rfl, rfl, rfl, rfl, rfl, rfl, rfl, rfl⟩
theorem State.recorded_keepsRest (b : Bool) {ks : List AlarmKey} {ns : List Notice} (h : .flowShort ∈ ns) :
    s.KeepsRest (s.recorded b) ks ns := by
  have hput : s.Quiet { s with alloc := { s.alloc with record := s.newRecord b, stageDown := s.newStageDown b, due := false } } :=
    ⟨rfl, rfl⟩
  unfold State.recorded State.putRecord
  simp only
  split
  · exact (hput.keepsRest ks ns).trans (State.raiseAll_keepsRest _ h)
  · exact hput.keepsRest ks ns
/-- R111: only a fitted zone has an entry. -/
theorem State.recorded_fitted (b : Bool) {z : ZoneId} {e : ZoneEntry} (h : (s.newRecord b).zones[z.val] = some e) :
    (s.zone z).config.fitted = true := by
  rw [State.newRecord_zones, State.entry] at h
  by_contra hc
  rw [if_neg hc] at h
  cases h

/-! ### The dampers and the path -/

/-- What the judgement of the path after the commands leaves: the fans, the duty list, the line and the entries. -/
structure State.Judged (s t : State) : Prop where
  fans : t.fans = s.fans
  duty : t.duty = s.duty
  line : t.line = s.line
  alarms : t.alarms = s.alarms
  record : t.alloc.record = s.alloc.record
  rest : ∀ (ks : List AlarmKey) (ns : List Notice), .pathLost ∈ ns → s.KeepsRest t ks ns
  /-- R90: the path is lost while a fan turns -/
  lost : s.pathProven = true → t.pathProven = false → s.AnyTurning →
    t.noticedByAll .pathLost ∧ (s.resolver.smoke = false → t.grace = some 10)

theorem State.Judged.refl : s.Judged s :=
  ⟨rfl, rfl, rfl, rfl, rfl, fun ks ns _ => (State.Quiet.refl s).keepsRest ks ns, fun h k => by rw [h] at k; cases k⟩
theorem State.pathLost_keepsRest {ks : List AlarmKey} {ns : List Notice} (h : .pathLost ∈ ns) : s.KeepsRest s.pathLost ks ns := by
  have hgrace : (s.raiseAll .pathLost).Quiet { s.raiseAll .pathLost with grace := some Config.graceTime } := ⟨rfl, rfl⟩
  unfold State.pathLost
  split
  · split
    · exact s.raiseAll_keepsRest h
    · exact (s.raiseAll_keepsRest h).trans (hgrace.keepsRest ks ns)
  · exact (State.Quiet.refl s).keepsRest ks ns
/-- R90, R108: a path that is lost. -/
theorem State.Judged.pathLost : s.Judged (State.pathLost { s with pathProven := false }).trigger := by
  have hlost : s.Quiet { s with pathProven := false } := ⟨rfl, rfl⟩
  have hrest : ∀ (ks : List AlarmKey) (ns : List Notice), .pathLost ∈ ns →
      s.KeepsRest (State.pathLost { s with pathProven := false }).trigger ks ns := fun ks ns h =>
    ((hlost.keepsRest ks ns).trans (State.pathLost_keepsRest _ h)).trans ((State.trigger_quiet _).keepsRest ks ns)
  by_cases ht : s.AnyTurning
  · rcases Bool.eq_false_or_eq_true s.resolver.smoke with hs | hs
    · rw [State.pathLost_smoke (s := { s with pathProven := false }) ht hs] at hrest ⊢
      exact ⟨rfl, rfl, rfl, rfl, rfl, hrest,
        fun _ _ _ => ⟨State.raiseAll_noticedByAll _ _, fun h => by rw [hs] at h; cases h⟩⟩
    · rw [State.pathLost_grace (s := { s with pathProven := false }) ht hs] at hrest ⊢
      exact ⟨rfl, rfl, rfl, rfl, rfl, hrest, fun _ _ _ => ⟨State.raiseAll_noticedByAll _ _, fun _ => rfl⟩⟩
  · rw [State.pathLost_still (s := { s with pathProven := false }) ht] at hrest ⊢
    exact ⟨rfl, rfl, rfl, rfl, rfl, hrest, fun _ _ h => absurd h ht⟩
theorem State.dampersTake_judged (hs : s.PathSound) : s.dampersTake.Judged s.dampersTake.reprove := by
  rcases s.dampersTake_reprove hs with h | ⟨-, h⟩
  · rw [h]; exact State.Judged.refl _
  · rw [h]; exact State.Judged.pathLost _

/-! ### The pass, part by part -/

variable (b : Bool) {z : ZoneId}

/-- R111: the record that a pass hands on. -/
theorem State.pass_record : (s.pass b).alloc.record = s.newRecord b := by
  have hput : (s.recorded b).alloc.record = s.newRecord b := State.putRecord_record s _ _
  rw [State.pass_eq, (State.takeRunSet_samePath _ _).record, (State.reprove_dampers _).2.2.2, (State.dampersTake_starting _).alloc, hput]
/-- R99, R104: the dampers as their commands leave them. -/
theorem State.pass_dampers : (s.pass b).extractOf z = (s.recorded b).dampersTake.extractOf z ∧
    (s.pass b).makeUpOf z = (s.recorded b).dampersTake.makeUpOf z := by
  obtain ⟨hextract, hmakeUp, -, -⟩ := (s.recorded b).dampersTake.reprove_dampers
  have hp := State.takeRunSet_samePath (s.recorded b).dampersTake.reprove s.alloc.record
  rw [State.pass_eq]
  exact ⟨congrArg (fun v : Vector ExtractDamper 16 => v[z.val]) (hp.extract.trans hextract),
    congrArg (fun v : Vector MakeUpDamper 16 => v[z.val]) (hp.makeUp.trans hmakeUp)⟩
theorem State.pass_orders {o : Order} (ho : ∀ n, o.device ≠ .drive n) :
    o ∈ (s.pass b).line.queue ↔ o ∈ (s.recorded b).dampersTake.line.queue := by
  rw [State.pass_eq]
  exact ((State.takeRunSet_fanWork _ _).orders o fun n _ => ho n).trans ((State.reprove_fanWork _).orders o fun n _ => ho n)
theorem State.pass_idleZone (h : (s.newRecord b).zones[z.val] = none) :
    (s.pass b).extractOf z = s.extractOf z ∧ (s.pass b).makeUpOf z = s.makeUpOf z := by
  obtain ⟨-, -, hextract, hmakeUp, -⟩ := s.recorded_same b
  have hput : (s.recorded b).alloc.record = s.newRecord b := State.putRecord_record s _ _
  obtain ⟨he, hm⟩ := (s.recorded b).dampersTake_none (z := z) (by rw [hput]; exact h)
  rw [(s.pass_dampers b).1, (s.pass_dampers b).2, he, hm]
  exact ⟨congrArg (fun v : Vector ExtractDamper 16 => v[z.val]) hextract, congrArg (fun v : Vector MakeUpDamper 16 => v[z.val]) hmakeUp⟩
theorem State.pass_zone {e : ZoneEntry} (h : (s.newRecord b).zones[z.val] = some e) :
    ((s.pass b).extractOf z = if (s.extractOf z).command = e.extract then s.extractOf z
      else if (s.extractOf z).state = .lost then { s.extractOf z with command := e.extract }
      else { s.extractOf z with command := e.extract, state := .moving, timer := some (s.zone z).config.travelLimit }) ∧
    ((s.extractOf z).command ≠ e.extract → (s.extractOf z).state ≠ .lost → (s.link (.extract z)).lost = false →
      .set z e.extract ∈ (s.pass b).line.queue) ∧
    ((s.pass b).makeUpOf z = if (s.makeUpOf z).command = e.makeUp then s.makeUpOf z
      else if (s.makeUpOf z).state = .lost then { s.makeUpOf z with command := e.makeUp }
      else { s.makeUpOf z with command := e.makeUp, state := e.makeUp.travelling, timer := some 60 }) ∧
    ((s.makeUpOf z).command ≠ e.makeUp → (s.makeUpOf z).state ≠ .lost → (s.link (.makeUp z)).lost = false →
      makeUpOrder z e.makeUp ∈ (s.pass b).line.queue) := by
  obtain ⟨-, -, hextract, hmakeUp, -, -, hzones, -⟩ := s.recorded_same b
  have hput : (s.recorded b).alloc.record = s.newRecord b := State.putRecord_record s _ _
  have hfitted := s.recorded_fitted b h
  have he : (s.recorded b).extractOf z = s.extractOf z := congrArg (fun v : Vector ExtractDamper 16 => v[z.val]) hextract
  have hm : (s.recorded b).makeUpOf z = s.makeUpOf z := congrArg (fun v : Vector MakeUpDamper 16 => v[z.val]) hmakeUp
  have hz : (s.recorded b).zone z = s.zone z := congrArg (fun v : Vector Zone 16 => v[z.val]) hzones
  have hl : ∀ d, (s.recorded b).link d = s.link d := fun d => by simp only [State.link, s.recorded_line b]
  have hd := (s.recorded b).dampersTake_some (z := z) (by rw [hput]; exact h)
  rw [he, hm, hz, hl, hl] at hd
  obtain ⟨hset, hsets, hmake, hmakes⟩ := hd
  rw [(s.pass_dampers b).1, (s.pass_dampers b).2]
  refine ⟨hset, fun hc hst hlost => ?_, hmake, fun hc hst hlost => ?_⟩
  · exact (s.pass_orders b fun n => by intro k; cases k).2 (hsets hc hst hfitted hlost)
  · exact (s.pass_orders b fun n => by rw [makeUpOrder_device]; intro k; cases k).2 (hmakes hc hst hfitted hlost)

/-- R82: a fan of s takes the record r in the state x, with the path as given. -/
structure State.Meets (s x : State) (r : AllocRecord) (path : Bool) (n : FanId) : Prop where
  fan : x.fan n = s.fan n
  record : x.alloc.record = r
  pathProven : x.pathProven = path
  link : x.link (.drive n) = s.link (.drive n)
  sound : s.alarms.Sound → x.alarms.Sound

/-- R82: each fan takes the record once; what the pass leaves of it, of its command and of its entry is what it does so. -/
theorem State.pass_fan (hs : s.PathSound) (n : FanId) : ∃ x, s.Meets x (s.newRecord b) (s.pass b).pathProven n ∧ (s.pass b).fan n = (x.fanTakes n).fan n ∧
    (∀ o : Order, o.device = .drive n → (o ∈ (s.pass b).line.queue ↔ o ∈ (x.fanTakes n).line.queue)) ∧
    (s.pass b).alarms.hasActive (.fanFault n) = (x.fanTakes n).alarms.hasActive (.fanFault n) := by
  obtain ⟨hfans, -, hextract, -, hpath, halarms, hzones, -⟩ := s.recorded_same b
  have hput : (s.recorded b).alloc.record = s.newRecord b := State.putRecord_record s _ _
  have hline := s.recorded_line b
  have hsound : (s.recorded b).PathSound :=
    hs.congr hpath hextract fun y => by simp only [State.zone, hzones]
  have hproven : (s.pass b).pathProven = (s.recorded b).dampersTake.reprove.pathProven :=
    (State.takeRunSet_samePath _ s.alloc.record).pathProven
  obtain ⟨x, hx, hat⟩ := State.takeRunSet_at (s.recorded b).dampersTake.reprove s.alloc.record n
  rw [← State.pass_eq] at hat
  have hstart := (s.recorded b).dampersTake_starting
  have hjudged := (s.recorded b).dampersTake_judged hsound
  refine ⟨x, ⟨?_, ?_, ?_, ?_, fun ha => hx.work.sound ?_⟩, hat⟩
  · rw [hx.fan, State.fan, hjudged.fans, hstart.fans, hfans]; rfl
  · rw [hx.record, hjudged.record, hstart.alloc, hput]
  · rw [hx.pathProven, hproven]
  · rw [hx.link, State.link, hjudged.line]
    exact (hstart.link _).trans (by simp only [State.link, hline])
  · rw [hjudged.alarms, hstart.quiet.1, halarms]; exact ha

theorem State.pass_keepsRest (hs : s.PathSound) : s.KeepsRest (s.pass b) fanFaults [.flowShort, .pathLost] := by
  obtain ⟨-, -, hextract, -, hpath, -, hzones, -⟩ := s.recorded_same b
  have hsound : (s.recorded b).PathSound := hs.congr hpath hextract fun y => by simp only [State.zone, hzones]
  have hshort : Notice.flowShort ∈ [Notice.flowShort, Notice.pathLost] := List.mem_cons_self
  have hlost : Notice.pathLost ∈ [Notice.flowShort, Notice.pathLost] := List.mem_cons_of_mem _ List.mem_cons_self
  have hfault : ∀ n, AlarmKey.fanFault n ∈ fanFaults := fun n => List.mem_map_of_mem (List.mem_finRange n)
  rw [State.pass_eq]
  exact (((s.recorded_keepsRest b hshort).trans ((s.recorded b).dampersTake_starting.quiet.keepsRest _ _)).trans
    (((s.recorded b).dampersTake_judged hsound).rest _ _ hlost)).trans (State.takeRunSet_keepsRest _ _ hfault)
/-- R90: a pass that loses the path while a fan turns. -/
theorem State.pass_pathLost (hs : s.PathSound) (h : s.pathProven = true) (h' : (s.pass b).pathProven = false) (ht : s.AnyTurning) :
    (s.pass b).noticedByAll .pathLost ∧ (s.resolver.smoke = false → (s.pass b).grace = some 10) := by
  obtain ⟨hfans, -, hextract, -, hpath, -, hzones, hresolver⟩ := s.recorded_same b
  have hsound : (s.recorded b).PathSound := hs.congr hpath hextract fun y => by simp only [State.zone, hzones]
  have hstart := (s.recorded b).dampersTake_starting
  have hjudged := (s.recorded b).dampersTake_judged hsound
  rw [State.pass_eq, (State.takeRunSet_samePath _ _).pathProven] at h'
  obtain ⟨hnotice, hgrace⟩ := hjudged.lost (by rw [hstart.pathProven, hpath]; exact h) h'
    ((State.AnyTurning.congr (hstart.fans.trans hfans)).2 ht)
  rw [State.pass_eq, State.takeRunSet_grace]
  refine ⟨fun p => ?_, fun hsmoke => hgrace (by rw [resolver_of_lasting hstart.lasting, hresolver]; exact hsmoke)⟩
  unfold State.noticed State.port
  rw [State.takeRunSet_ports]
  exact hnotice p
/-- R93. -/
theorem State.pass_duty (hs : s.PathSound) : (s.pass b).duty =
    if (s.newRecord b).runSet = [] ∧ s.alloc.record.runSet ≠ [] ∧ (s.newRecord b).smoke = false then s.duty.drop 1 ++ s.duty.take 1
    else s.duty := by
  obtain ⟨-, hduty, hextract, -, hpath, -, hzones, -⟩ := s.recorded_same b
  have hput : (s.recorded b).alloc.record = s.newRecord b := State.putRecord_record s _ _
  have hsound : (s.recorded b).PathSound := hs.congr hpath hextract fun y => by simp only [State.zone, hzones]
  have hstart := (s.recorded b).dampersTake_starting
  have hjudged := (s.recorded b).dampersTake_judged hsound
  rw [State.pass_eq, State.takeRunSet_duty, hjudged.record, hstart.alloc, hput, hjudged.duty, hstart.duty, hduty]

end

/-- Settles O54: the dampers take their commands, the path is judged, and each fan takes the record as `fanTakes` has it. -/
theorem handoverMovesDampersAndFans : Obligations.HandoverMovesDampersAndFans := by
  intro s b hs
  have hrecord := s.pass_record b
  have hidle := fun z : ZoneId => s.pass_idleZone b (z := z)
  have hzone := fun (z : ZoneId) (e : ZoneEntry) => s.pass_zone b (z := z) (e := e)
  have hpath : (s.pass b).PathSound := s.pass_path b
  have hkeeps := s.pass_keepsRest b hs
  have hlost := s.pass_pathLost b hs
  have hfans := s.pass_fan b hs
  have hduty := s.pass_duty b hs
  generalize s.newRecord b = r at hrecord hidle hzone hfans hduty
  generalize s.pass b = u at hrecord hidle hzone hpath hkeeps hlost hfans hduty ⊢
  subst hrecord
  refine ⟨fun z hz => hidle z hz, fun z e hz => ?zone, hpath, hkeeps, hlost, fun n => ?fan, hduty⟩
  case zone =>
    obtain ⟨hextract, hset, hmakeUp, hmake⟩ := hzone z e hz
    cases hm : e.makeUp with
    | open_ => rw [hm] at hmakeUp hmake; exact ⟨hextract, hset, hmakeUp, hmake⟩
    | closed => rw [hm] at hmakeUp hmake; exact ⟨hextract, hset, hmakeUp, hmake⟩
  case fan =>
    intro f speed
    obtain ⟨x, ⟨hfan, hrecord, hproven, hlink, hsound⟩, hleft, horders, hactive⟩ := hfans n
    refine ⟨?_, fun hc hl => ⟨fun hn ht hd => ?_, fun hn hst hp => ?_, fun hn ht => ?_⟩, fun hn hst hsmoke ha => ?_⟩
    · rw [hleft, x.fanTakes_fan n, hrecord, hfan, hproven]
      rfl
    · have hm := x.fanTakes_runs (n := n) (by rwa [hrecord]) (by rwa [hfan]) (by rw [hfan, hrecord]; exact hd) (by rwa [hfan]) (by rwa [hlink])
      rw [hfan, hrecord] at hm
      exact (horders (.run n _ _) rfl).2 hm
    · have hm := x.fanTakes_starts (n := n) (by rwa [hrecord]) (by rwa [hfan, hrecord]) (by rwa [hproven]) (by rwa [hfan]) (by rwa [hlink])
      rw [hfan, hrecord] at hm
      exact (horders (.run n _ _) rfl).2 hm
    · exact (horders (.stop n) rfl).2 (x.fanTakes_stops (n := n) (by rwa [hrecord]) (by rwa [hfan]) (by rwa [hfan]) (by rwa [hlink]))
    · exact hactive.trans (x.fanTakes_hasActive (by rwa [hrecord]) (by rwa [hfan]) (by rwa [hrecord]) (hsound ha))

end Sys2Proof.Machine

/-! ## What the passes of an event leave of one fan (R82, R83, R85, R89, R113, R131) -/

namespace Sys2Proof.Machine

section
variable {s u : State} {n : FanId} {P : Fan → Prop}

/-- What a pass keeps, the passes of an event keep. -/
theorem State.settle_keeps {Q : State → Prop} (h : ∀ s, Q s → Q (s.pass false)) (hs : Q s) : Q s.settle := by
  have chain : ∀ (k : Nat) (s : State), Q s → Q (s.chain k) := fun k => by
    induction k with
    | zero => exact fun s hs => hs
    | succ k ih =>
      intro s hs
      unfold State.chain
      split
      · exact ih _ (h s hs)
      · exact hs
  exact chain _ s hs

/-! ### Its record -/

/-- What the start at a gain of the path and the taking of a record keep of a fan. -/
structure Fan.PassKeeps (P : Fan → Prop) : Prop where
  gain : ∀ f r, P f → f.waits → P (f.readied true r)
  called : ∀ f path r, P f → P (f.calledBy path r)
  dismissed : ∀ f, P f → P f.dismissed

theorem Fan.PassKeeps.reprove (h : Fan.PassKeeps P) (hs : P (s.fan n)) : P (s.reprove.fan n) := by
  by_cases hz : ∃ z, s.ProvesPath z
  · rcases Bool.eq_false_or_eq_true s.pathProven with hp | hp
    · rwa [State.reprove_sound ⟨fun _ => hz, fun _ => hp⟩]
    · rw [State.reprove_gained hp hz, State.trigger_fan]
      obtain ⟨hwaits, hstays⟩ := State.pathGained_fan { s with pathProven := true } n rfl
      by_cases hw : (s.fan n).waits
      · rw [(hwaits hw).1]; exact h.gain _ _ hs hw
      · rw [hstays hw]; exact hs
  · rcases Bool.eq_false_or_eq_true s.pathProven with hp | hp
    · rw [State.reprove_lost hp hz]
      have hj := (State.Judged.pathLost s).fans
      rwa [State.fan, hj]
    · rwa [State.reprove_sound ⟨fun k => (by rw [hp] at k; cases k), fun k => absurd k hz⟩]
theorem Fan.PassKeeps.pass (h : Fan.PassKeeps P) (b : Bool) (hs : P (s.fan n)) : P ((s.pass b).fan n) := by
  obtain ⟨hfans, -⟩ := s.recorded_same b
  have htake : (s.recorded b).dampersTake.fans = s.fans := (s.recorded b).dampersTake_starting.fans.trans hfans
  have hw : P ((s.recorded b).dampersTake.reprove.fan n) := h.reprove (by rw [State.fan, htake]; exact hs)
  obtain ⟨x, hx, hfan, -⟩ := State.takeRunSet_at (s.recorded b).dampersTake.reprove s.alloc.record n
  rw [State.pass_eq, hfan, x.fanTakes_fan, hx.fan]
  split
  · exact h.called _ _ _ hw
  · exact h.dismissed _ hw
theorem Fan.PassKeeps.settle (h : Fan.PassKeeps P) (hs : P (s.fan n)) : P (s.settle.fan n) :=
  State.settle_keeps (Q := fun q => P (q.fan n)) (fun _ hq => h.pass false hq) hs

/-- R82: a fan that no record moves: it takes no part, or it stops with no start pending. -/
def Fan.Idle (f : Fan) : Prop :=
  f.state ∈ [.absent, .enrolling, .enrolHold, .tripped, .lost] ∨ (f.state = .stopping ∧ f.startPending = false)

theorem Fan.Idle.calledBy {f : Fan} (h : f.Idle) (path : Bool) (r : AllocRecord) : f.calledBy path r = f := by
  unfold Fan.Idle at h
  unfold Fan.calledBy
  split
  next hst => simp [hst] at h
  next hst => simp [hst] at h
  next hst => simp [hst] at h
  next hst => simp [hst] at h
  next => rfl
theorem Fan.Idle.dismissed {f : Fan} (h : f.Idle) : f.dismissed = f := by
  unfold Fan.Idle at h
  unfold Fan.dismissed
  split
  next hst => simp [hst] at h
  next hst => simp [hst] at h
  next hst =>
    have hp : f.startPending = false := by simpa [hst] using h
    rw [← hp]
  next hst => simp [hst] at h
  next hst => simp [hst] at h
  next => rfl
theorem Fan.Idle.not_waits {f : Fan} (h : f.Idle) : ¬f.waits := by
  rintro ⟨hst, -⟩
  simp [Fan.Idle, hst] at h
/-- R82: the passes leave an idle fan as it is. -/
theorem State.settle_idle (h : (s.fan n).Idle) : s.settle.fan n = s.fan n :=
  Fan.PassKeeps.settle (P := fun f => f = s.fan n)
    ⟨fun _ _ hf hw => absurd (hf ▸ hw) h.not_waits, fun f path r hf => by rw [hf]; exact h.calledBy path r,
      fun f hf => by rw [hf]; exact h.dismissed⟩ rfl

/-- R83. -/
theorem Fan.readied_state (f : Fan) (path : Bool) (r : AllocRecord) :
    (f.readied path r).state = .ready ∨ (f.readied path r).state = .starting := by
  unfold Fan.readied
  split
  · exact .inr rfl
  · exact .inl rfl
/-- R82, R83, R85: a fan that is READY, STARTING or STOPPING stays among these states. -/
theorem Fan.passKeeps_ready : Fan.PassKeeps fun f => f.state = .ready ∨ f.state = .starting ∨ f.state = .stopping where
  gain f r _ hw := .inr (.inl (by rw [Fan.readied, if_pos ⟨hw.2, rfl⟩]))
  called f path r h := by
    have hready : ∀ q : Fan, (q.readied true r).state = .ready ∨ (q.readied true r).state = .starting ∨
        (q.readied true r).state = .stopping := fun q => (q.readied_state true r).imp_right .inl
    unfold Fan.calledBy
    rcases h with h | h | h
    · rw [h]
      simp only
      split
      · exact hready _
      · exact .inl rfl
    · rw [h]; exact .inr (.inl rfl)
    · rw [h]; exact .inr (.inr h)
  dismissed f h := by
    unfold Fan.dismissed
    rcases h with h | h | h
    all_goals rw [h]; simp [Fan.stopped]

/-! ### Its entry -/

/-- R89: no ACTIVE FAN_FAULT entry of the fan stands in a sound list. -/
def State.FaultClear (s : State) (n : FanId) : Prop := s.alarms.Sound ∧ s.alarms.hasActive (.fanFault n) = false

theorem State.FaultClear.of_alarms (h : s.FaultClear n) (ha : u.alarms = s.alarms) : u.FaultClear n := by
  unfold State.FaultClear
  rwa [ha]
theorem State.FaultClear.of_clears (h : s.alarms.Sound) (hc : s.Clears u (.fanFault n)) : u.FaultClear n :=
  ⟨by rw [hc.1]; exact AlarmList.Sound.clear h _ _, by rw [hc.1]; exact h.clear_hasActive _ _⟩
theorem State.reprove_alarms (s : State) : s.reprove.alarms = s.alarms := by
  unfold State.reprove
  split
  · rfl
  · split
    · rw [State.trigger_alarms]
      exact (State.pathGained_quiet _).1
    · exact (State.Judged.pathLost s).alarms
theorem State.FaultClear.fanTakes (h : s.FaultClear n) (m : FanId) : (s.fanTakes m).FaultClear n := by
  by_cases he : n = m
  · subst he
    exact (s.fanTakes_clears n).elim (fun hq => h.of_alarms hq.1) fun hc => .of_clears h.1 hc
  · have hw := s.fanTakes_fanWork (n := m)
    exact ⟨hw.sound h.1, (hw.active _ fun k hk e => he (by cases e; exact hk)).trans h.2⟩
theorem State.FaultClear.pass (h : s.FaultClear n) (b : Bool) : (s.pass b).FaultClear n := by
  obtain ⟨-, -, -, -, -, halarms, -⟩ := s.recorded_same b
  have htake : (s.recorded b).dampersTake.alarms = s.alarms := (s.recorded b).dampersTake_starting.quiet.1.trans halarms
  have hw : (s.recorded b).dampersTake.reprove.FaultClear n := h.of_alarms ((State.reprove_alarms _).trans htake)
  obtain ⟨-, -, hduty, -⟩ := ((s.recorded b).dampersTake.reprove.eachFan State.fanTakes).turnDuty_same s.alloc.record
  have hfans : ((s.recorded b).dampersTake.reprove.eachFan State.fanTakes).FaultClear n :=
    State.eachFan_keeps (P := fun q => q.FaultClear n) (fun q m hq => hq.fanTakes m) hw
  rw [State.pass_eq, State.takeRunSet]
  exact hfans.of_alarms hduty
theorem State.FaultClear.settle (h : s.FaultClear n) : s.settle.FaultClear n :=
  State.settle_keeps (Q := fun q => q.FaultClear n) (fun _ hq => hq.pass false) h

/-! ### The end of a request -/

variable (p : Port) (r : Response)

theorem State.sends_fan (u : State) (n : FanId) : (u.sends p r).fan n = u.settle.fan n := by
  rw [State.sends, State.modPort_fan]; rfl
theorem State.sends_idle (h : (u.fan n).Idle) : (u.sends p r).fan n = u.fan n := by
  rw [State.sends_fan, State.settle_idle h]
theorem State.sends_faultClear (h : u.FaultClear n) : (u.sends p r).FaultClear n :=
  h.settle.of_alarms (by rw [State.sends, State.modPort_alarms]; rfl)

end

end Sys2Proof.Machine

/-! ## REENROL FAN and RESET FAN (R80, R83, R85, R88, R89, R91) -/

namespace Sys2Proof.Machine

section
variable {s v : State} {p : Port} {index : Byte} {n : FanId}

/-! ### What each request does, by the fan's state -/

/-- R80: a fan at rest that is sent to re-enrol. -/
def State.reenrolHeld (v : State) (n : FanId) : State := (v.modFan n fun f => { f with startPending := false }).enterEnrolHold n
/-- R80, R85: a turning fan that is stopped to re-enrol. -/
def State.reenrolStopped (v : State) (n : FanId) : State :=
  (v.modFan n fun f => { f with startPending := false, reenrolPending := true }).stopFan n

theorem reenrolByState_held (h : (v.fan n).state = .ready ∨ (v.fan n).state = .restartHold) :
    reenrolByState n v = doneNow (v.reenrolHeld n).finish := by
  unfold reenrolByState
  rcases h with h | h
  · rw [h]; rfl
  · rw [h]; rfl
theorem reenrolByState_stopped (h : (v.fan n).state = .starting ∨ (v.fan n).state = .running) :
    reenrolByState n v = doneNow (v.reenrolStopped n).finish := by
  unfold reenrolByState
  rcases h with h | h
  · rw [h]; rfl
  · rw [h]; rfl
theorem reenrolByState_refused (h : (v.fan n).state ∈ [.absent, .enrolling, .enrolHold, .stopping, .tripped, .lost]) :
    reenrolByState n v = refuse v .refusedState := by
  unfold reenrolByState
  simp only [List.mem_cons, List.not_mem_nil, or_false] at h
  rcases h with h | h | h | h | h | h
  all_goals rw [h]

theorem State.reenrolHeld_onlyFan (v : State) (n : FanId) : v.OnlyFan (v.reenrolHeld n) n :=
  (v.modFan_onlyFan n _).trans (State.enterState_onlyFan _ n _ _)
theorem State.reenrolHeld_fan (v : State) (n : FanId) :
    (v.reenrolHeld n).fan n = { v.fan n with state := .enrolHold, timer := some 10, startPending := false } := by
  rw [State.reenrolHeld, State.enterEnrolHold_fan, State.modFan_fan_self]
theorem State.reenrolHeld_line (v : State) (n : FanId) : (v.reenrolHeld n).line = v.line := by
  rw [State.reenrolHeld, State.enterEnrolHold, State.enterState, State.triggerIf_line]; rfl
theorem State.reenrolHeld_quiet (v : State) (n : FanId) : v.Quiet (v.reenrolHeld n) :=
  (v.modFan_quiet n _).trans (State.enterEnrolHold_quiet _ n)
/-- R91: the hold is a trigger from READY, and from RESTART_HOLD in smoke service. -/
theorem State.reenrolHeld_due (h : (v.fan n).state = .ready ∨ (v.fan n).state = .restartHold) :
    (v.reenrolHeld n).alloc.due = true ↔ v.alloc.due = true ∨ (v.fan n).state = .ready ∨ v.resolver.smoke = true := by
  have hmove : eligibilityMove v.resolver.smoke (v.fan n).state .enrolHold = true ↔ (v.fan n).state = .ready ∨ v.resolver.smoke = true := by
    rcases h with h | h
    · rw [h]; cases v.resolver.smoke <;> decide
    · rw [h]; cases v.resolver.smoke <;> decide
  rw [← hmove, State.reenrolHeld, State.enterEnrolHold, State.enterState_due_iff, State.modFan_fan_self]
  rfl

theorem State.reenrolStopped_onlyFan (v : State) (n : FanId) : v.OnlyFan (v.reenrolStopped n) n :=
  (v.modFan_onlyFan n _).trans (State.stopFan_onlyFan _ n)
theorem State.reenrolStopped_fan (v : State) (n : FanId) :
    (v.reenrolStopped n).fan n = { (v.fan n).stopped with startPending := false, reenrolPending := true } := by
  rw [State.reenrolStopped, State.stopFan_fan, State.modFan_fan_self]
  rfl
theorem State.reenrolStopped_quiet (v : State) (n : FanId) : v.Quiet (v.reenrolStopped n) :=
  (v.modFan_quiet n _).trans (State.stopFan_quiet _ n)
theorem State.reenrolStopped_mem (hc : (v.fan n).config.fitted = true) (hl : (v.link (.drive n)).lost = false) :
    .stop n ∈ (v.reenrolStopped n).line.queue :=
  State.stopFan_mem _ n (by rw [State.modFan_fan_self]; exact hc) hl
theorem State.reenrolStopped_due (h : (v.fan n).state = .starting ∨ (v.fan n).state = .running) :
    (v.reenrolStopped n).alloc.due = true := by
  have hmove : ∀ smoke, eligibilityMove smoke (v.fan n).state .stopping = true := fun smoke => by
    rcases h with h | h
    · rw [h]; cases smoke <;> decide
    · rw [h]; cases smoke <;> decide
  refine State.enterState_due _ n ?_
  rw [State.queueStop_fan, State.modFan_fan_self]
  exact hmove _

/-- R88, R89: a TRIPPED fan that is reset. -/
theorem State.fanReset_held (h : (v.fan n).reenrolPending = true) : v.fanReset n =
    ((v.clearAlarm (.fanFault n)).modFan n fun f => { f with reenrolPending := false }).enterEnrolHold n := if_pos h
theorem State.fanReset_ready (h : (v.fan n).reenrolPending = false) : v.fanReset n = (v.clearAlarm (.fanFault n)).enterReady n :=
  if_neg (by rw [h]; decide)
theorem State.fanReset_onlyFan (v : State) (n : FanId) : v.OnlyFan (v.fanReset n) n := by
  unfold State.fanReset
  split
  · exact ((v.clearAlarm_onlyFan n _).trans (State.modFan_onlyFan _ n _)).trans (State.enterState_onlyFan _ n _ _)
  · exact (v.clearAlarm_onlyFan n _).trans (State.enterReady_onlyFan _ n)
theorem State.fanReset_keepsRest (v : State) (n : FanId) : v.KeepsRest (v.fanReset n) [.fanFault n] [] := by
  have hclear : v.KeepsRest (v.clearAlarm (.fanFault n)) [.fanFault n] [] := v.clearAlarm_keepsRest List.mem_cons_self
  unfold State.fanReset
  split
  · exact hclear.trans (((State.modFan_quiet _ n _).trans (State.enterEnrolHold_quiet _ n)).keepsRest _ _)
  · exact hclear.trans ((State.enterReady_clears _ n).keepsRest List.mem_cons_self)
theorem State.fanReset_faultClear (h : v.alarms.Sound) : (v.fanReset n).FaultClear n := by
  have hclear : (v.clearAlarm (.fanFault n)).FaultClear n := .of_clears h (State.Clears.of_clear (.refl v) rfl)
  unfold State.fanReset
  split
  · exact hclear.of_alarms ((State.modFan_quiet _ n _).trans (State.enterEnrolHold_quiet _ n)).1
  · exact .of_clears hclear.1 (State.enterReady_clears _ n)
/-- R83, R89: a fan that leaves TRIPPED for READY. -/
theorem State.fanReset_readied (hst : (v.fan n).state = .tripped) (h : (v.fan n).reenrolPending = false) :
    v.Readied (v.fanReset n) n (v.fan n) := by
  have hfan : (v.clearAlarm (.fanFault n)).fan n = v.fan n := State.clearAlarm_fan ..
  have hready := (v.clearAlarm (.fanFault n)).enterReady_readiedFrom n (.inl (by rw [hfan, hst]; rfl))
  rw [hfan] at hready
  rw [State.fanReset_ready h]
  exact hready.before (v.clearAlarm_fanWork n) rfl

/-! ### The requests served -/

theorem exec_reenrolFan (hd : (s.port .building).decoder = .waiting) (hl : s.plan.level = .none) (hn : fanOf index = some n) {a : State}
    (hb : reenrolByState n (s.frameTaken .building) = doneNow a.finish) :
    exec (.reenrolFan .building index []) s = .next (a.sends .building ⟨.done, 0x19, index, []⟩) := by
  have hi : (s.frameTaken .building).incident = false := by simpa using State.not_incident hl
  have hbody : reenrolFanBody index (s.frameTaken .building) = ⟨a.finish, .done, []⟩ := by
    simp only [reenrolFanBody, hn, unlessGuarded_of_quiet hi, hb]; rfl
  exact serve_accepted (row := rowReenrolFan) hd rfl (by decide) rfl hbody
theorem exec_reenrolFan_refused (hd : (s.port .building).decoder = .waiting) (hl : s.plan.level = .none) (hn : fanOf index = some n)
    (hb : reenrolByState n (s.frameTaken .building) = refuse (s.frameTaken .building) .refusedState) :
    exec (.reenrolFan .building index []) s = .next ((s.frameTaken .building).modPort .building fun q =>
      { q with response := some ⟨.refusedState, 0x19, index, []⟩ }) := by
  have hi : (s.frameTaken .building).incident = false := by simpa using State.not_incident hl
  have hbody : reenrolFanBody index (s.frameTaken .building) = refuse (s.frameTaken .building) .refusedState := by
    simp only [reenrolFanBody, hn, unlessGuarded_of_quiet hi, hb]
  refine congrArg Host.Outcome.next ((serve_owned hd (by decide) rfl rfl).trans ?_)
  rw [hbody]; rfl

/-- R88: the checks of RESET FAN, where the port may ask. -/
theorem resetFanBody_open (hn : fanOf index = some n) (ho : (p = .building ∧ v.incident = false) ∨ (p = .override ∧ v.resolver.control = .inControl)) :
    resetFanBody p index v = if (v.fan n).state ≠ .tripped ∨ (v.fan n).reportsFault = true then refuse v .refusedState
      else doneNow (v.fanReset n).finish := by
  have hguard : ¬(p = .building ∧ v.incident = true) := by
    rcases ho with ⟨-, h⟩ | ⟨rfl, -⟩
    · simp [h]
    · simp
  have hcontrol : ¬(p = .override ∧ v.resolver.control = .notInControl) := by
    rcases ho with ⟨rfl, -⟩ | ⟨-, h⟩
    · simp
    · simp [h]
  simp only [resetFanBody, hn]
  rw [if_neg hguard, if_neg hcontrol]
  by_cases hst : (v.fan n).state ≠ .tripped
  · rw [if_pos hst, if_pos (.inl hst)]
  · rw [if_neg hst]
    by_cases hr : (v.fan n).reportsFault = true
    · rw [if_pos hr, if_pos (.inr hr)]
    · rw [if_neg hr, if_neg (not_or.2 ⟨hst, hr⟩)]
theorem Fan.reportsFault_iff (f : Fan) : f.reportsFault = true ↔ ∃ r, f.report = some r ∧ r.fault ≠ 0 := by
  unfold Fan.reportsFault
  cases f.report <;> simp

theorem exec_resetFan (hd : (s.port p).decoder = .waiting) (hp : rowResetFan.ports.contains p = true)
    (hb : resetFanBody p index (s.frameTaken p) = doneNow (State.finish v)) :
    exec (.resetFan p index []) s = .next (v.sends p ⟨.done, 0x1A, index, []⟩) :=
  serve_accepted (row := rowResetFan) hd hp (by decide) rfl hb
theorem exec_resetFan_refused (hd : (s.port p).decoder = .waiting) (hp : rowResetFan.ports.contains p = true)
    (hb : resetFanBody p index (s.frameTaken p) = refuse (s.frameTaken p) .refusedState) :
    exec (.resetFan p index []) s = .next ((s.frameTaken p).modPort p fun q =>
      { q with response := some ⟨.refusedState, 0x1A, index, []⟩ }) := by
  refine congrArg Host.Outcome.next ((serve_owned hd (by decide) hp rfl).trans ?_)
  rw [hb]; rfl

/-- A request whose owner works on one fan leaves all that lasts as it answered. -/
theorem State.OnlyFan.sends_lasting {u : State} (h : (s.frameTaken p).OnlyFan u n) (r : Response) :
    (u.sends p r).lasting = s.answered p r := by
  rw [State.sends_lasting, h.lasting]; rfl

end

/-- Settles O26: by the fan's state each request is the one operation, which holds or stops the fan, or makes it READY; a fan
that holds or stops with no start pending is idle, so the passes leave it. -/
theorem reenrolAndResetFanByState : Obligations.ReenrolAndResetFanByState := by
  refine ⟨fun index n s hd hl hn => ?reenrol, fun p index n s hd hn hp => ?reset⟩
  case reenrol =>
    intro r v
    have hfan : v.fan n = s.fan n := State.frameTaken_fan ..
    refine ⟨fun h => ?held, fun h => ?stopped, fun h => ?refused⟩
    case held =>
      have hst : (v.fan n).state = .ready ∨ (v.fan n).state = .restartHold := by rw [hfan]; exact h
      have hu := v.reenrolHeld_fan n
      have hdue := State.reenrolHeld_due hst
      rw [hfan] at hu
      rw [hfan, State.frameTaken_alloc, State.frameTaken_resolver] at hdue
      have hleft := State.sends_idle (n := n) .building r (u := v.reenrolHeld n) (by rw [hu]; exact .inl (by simp))
      rw [hu] at hleft
      refine ⟨_, _, exec_reenrolFan hd hl hn (reenrolByState_held hst), rfl, v.reenrolHeld_onlyFan n,
        (v.reenrolHeld_line n).trans (State.frameTaken_line ..), v.reenrolHeld_quiet n, hu, hdue,
        (v.reenrolHeld_onlyFan n).sends_lasting r, ?_⟩
      rw [hleft]
      exact ⟨rfl, rfl, rfl, rfl⟩
    case stopped =>
      have hst : (v.fan n).state = .starting ∨ (v.fan n).state = .running := by rw [hfan]; exact h
      have hu := v.reenrolStopped_fan n
      have hmem := State.reenrolStopped_mem (v := v) (n := n)
      rw [hfan] at hu hmem
      rw [State.frameTaken_link] at hmem
      have hleft := State.sends_idle (n := n) .building r (u := v.reenrolStopped n) (by rw [hu]; exact .inr ⟨rfl, rfl⟩)
      rw [hu] at hleft
      refine ⟨_, _, exec_reenrolFan hd hl hn (reenrolByState_stopped hst), rfl, v.reenrolStopped_onlyFan n,
        v.reenrolStopped_quiet n, State.reenrolStopped_due hst, hu, hmem, (v.reenrolStopped_onlyFan n).sends_lasting r, ?_⟩
      rw [hleft]
      exact ⟨rfl, rfl, rfl, rfl, rfl, rfl⟩
    case refused => exact exec_reenrolFan_refused hd hl hn (reenrolByState_refused (by rw [State.frameTaken_fan]; exact h))
  case reset =>
    intro faulty r
    have hfan : (s.frameTaken p).fan n = s.fan n := State.frameTaken_fan ..
    have hports : rowResetFan.ports.contains p = true := by rcases hp with ⟨rfl, -⟩ | ⟨rfl, -⟩ <;> rfl
    have hbody := resetFanBody_open (v := s.frameTaken p) hn (hp.imp
      (fun h => ⟨h.1, by simpa using State.not_incident h.2⟩) fun h => ⟨h.1, by rw [State.frameTaken_resolver]; exact h.2⟩)
    have hfaulty : ((s.fan n).state ≠ .tripped ∨ (s.fan n).reportsFault = true) ↔ faulty :=
      or_congr Iff.rfl (s.fan n).reportsFault_iff
    rw [hfan] at hbody
    refine ⟨fun h => exec_resetFan_refused hd hports (hbody.trans (if_pos (hfaulty.2 h))), fun h => ?_⟩
    have hst : (s.fan n).state = .tripped := not_not.1 fun k => h (.inl k)
    refine ⟨_, _, exec_resetFan hd hports (hbody.trans (if_neg (mt hfaulty.1 h))), rfl, State.fanReset_onlyFan _ n,
      State.fanReset_keepsRest _ n, (State.fanReset_onlyFan _ n).sends_lasting r,
      fun hs => (State.sends_faultClear p r (State.fanReset_faultClear (State.frameTaken_alarms_sound hs))).2, fun hre => ?held, fun hre => ?ready⟩
    case held =>
      have hu : ((s.frameTaken p).fanReset n).fan n = { s.fan n with state := .enrolHold, timer := some 10, reenrolPending := false } := by
        rw [State.fanReset_held (by rw [hfan]; exact hre), State.enterEnrolHold_fan, State.modFan_fan_self, State.clearAlarm_fan, hfan]
      have hline : ((s.frameTaken p).fanReset n).line = s.line := by
        rw [State.fanReset_held (by rw [hfan]; exact hre), State.enterEnrolHold, State.enterState, State.triggerIf_line]
        exact State.frameTaken_line ..
      have hleft := State.sends_idle (n := n) p r (u := (s.frameTaken p).fanReset n) (by rw [hu]; exact .inl (by simp))
      rw [hu] at hleft
      refine ⟨hu, hline, ?_⟩
      rw [hleft]
      exact ⟨rfl, rfl, rfl⟩
    case ready =>
      have hready := State.fanReset_readied (v := s.frameTaken p) (n := n) (by rw [hfan]; exact hst) (by rw [hfan]; exact hre)
      have hstate := Fan.passKeeps_ready.settle (s := (s.frameTaken p).fanReset n) (n := n)
        (by rw [hready.fan]; exact (Fan.readied_state _ _ _).imp_right .inl)
      rw [hfan] at hready
      exact ⟨hready, by rw [State.sends_fan]; exact hstate⟩

end Sys2Proof.Machine

/-! ## The request WRITE FAN (R73, R75, R157) -/

namespace Sys2Proof.Machine

section
variable {v : State} {n : FanId} {index : Byte} {data : List Word} {f : Bool} {ranges : List (Nat × Nat)}

/-! ### The operands -/

/-- R5, R75: a clamped field of ranges that fit a word fits one. -/
theorem clampFields_lt (hr : ∀ r ∈ ranges, r.1 < 65536 ∧ r.2 < 65536) {start x : Nat} (h : x ∈ clampFields ranges data start) : x < 65536 := by
  obtain ⟨i, hi, rfl⟩ := List.getElem_of_mem h
  have hi' : i < ranges.length := by simp [clampFields] at hi; omega
  have hlt := hr _ (List.getElem_mem hi')
  simp only [clampFields, List.getElem_zipWith, clampField, clampTo]
  omega
/-- R157: a write is not a clamped one exactly where its words are the first and those of the clamped fields. -/
theorem anyClamped_words (hl : data.length = ranges.length + 1) (hr : ∀ r ∈ ranges, r.1 < 65536 ∧ r.2 < 65536) :
    anyClamped ranges data 1 = false ↔ data = dataWord data 0 :: (clampFields ranges data 1).map num := by
  obtain ⟨w, ws, rfl⟩ : ∃ w ws, data = w :: ws := List.exists_cons_of_length_pos (by omega)
  have hws : ws.take ranges.length = ws := List.take_of_length_le (by simpa using hl.le)
  have hnum : ∀ l : List Nat, (∀ x ∈ l, x < 65536) → (l.map num).map BitVec.toNat = l := fun l h => by
    rw [List.map_map]
    exact (List.map_congr_left fun x hx => toNat_num (h x hx)).trans (List.map_id _)
  have hword : ∀ l : List Word, (l.map BitVec.toNat).map num = l := fun l => by
    rw [List.map_map]
    exact (List.map_congr_left fun x _ => num_toNat x).trans (List.map_id _)
  have hc := hnum _ fun x hx => clampFields_lt (start := 1) (data := w :: ws) hr hx
  have hd : (w :: ws).drop 1 = ws := rfl
  have h0 : dataWord (w :: ws) 0 = w := rfl
  rw [anyClamped, hd, hws, bne_eq_false_iff_eq, h0, List.cons.injEq, eq_self_iff_true, true_and]
  exact ⟨fun h => by rw [h, hword], fun h => by rw [← hc, ← h]⟩

/-- R75: the clamped record, field by field. -/
theorem fanRecord_eq (hl : data.length = 8) (f : Bool) (x : Service) : fanRecord f x data =
    ⟨f, clampTo 10 3000 (dataNat data 1), clampTo 1 2000 (dataNat data 2), clampTo 10 60 (dataNat data 3),
      clampTo 0 2 (dataNat data 4), clampTo 5 120 (dataNat data 5), clampTo 10 300 (dataNat data 6),
      clampTo 0 300 (dataNat data 7), x⟩ := by
  have h : ∀ i (hi : i < fanRanges.length), (clampFields fanRanges data 1).getD i 0 =
      clampTo fanRanges[i].1 fanRanges[i].2 (dataNat data (1 + i)) := fun i hi =>
    clampFields_getD hi (by change i < 7 at hi; omega)
  unfold fanRecord
  simp only [h 0 (by decide), h 1 (by decide), h 2 (by decide), h 3 (by decide), h 4 (by decide), h 5 (by decide), h 6 (by decide)]
  rfl
/-- R75: the words of a clamped record, but for the service. -/
theorem fanConfigWords_record (hl : data.length = 8) (f : Bool) (x : Service) :
    (fanConfigWords (fanRecord f x data)).take 8 = flagWord f :: (clampFields fanRanges data 1).map num := by
  have hv : (clampFields fanRanges data 1).length = 7 := by simp [clampFields, fanRanges, hl]
  unfold fanRecord
  generalize clampFields fanRanges data 1 = l at hv
  match l, hv with
  | [_, _, _, _, _, _, _], _ => rfl
theorem fan_status (hl : data.length = 8) (h0 : dataWord data 0 = flagWord f) (x : Service) :
    (if anyClamped fanRanges data 1 = true then Status.doneClamped else .done) =
      if data = (fanConfigWords (fanRecord f x data)).take 8 then .done else .doneClamped := by
  have hw := anyClamped_words (ranges := fanRanges) hl (by decide)
  rw [h0, ← fanConfigWords_record hl f x] at hw
  by_cases h : data = (fanConfigWords (fanRecord f x data)).take 8
  · rw [if_pos h, if_neg (by rw [hw.2 h]; decide)]
  · rw [if_neg h, if_pos]
    simpa using fun k => h (hw.1 k)

/-- R75: an accepted WRITE FAN. -/
theorem writeFanBody_accepts (hi : v.incident = false) (hn : fanOf index = some n) (hl : data.length = 8)
    (h0 : dataNat data 0 = if f then 1 else 0)
    (hb : ¬((v.fan n).config.fitted = true ∧ f = false ∧ (v.fan n).busy = true)) :
    writeFanBody index data v = ⟨(v.fanWritten n (fanRecord f (v.fan n).config.service data)).finish,
      if data = (fanConfigWords (fanRecord f (v.fan n).config.service data)).take 8 then .done else .doneClamped, []⟩ := by
  have hd : dataWord data 0 = flagWord f := BitVec.eq_of_toNat_eq (h0.trans (by cases f <;> rfl))
  have hf : yesNoOf (dataWord data 0) = some f := by rw [hd]; cases f <;> rfl
  have hbusy : ¬((v.fan n).config.fitted && !f && (v.fan n).busy) = true := by simpa [and_assoc] using hb
  unfold writeFanBody
  simp only [hn, unlessGuarded_of_quiet hi, hf]
  rw [if_neg hbusy, doneIf, fan_status hl hd]

theorem exec_writeFan {s : State} (hd : (s.port .building).decoder = .waiting) (hl : s.plan.level = .none) (hn : fanOf index = some n)
    (hw : data.length = 8) (h0 : dataNat data 0 = if f then 1 else 0)
    (hb : ¬((s.fan n).config.fitted = true ∧ f = false ∧ (s.fan n).busy = true)) :
    exec (.writeFan .building index data) s =
      .next (((s.frameTaken .building).fanWritten n (fanRecord f (s.fan n).config.service data)).sends .building
        ⟨if data = (fanConfigWords (fanRecord f (s.fan n).config.service data)).take 8 then .done else .doneClamped, 0x12, index, []⟩) := by
  have hi : (s.frameTaken .building).incident = false := by simpa using State.not_incident hl
  have hfan : (s.frameTaken .building).fan n = s.fan n := State.frameTaken_fan ..
  have hbody := writeFanBody_accepts hi hn hw h0 (by rw [hfan]; exact hb)
  rw [hfan] at hbody
  exact serve_accepted (row := rowWriteFan) hd rfl (by decide) hw hbody

end

end Sys2Proof.Machine

/-! ## The effect of WRITE FAN before its passes (R75, R76, R92, R146, R153, R176) -/

namespace Sys2Proof.Machine

section
variable (s : State) (n : FanId) {m : FanId} {c : FanConfig}

/-! ### The stored record -/

/-- R75: the resolved fields are worked out again from a stored ability where a rating changes. -/
theorem Fan.rated_table (f : Fan) (c : FanConfig) : f.rated c =
    if f.config.minSpeed = c.minSpeed ∧ f.config.cls = c.cls then { f with config := c }
    else match f.ability with
      | none => { f with config := c }
      | some .starter => { f with config := c, cls := some 0, minSpeed := some 100 }
      | some (.drive m low k) =>
        { f with config := c, cls := some (min c.cls k), minSpeed := some (if m = .variable then max c.minSpeed low else 100) } := by
  unfold Fan.rated
  by_cases h : f.config.minSpeed = c.minSpeed ∧ f.config.cls = c.cls
  · rw [if_pos h, if_neg (by simp [h.1, h.2])]
  · rw [if_neg h, if_pos (Decidable.not_and_iff_or_not.1 h)]
    unfold Fan.reresolve
    cases f.ability with
    | none => rfl
    | some a =>
      cases a with
      | starter => rfl
      | drive m low k => cases m <;> rfl

theorem State.fanRated_lasting (c : FanConfig) : (s.fanRated n c).lasting = { s.lasting with
    fanConfigs := upd (s.fans.map Fan.config) n fun _ => c
    store := { s.store with fans := sealWith fansImage (upd s.store.fans.contents n fun _ => c) } } :=
  (State.ratingsChanged_lasting _ _ _ _).trans s.fanStored_lasting
theorem State.fanRated_quiet (c : FanConfig) : (s.fanStored n c).Quiet (s.fanRated n c) := by
  unfold State.fanRated State.ratingsChanged
  split
  · exact ⟨rfl, rfl⟩
  · exact .refl _

/-! ### The fitting -/

theorem State.fitFan_quiet : s.Quiet (s.fitFan n) := by
  have h1 : s.Quiet (s.driveFitted n) := ⟨rfl, rfl⟩
  have h2 := h1.trans ((s.driveFitted n).enterEnrolling_quiet n)
  exact h2.trans (State.trigger_quiet _)
theorem State.unfitFan_clears : s.Clears (s.unfitFan n) (.fanFault n) := by
  obtain ⟨t, -, -, -, hclears, he⟩ := s.fanLeft_work n
  have hq : t.Quiet (s.unfitFan n) := by
    have hl : t.Quiet (s.fanLeft n) := by rw [he]; exact ⟨rfl, rfl⟩
    exact hl.trans ⟨rfl, rfl⟩
  exact hclears.quiet hq
/-- R76: of the alarm list and the ports the fitting changes the fan's entry alone. -/
theorem State.refitFan_clears (old new : Bool) :
    s.Quiet (s.refitFan n old new) ∨ s.Clears (s.refitFan n old new) (.fanFault n) := by
  unfold State.refitFan
  split
  · exact .inl (.refl s)
  · split
    · exact .inl (s.fitFan_quiet n)
    · exact .inr (s.unfitFan_clears n)

/-- R153: a drive that becomes fitted has a clear link. -/
theorem State.fitFan_link : (s.fitFan n).link (.drive n) = {} := by
  have hd : (s.driveFitted n).link (.drive n) = {} := upd_get_self _ _ _
  exact (((s.driveFitted n).enterEnrolling_fanWork n).link _).trans hd
theorem State.fitFan_polls : (s.fitFan n).rebuildPolls = s.fitFan n :=
  State.rebuildPolls_of_line (v := s.driveFitted n) (State.rebuildPolls_rebuildPolls _)
    ((s.driveFitted n).enterEnrolling_fanWork n).queueOnly fun d => deviceFitted_of_lasting (s.fitFan_onlyFan n).lasting d
/-- R78: its OFFER is queued. -/
theorem State.fitFan_mem (hc : (s.fan n).config.fitted = true) : .offer n ∈ (s.fitFan n).line.queue :=
  (s.driveFitted n).enterEnrolling_mem n hc (congrArg Link.lost (upd_get_self _ _ _ : (s.driveFitted n).link (.drive n) = {}))
theorem State.unfitFan_link : (s.unfitFan n).link (.drive n) = {} := upd_get_self _ _ _
theorem State.unfitFan_polls : (s.unfitFan n).rebuildPolls = s.unfitFan n := by
  rw [State.unfitFan_eq]
  rfl

/-! ### The whole request -/

theorem State.fanWritten_stays (h : (s.fan n).config.fitted = c.fitted) : s.fanWritten n c = (s.fanRated n c).trigger := by
  rw [State.fanWritten_eq, State.refitFan, if_pos h]
theorem State.fanWritten_fits (h : (s.fan n).config.fitted = false) (hc : c.fitted = true) :
    s.fanWritten n c = ((s.fanRated n c).fitFan n).trigger := by
  rw [State.fanWritten_eq, State.refitFan, if_neg (by rw [h, hc]; decide), if_pos hc]
theorem State.fanWritten_unfits (h : (s.fan n).config.fitted = true) (hc : c.fitted = false) :
    s.fanWritten n c = ((s.fanRated n c).unfitFan n).trigger := by
  rw [State.fanWritten_eq, State.refitFan, if_neg (by rw [h, hc]; decide), if_neg (by rw [hc]; decide)]

theorem State.fanWritten_lasting (c : FanConfig) : (s.fanWritten n c).lasting = { s.lasting with
    fanConfigs := upd (s.fans.map Fan.config) n fun _ => c
    store := { s.store with fans := sealWith fansImage (upd s.store.fans.contents n fun _ => c) } } := by
  rw [State.fanWritten_eq, State.trigger_lasting, State.refitFan_lasting, State.fanRated_lasting]
theorem State.fanWritten_fan_other (c : FanConfig) (hm : m ≠ n) : (s.fanWritten n c).fan m = s.fan m := by
  rw [State.fanWritten_eq, State.trigger_fan, State.refitFan]
  split
  · exact s.fanRated_fan_other n c hm
  · split
    · exact (State.fitFan_fan_other _ n hm).trans (s.fanRated_fan_other n c hm)
    · rw [State.unfitFan_fan, if_neg hm]; exact s.fanRated_fan_other n c hm
/-- R75, R76: the alarm list and the ports of a WRITE FAN are those of its record stored, but for the fan's own entry. -/
theorem State.fanWritten_clears (c : FanConfig) :
    (s.fanStored n c).Quiet (s.fanWritten n c) ∨ (s.fanStored n c).Clears (s.fanWritten n c) (.fanFault n) := by
  have hrated := s.fanRated_quiet n c
  have ht : (s.fanRated n c).partTime = (s.fanStored n c).partTime := by
    rw [State.fanRated, State.ratingsChanged]
    split
    · rfl
    · rfl
  rw [State.fanWritten_eq]
  refine ((s.fanRated n c).refitFan_clears n (s.fan n).config.fitted c.fitted).imp (fun h => ?_) fun h => ?_
  · exact (hrated.trans h).trans (State.trigger_quiet _)
  · exact (h.from hrated ht).quiet (State.trigger_quiet _)
theorem State.fanWritten_keepsRest (c : FanConfig) : s.KeepsRest (s.fanWritten n c) [.storeFault 2, .fanFault n] [.configChanged] := by
  have hstored : s.KeepsRest (s.fanStored n c) [.storeFault 2, .fanFault n] [.configChanged] :=
    s.fanStored_keepsRest List.mem_cons_self List.mem_cons_self
  exact hstored.trans ((s.fanWritten_clears n c).elim (fun h => h.keepsRest _ _) fun h =>
    h.keepsRest (List.mem_cons_of_mem _ List.mem_cons_self))
/-- R7, R176: the entry of group 3 is cleared and the write is told. -/
theorem State.fanWritten_told (c : FanConfig) :
    (s.alarms.Sound → (s.fanWritten n c).alarms.hasActive (.storeFault 2) = false) ∧
    ∀ q, q ≠ .building → (s.fanWritten n c).noticed .configChanged q := by
  have hactive : (s.fanWritten n c).alarms.hasActive (.storeFault 2) = (s.fanStored n c).alarms.hasActive (.storeFault 2) := by
    refine (s.fanWritten_clears n c).elim (fun h => by rw [h.1]) fun h => ?_
    rw [h.1]
    exact AlarmList.clear_hasActive_other (by simp) _
  have hports : (s.fanWritten n c).ports = (s.fanStored n c).ports := (s.fanWritten_clears n c).elim And.right And.right
  refine ⟨fun hs => hactive.trans (State.fanStored_hasActive hs), fun q hq => ?_⟩
  unfold State.noticed State.port
  rw [hports]
  exact s.fanStored_noticed hq

end

end Sys2Proof.Machine

/-! ## WRITE FAN settled (R75, R76, R92, R93) -/

namespace Sys2Proof.Machine

section
variable (s : State)

/-! ### The duty list through the passes (R93) -/

theorem State.reprove_duty : s.reprove.duty = s.duty := by
  unfold State.reprove
  split
  · rfl
  · split
    · have hg := duty_of_plant (s := { s with pathProven := true, grace := none }) (State.pathGained_plant { s with pathProven := true })
      rw [State.trigger_duty]
      exact hg
    · exact (State.Judged.pathLost s).duty
/-- R93: the passes turn the duty list over. -/
theorem State.pass_dutyPerm (b : Bool) : (s.pass b).duty.Perm s.duty := by
  obtain ⟨-, hduty, -⟩ := s.recorded_same b
  have hw : (s.recorded b).dampersTake.reprove.duty = s.duty :=
    ((State.reprove_duty _).trans (s.recorded b).dampersTake_starting.duty).trans hduty
  rw [State.pass_eq, State.takeRunSet_duty, hw]
  split
  · rw [← turnOver_eq]; exact turnOver_perm _
  · exact .refl _
theorem State.settle_dutyPerm : s.settle.duty.Perm s.duty :=
  State.settle_keeps (Q := fun q => q.duty.Perm s.duty) (fun q hq => (q.pass_dutyPerm false).trans hq) (.refl _)
theorem State.sends_duty_mem (u : State) (p : Port) (r : Response) {m : FanId} : m ∈ (u.sends p r).duty ↔ m ∈ u.duty := by
  have hd : (u.sends p r).duty = u.settle.duty := by rw [State.sends, State.modPort_duty]; rfl
  rw [hd]
  exact u.settle_dutyPerm.mem_iff

/-! ### The three courses of the fitted field -/

variable {s} {n : FanId} {c : FanConfig}

theorem State.trigger_polls (h : s.rebuildPolls = s) : s.trigger.rebuildPolls = s.trigger := congrArg State.trigger h
theorem State.trigger_link (d : Device) : s.trigger.link d = s.link d := rfl
theorem State.fanWritten_kept (h : (s.fan n).config.fitted = c.fitted) :
    (s.fanWritten n c).duty = s.duty ∧ (s.fanWritten n c).fan n = (s.fan n).rated c := by
  rw [State.fanWritten_stays s n h, State.trigger_duty, State.trigger_fan]
  exact ⟨duty_of_plant (s.fanRated_beside n c).1, s.fanRated_fan n c⟩
/-- R76, R78, R92, R146: a fan that becomes fitted. -/
theorem State.fanWritten_joined (h : (s.fan n).config.fitted = false) (hc : c.fitted = true) :
    (s.fanWritten n c).duty = s.duty ++ [n] ∧ (s.fanWritten n c).fan n = ({ s.fan n with config := c } : Fan).enrols ∧
    .offer n ∈ (s.fanWritten n c).line.queue ∧ (s.fanWritten n c).rebuildPolls = s.fanWritten n c ∧
    (s.fanWritten n c).link (.drive n) = {} := by
  have henrols : ((s.fan n).rated c).enrols = ({ s.fan n with config := c } : Fan).enrols := by rw [Fan.rated_eq]; rfl
  have hfitted : ((s.fanRated n c).fan n).config.fitted = true := by rw [State.fanRated_fan, Fan.rated_config]; exact hc
  have hduty : (s.fanRated n c).duty = s.duty := duty_of_plant (s.fanRated_beside n c).1
  have hpolls := (s.fanRated n c).fitFan_polls n
  rw [State.fanWritten_fits s n h hc, State.trigger_duty, State.trigger_fan]
  refine ⟨?_, ?_, (s.fanRated n c).fitFan_mem n hfitted, State.trigger_polls hpolls, (s.fanRated n c).fitFan_link n⟩
  · rw [State.fitFan_duty, hduty]
  · rw [State.fitFan_fan, State.fanRated_fan, henrols]
/-- R76, R92, R146, R153: a fan that ceases to be fitted. -/
theorem State.fanWritten_left (h : (s.fan n).config.fitted = true) (hc : c.fitted = false) :
    (s.fanWritten n c).duty = s.duty.filter (· != n) ∧ (s.fanWritten n c).fan n = ({ s.fan n with config := c } : Fan).leaves ∧
    (s.alarms.Sound → (s.fanWritten n c).alarms.hasActive (.fanFault n) = false) ∧
    (∀ o ∈ (s.fanWritten n c).line.queue, o.device ≠ .drive n) ∧
    (s.fanWritten n c).line.inFlight = (s.line.inFlight.map fun x => if x.device = .drive n then { x with disowned := true } else x) ∧
    (s.fanWritten n c).rebuildPolls = s.fanWritten n c ∧ (s.fanWritten n c).link (.drive n) = {} := by
  have hleaves : ((s.fan n).rated c).leaves = ({ s.fan n with config := c } : Fan).leaves := by rw [Fan.rated_eq]; rfl
  have hduty : (s.fanRated n c).duty = s.duty := duty_of_plant (s.fanRated_beside n c).1
  have hline : (s.fanRated n c).line = s.line := (s.fanRated_beside n c).2.1
  have hpolls := (s.fanRated n c).unfitFan_polls n
  have hsound : s.alarms.Sound → (s.fanRated n c).alarms.Sound := fun hs => by
    have ha : (s.fanStored n c).alarms = s.alarms.clear (.storeFault 2) s.partTime := State.raiseOthers_alarms ..
    rw [(s.fanRated_quiet n c).1, ha]
    exact hs.clear _ _
  rw [State.fanWritten_unfits s n h hc, State.trigger_duty, State.trigger_fan, State.trigger_alarms, State.trigger_line]
  refine ⟨?_, ?_, fun hs => ?_, fun o ho => ?_, ?_, State.trigger_polls hpolls,
    State.trigger_link _ |>.trans ((s.fanRated n c).unfitFan_link n)⟩
  · rw [State.unfitFan_duty, hduty]
  · rw [State.unfitFan_fan, if_pos rfl, State.fanRated_fan, hleaves]
  · exact (State.FaultClear.of_clears (hsound hs) ((s.fanRated n c).unfitFan_clears n)).2
  · rw [State.unfitFan_queue] at ho
    exact mem_dropFor ho
  · rw [State.unfitFan_inFlight, hline]

end

/-- Settles O18: the record is stored and its ratings worked out; the fan then stays, joins the duty list or leaves it, and a
fan that has joined or left is idle, so the passes leave it. -/
theorem writeFanStoresTheRecord : Obligations.WriteFanStoresTheRecord := by
  intro index data n f s hd hl hn hlen h0 hbusy c f0 r
  have hrec : fanRecord f (s.fan n).config.service data = c := fanRecord_eq hlen f _
  have hexec := exec_writeFan hd hl hn hlen h0 hbusy
  rw [hrec] at hexec
  have hfit : c.fitted = f := rfl
  clear_value c
  subst hfit
  have hfan : ∀ m, (s.frameTaken .building).fan m = s.fan m := fun m => State.frameTaken_fan ..
  have hduty : (s.frameTaken .building).duty = s.duty := State.frameTaken_duty ..
  have hline : (s.frameTaken .building).line = s.line := State.frameTaken_line ..
  have hsound : s.alarms.Sound → (s.frameTaken .building).alarms.Sound := State.frameTaken_alarms_sound
  have hdue : ((s.frameTaken .building).fanWritten n c).alloc.due = true := rfl
  have hlasting := (s.frameTaken .building).fanWritten_lasting n c
  have hkeeps := (s.frameTaken .building).fanWritten_keepsRest n c
  have hothers := fun m (hm : m ≠ n) => (s.frameTaken .building).fanWritten_fan_other n c hm
  have hkept := State.fanWritten_kept (s := s.frameTaken .building) (n := n) (c := c)
  have hjoined := State.fanWritten_joined (s := s.frameTaken .building) (n := n) (c := c)
  have hleft := State.fanWritten_left (s := s.frameTaken .building) (n := n) (c := c)
  obtain ⟨hstored, htold⟩ := (s.frameTaken .building).fanWritten_told n c
  rw [hfan, hduty] at hkept hjoined hleft
  rw [hline] at hleft
  rw [State.frameTaken_fans, State.frameTaken_store] at hlasting
  generalize (s.frameTaken .building).fanWritten n c = u at *
  have hidle : (u.fan n).Idle → (u.sends .building r).fan n = u.fan n := u.sends_idle .building r
  have hmem : ∀ m, m ∈ (u.sends .building r).duty ↔ m ∈ u.duty := fun m => u.sends_duty_mem .building r
  refine ⟨u, _, hexec, rfl, hdue, fun h => ?line, fun h hc => ?orders, fun hs => ?stored, hkeeps,
    fun m hm => (hothers m hm).trans (hfan m), fun h => ?kept, fun h hc => ?joined, fun h hc => ?left, ?lasting,
    fun h hc => ?enrolling, fun h hc => ?absent, fun m hm => ?duty,
    State.sends_noticed _ _ _ _ (htold _ (by decide)), State.sends_noticed _ _ _ _ (htold _ (by decide))⟩
  case line =>
    rcases Bool.eq_false_or_eq_true (s.fan n).config.fitted with hf | hf
    · obtain ⟨-, -, -, -, -, hpolls, hlink⟩ := hleft hf (by simpa [f0, hf] using h)
      exact ⟨hpolls, hlink⟩
    · obtain ⟨-, -, -, hpolls, hlink⟩ := hjoined hf (by simpa [f0, hf] using h)
      exact ⟨hpolls, hlink⟩
  case orders =>
    obtain ⟨-, -, -, hqueue, hflight, -, -⟩ := hleft h hc
    exact ⟨hqueue, hflight⟩
  case stored => rw [State.sends_hasActive _ _ _ rfl]; exact hstored (hsound hs)
  case kept => exact ⟨(hkept h).1, (hkept h).2.trans (Fan.rated_table _ c)⟩
  case joined =>
    obtain ⟨hd, hf, ho, -, -⟩ := hjoined h hc
    exact ⟨hd, hf, ho⟩
  case left =>
    obtain ⟨hd, hf, ha, -, -, -, -⟩ := hleft h hc
    refine ⟨hd.trans (List.filter_congr fun m _ => ?_), hf, fun hs => ha (hsound hs)⟩
    exact Bool.eq_iff_iff.2 (by simp)
  case lasting => rw [State.sends_lasting, hlasting]; rfl
  case enrolling =>
    obtain ⟨hd, hf, -, -, -⟩ := hjoined h hc
    rw [hidle (by rw [hf]; exact .inl (by simp [Fan.enrols])), hf, hmem, hd]
    exact ⟨rfl, by simp⟩
  case absent =>
    obtain ⟨hd, hf, -, -, -, -, -⟩ := hleft h hc
    rw [hidle (by rw [hf]; exact .inl (by simp [Fan.leaves])), hf, hmem, hd]
    exact ⟨rfl, rfl, rfl, rfl, by simp⟩
  case duty =>
    rw [hmem]
    by_cases he : (s.fan n).config.fitted = c.fitted
    · rw [(hkept he).1]
    · rcases Bool.eq_false_or_eq_true (s.fan n).config.fitted with hf | hf
      · rw [(hleft hf (by simpa [hf] using he)).1]
        simp [hm]
      · rw [(hjoined hf (by simpa [hf] using he)).1]
        simp [hm]

end Sys2Proof.Machine
